-- ==== Sys2Proof/Word.lean ====
section
/-! DEFINITION. The words that pass over a station port (spec/00_scope.md I.5, spec/12 12.1). -/

namespace Sys2Proof

/-- A link word: bit 15 is the even parity bit, bits 14 to 0 are the payload (I.5). -/
abbrev LinkWord := BitVec 16

/-- The payload of a link word. A data word of a request is known by its payload (I.5). -/
abbrev Payload := BitVec 15

end Sys2Proof
end

