-- ==== Sys2Proof/Syntax.lean ====
section
/-! DEFINITION. The commands of the block: one constructor of `Instr` for each row of spec/opcode_table.json. -/

namespace Sys2Proof

/-- The four stations of Table I-1. A station names its port too: CABIN port A, ERECTOR B, GROUT C, MUCK D (R155). -/
inductive Station where
  | cabin | erector | grout | muck
  deriving DecidableEq, Repr

/-- The seven pieces of a ring (Table 4-2). -/
inductive Piece where
  | s0 | s1 | s2 | s3 | s4 | s5 | k
  deriving DecidableEq, Repr

/-- The index of a jack group, G0 to G9. -/
abbrev GroupIx := Fin 10

/-- The index of a tail line, TL0 to TL5. -/
abbrev LineIx := Fin 6

/-- The number of a measurement, M0 to M14. -/
abbrev MeasIx := Fin 15

/-- The keys of the fault classes of Table 8-1: a class with its source. `measJump j` is the key of M(8 + j). -/
inductive FaultKey where
  | torqueHigh
  | faceLow
  | faceHigh
  | contactLoss (g : GroupIx)
  | claimTimeout (pc : Piece)
  | groutBlocked (p : LineIx)
  | groutGap
  | overexc
  | underexc
  | measInvalid (m : MeasIx)
  | measJump (j : Fin 7)
  | stationSilent (st : Station)
  deriving DecidableEq, Repr

/-- The commands: requests of the stations, events of the station ports and of the shield's input lines, and the ends of the
part's timed operations. A request constructor stands for the frame end of a whole frame that carries that request and that
passes rows 1 to 9 of Table 9-2 (log entry 13). An expiry constructor stands for the moment at which the named time runs out. -/
inductive Instr where
  /-- The RESET input becomes active, or power comes up with it active. -/
  | deviceReset
  /-- The RESET input is released. -/
  | resetRelease
  /-- 1,000 ms of the timebase have passed. -/
  | secondsTick
  /-- One step pulse of group `g`, its direction line high (`extending`) or low. -/
  | strokePulse (g : GroupIx) (extending : Bool)
  | dwellTimeExpiry (g : GroupIx)
  /-- One pulse of the cutterhead revolution input. -/
  | revolutionPulse
  | stopTimerExpiry
  | spinupTimeExpiry
  | estopAssert
  | estopRelease
  /-- The select line of the station's port becomes active. -/
  | selectActive (st : Station)
  /-- The sixteenth bit of a frame has been taken at the station's port: `header` is the word sent. -/
  | headerCheck (st : Station) (header : LinkWord)
  /-- The sixteenth bit of a returned word has been sent at the station's port. -/
  | linkWordSent (st : Station)
  /-- The select line of the station's port becomes inactive: after the header the frame carried the whole words `data` and
  then `extraBits` further bits (where no header was taken, `extraBits` bits in all). -/
  | frameEnd (st : Station) (data : List LinkWord) (extraBits : Nat)
  /-- CONFIGURE: pairs of an item code and a value. -/
  | configure (pairs : List (Payload × Payload))
  /-- REFERENCE STROKES: the strokes of G0 to G9. -/
  | referenceStrokes (values : List Payload)
  | advanceStart
  | advanceStop
  | setLevel (level : Payload)
  | ringBegin (number key : Payload)
  | firstFaultRelease
  | claimPiece (code : Payload)
  | withdrawPiece (code : Payload)
  | piecePlaced (code : Payload)
  | lineSuspend (line : Payload)
  | lineResume (line : Payload)
  | trainIn (cars capacity : Payload)
  | carShift
  | trainOut
  /-- MEASURE from `st`: pairs of a measurement number and a value. -/
  | measure (st : Station) (pairs : List (Payload × Payload))
  /-- FAULT CLEAR from `st` of the class and source codes. -/
  | faultClear (st : Station) (cls src : Payload)
  /-- FAULT CLEAR with class code 0 from `st`. -/
  | overflowClear (st : Station) (src : Payload)
  | portReset (st : Station)
  | silenceTimeExpiry (st : Station)
  | freshLimitPassed (m : MeasIx)
  | groutSecondTick
  | muckSecondTick
  | retryTimeExpiry (key : FaultKey)
  | pieceTimerExpiry (pc : Piece)
  | queueWaitExpiry (pc : Piece)
  deriving DecidableEq, Repr

end Sys2Proof
end

