-- ==== Sys2Proof/Decode.lean ====
section
/-! DEFINITION. The command a word of spec/opcode_table.json spells. -/

namespace Sys2Proof

/-- No row of spec/opcode_table.json gives bits (98_reader.md: no row has "fixed" or "fields"), so no word spells a command. The
words of the station links are decoded in Machine/Operands.lean. -/
def decodeTableWord (_nbits _w : Nat) : Option Instr := none

end Sys2Proof
end

