-- ==== Sys2Proof/Machine/Items.lean ====
section
/-! DEFINITION. The configuration items (R168, Tables 10-1 and 12-5): their codes, ranges, defaults and kinds. -/

namespace Sys2Proof.Machine

/-- One constructor for each item of Table 10-1; an item with several instances carries the instance. `faultMode c` is the item
of class `c` + 1. -/
inductive Item where
  | boreDiameter | ringOd | muckDensity | quantum | rounding | minContact | clearStroke | contactDwell
  | contactSlack | strokeEnd | ringTarget | claimWait | retractTime | returnTime | primeVolume | flowMax
  | pressMax | pressHyst | flowSpan | deficitLow | deficitHigh | resumeDeficit | stallTime | gapLimit
  | jumpGrout | carReserve | carOverfill | overMargin | underMargin | muckLag | judgeMin | jumpBelt
  | retrySlow | retryFast | retryLimit | silenceTime | torqueLimit | faceLow | faceHigh | penMax
  | turnPeriod | spinupTime
  | weight (p : LineIx)
  | windowOpen (p : LineIx)
  | windowClose (p : LineIx)
  | faultMode (c : Fin 12)
  | freshLimit (m : MeasIx)
  | novalPolicy (m : MeasIx)
  deriving DecidableEq, Repr

/-- The item codes of Table 12-5. -/
def Item.code : Item → Nat
  | .boreDiameter => 1 | .ringOd => 2 | .muckDensity => 3 | .quantum => 4 | .rounding => 5 | .minContact => 6
  | .clearStroke => 7 | .contactDwell => 8 | .contactSlack => 9 | .strokeEnd => 10 | .ringTarget => 11
  | .claimWait => 12 | .retractTime => 13 | .returnTime => 14 | .primeVolume => 15 | .flowMax => 16
  | .pressMax => 17 | .pressHyst => 18 | .flowSpan => 19 | .deficitLow => 20 | .deficitHigh => 21
  | .resumeDeficit => 22 | .stallTime => 23 | .gapLimit => 24 | .jumpGrout => 25 | .carReserve => 26
  | .carOverfill => 27 | .overMargin => 28 | .underMargin => 29 | .muckLag => 30 | .judgeMin => 31
  | .jumpBelt => 32 | .retrySlow => 33 | .retryFast => 34 | .retryLimit => 35 | .silenceTime => 36
  | .torqueLimit => 37 | .faceLow => 38 | .faceHigh => 39 | .penMax => 40 | .turnPeriod => 41 | .spinupTime => 42
  | .weight p => 64 + p
  | .windowOpen p => 72 + p
  | .windowClose p => 80 + p
  | .faultMode c => 97 + c
  | .freshLimit m => 112 + m
  | .novalPolicy m => 128 + m

/-- Every assigned item, in ascending order of item code. -/
def allItems : List Item :=
  [.boreDiameter, .ringOd, .muckDensity, .quantum, .rounding, .minContact, .clearStroke, .contactDwell,
   .contactSlack, .strokeEnd, .ringTarget, .claimWait, .retractTime, .returnTime, .primeVolume, .flowMax,
   .pressMax, .pressHyst, .flowSpan, .deficitLow, .deficitHigh, .resumeDeficit, .stallTime, .gapLimit,
   .jumpGrout, .carReserve, .carOverfill, .overMargin, .underMargin, .muckLag, .judgeMin, .jumpBelt,
   .retrySlow, .retryFast, .retryLimit, .silenceTime, .torqueLimit, .faceLow, .faceHigh, .penMax,
   .turnPeriod, .spinupTime]
  ++ (List.finRange 6).map .weight ++ (List.finRange 6).map .windowOpen ++ (List.finRange 6).map .windowClose
  ++ (List.finRange 12).map .faultMode ++ (List.finRange 15).map .freshLimit ++ (List.finRange 15).map .novalPolicy

/-- The item's place in `allItems`, which is its place in the configuration set. -/
def Item.idx : Item → Fin 102
  | .weight p => ⟨42 + p, by omega⟩
  | .windowOpen p => ⟨48 + p, by omega⟩
  | .windowClose p => ⟨54 + p, by omega⟩
  | .faultMode c => ⟨60 + c, by omega⟩
  | .freshLimit m => ⟨72 + m, by omega⟩
  | .novalPolicy m => ⟨87 + m, by omega⟩
  | i => Fin.ofNat 102 (i.code - 1)

/-- The item that a code names; none where the code is not assigned. -/
def Item.ofCode (code : Nat) : Option Item := allItems.find? fun i => i.code == code

/-- The range of the item's values in Table 10-1, least and greatest. CHOP and TRAP are 0, ROUND and HOLD 1 (Table 12-5). -/
def Item.range : Item → Nat × Nat
  | .boreDiameter => (3000, 12000) | .ringOd => (2500, 12000) | .muckDensity => (100, 300) | .quantum => (1, 100)
  | .rounding => (0, 1) | .minContact => (4, 8) | .clearStroke => (0, 5000) | .contactDwell => (200, 10000)
  | .contactSlack => (5, 200) | .strokeEnd => (1000, 32000) | .ringTarget => (1000, 30000) | .claimWait => (5, 600)
  | .retractTime => (5, 300) | .returnTime => (5, 300) | .primeVolume => (0, 200) | .flowMax => (16, 400)
  | .pressMax => (50, 800) | .pressHyst => (5, 200) | .flowSpan => (5, 500) | .deficitLow => (0, 2000)
  | .deficitHigh => (0, 4000) | .resumeDeficit => (1, 500) | .stallTime => (2, 120) | .gapLimit => (0, 2000)
  | .jumpGrout => (10, 2000) | .carReserve => (0, 1000) | .carOverfill => (0, 1000) | .overMargin => (1, 50)
  | .underMargin => (1, 50) | .muckLag => (0, 60) | .judgeMin => (10, 10000) | .jumpBelt => (10, 5000)
  | .retrySlow => (1, 255) | .retryFast => (1, 255) | .retryLimit => (1, 7) | .silenceTime => (50, 5000)
  | .torqueLimit => (50, 200) | .faceLow => (0, 900) | .faceHigh => (0, 1000) | .penMax => (10, 1000)
  | .turnPeriod => (100, 30000) | .spinupTime => (10, 600)
  | .weight _ => (0, 255)
  | .windowOpen _ => (0, 32767)
  | .windowClose _ => (0, 32767)
  | .faultMode _ => (0, 7)
  | .freshLimit _ => (50, 5000)
  | .novalPolicy _ => (0, 1)

/-- The values of an item: its range, and for a fault mode the five modes of R139. -/
def Item.admits (i : Item) (v : Nat) : Bool :=
  match i with
  | .faultMode _ => [0, 1, 2, 3, 7].contains v
  | _ => decide (i.range.1 ≤ v ∧ v ≤ i.range.2)

/-- The default modes of the classes 1 to 12 (Table 8-1). -/
def defaultMode (c : Fin 12) : Nat := [1, 0, 0, 2, 2, 2, 3, 2, 3, 0, 3, 2].getD c 0

/-- The defaults of Table 10-1. -/
def Item.dflt : Item → Nat
  | .boreDiameter => 6640 | .ringOd => 6300 | .muckDensity => 195 | .quantum => 10 | .rounding => 0 | .minContact => 6
  | .clearStroke => 300 | .contactDwell => 1500 | .contactSlack => 20 | .strokeEnd => 25500 | .ringTarget => 15200
  | .claimWait => 120 | .retractTime => 60 | .returnTime => 60 | .primeVolume => 30 | .flowMax => 120
  | .pressMax => 400 | .pressHyst => 20 | .flowSpan => 50 | .deficitLow => 40 | .deficitHigh => 200
  | .resumeDeficit => 20 | .stallTime => 10 | .gapLimit => 100 | .jumpGrout => 200 | .carReserve => 100
  | .carOverfill => 140 | .overMargin => 8 | .underMargin => 15 | .muckLag => 40 | .judgeMin => 500 | .jumpBelt => 500
  | .retrySlow => 30 | .retryFast => 5 | .retryLimit => 3 | .silenceTime => 500 | .torqueLimit => 110 | .faceLow => 180
  | .faceHigh => 420 | .penMax => 250 | .turnPeriod => 6000 | .spinupTime => 120
  | .weight _ => 40
  | .windowOpen _ => 0
  | .windowClose _ => 32767
  | .faultMode c => defaultMode c
  | .freshLimit _ => 500
  | .novalPolicy _ => 0

/-- The running items of Table 10-1; every other item is a standstill item. -/
def Item.running : Item → Bool
  | .weight _ | .windowOpen _ | .windowClose _ | .flowSpan | .deficitLow | .deficitHigh | .torqueLimit | .faceLow
  | .faceHigh | .penMax => true
  | _ => false

/-- The configuration set (R168): one value for each item, in ascending order of item code. -/
abbrev ConfigSet := Vector Nat 102

/-- Every item at its default (R168). -/
def defaultConfig : ConfigSet := ⟨(allItems.map Item.dflt).toArray, by decide⟩

/-- The value of an item. -/
def itemValue (cfg : ConfigSet) (i : Item) : Nat := cfg[i.idx]

/-- The set with one item's value put in place. -/
def putItem (cfg : ConfigSet) (i : Item) (v : Nat) : ConfigSet := cfg.set i.idx.val v i.idx.isLt

end Sys2Proof.Machine
end

