-- ==== Sys2Proof/Machine/State.lean ====
section
/-! DEFINITION. The state of the part: the records of its nine blocks, its inputs' levels, the waiting commands, and their values
after a device reset. Quantities the manual counts are `Nat`, signed ones `Int`; each rule's bound is kept by the operation that
changes the quantity. "Absent" and "stopped" are `none`. -/

namespace Sys2Proof.Machine

/-! ## Chapter 1: the group table -/

/-- The group states of Table 1-2. `returning` is RETURN. -/
inductive GroupState where
  | locked | hold | push | retract | clear | returning
  deriving DecidableEq, Repr

/-- A group record (Table 1-1). -/
structure Group where
  state : GroupState
  stroke : Nat
  referenced : Bool
  saturated : Bool
  owner : Option Piece
  /-- boring-start capture b_g -/
  capture : Int
  /-- contact capture c_g -/
  contactCapture : Nat
  contact : Bool
  dwellRef : Nat
  /-- dwell time left in ms; `none` is stopped -/
  dwell : Option Nat
  strokeEndReported : Bool
  deriving DecidableEq, Repr

/-! ## Chapter 2: the advance record -/

/-- The advance cycle states of Table 2-2. -/
inductive Cycle where
  | standstill | spinup | boring | paused | rundown | ringBuild
  deriving DecidableEq, Repr

/-- The cutterhead condition (R32). -/
inductive CutterCondition where
  | turning | slow | stopped
  deriving DecidableEq, Repr

/-- The last stop causes of Table 2-1. -/
inductive StopCause where
  | none | ringStroke | strokeEnd | stopRequest | spinupFailed | estop
  deriving DecidableEq, Repr

/-- The advance record (Table 2-1), with the stop timer of R31 and the time since the last revolution pulse. -/
structure Advance where
  cycle : Cycle
  /-- ring advance a -/
  a : Nat
  ringStartPending : Bool
  lCabin : Nat
  lPen : Nat
  rateLevel : Nat
  thrustPermit : Bool
  cutterPermit : Bool
  permitKept : Bool
  /-- spin-up time left in ms; `none` is stopped -/
  spinup : Option Nat
  confirmations : Nat
  lastPeriod : Option Nat
  cutter : CutterCondition
  revolutions : Nat
  advanceAtPulse : Nat
  penetration : Nat
  penetrationValid : Bool
  pulseSincePermit : Bool
  maxPenetration : Nat
  lastStop : StopCause
  /-- stop timer left in ms; `none` is not running -/
  stopTimer : Option Nat
  /-- ms since the last revolution pulse since the device reset; `none` before the first -/
  sincePulse : Option Nat
  deriving DecidableEq, Repr

/-! ## Chapter 3: the accounting record -/

/-- A line's deficit and its condition flags as last published (R65, R66). -/
structure Deficit where
  d : Int
  z : Bool
  n : Bool
  v : Bool
  c : Bool
  deriving DecidableEq, Repr

/-- What the ACT holds for one tail line (Table 3-1). -/
structure LineAccount where
  /-- T_p in Q16 litres -/
  target : Nat
  /-- window state: OPEN is `true`, SHUT `false` -/
  window : Bool
  deficit : Deficit
  deriving DecidableEq, Repr

/-- The accounting record (Table 3-1). -/
structure Accounts where
  kv : Nat
  km : Nat
  pendingK : Option (Nat × Nat)
  aAcc : Nat
  lines : Vector LineAccount 6
  /-- U in Q16 litres -/
  unassigned : Nat
  /-- E in Q16 of 10 kg -/
  expected : Nat
  gapRaised : Bool
  deriving DecidableEq, Repr

/-! ## Chapter 4: the ring record, the claim queue and the history -/

/-- The states of the open ring record (R69). -/
inductive RingState where
  | none | building | complete
  deriving DecidableEq, Repr

/-- The piece states of Table 4-3. -/
inductive PieceState where
  | pending | queued | retracting | clear | placed | set | releasing
  deriving DecidableEq, Repr

/-- The states of a piece timer (Table 4-3). -/
inductive TimerState where
  | stopped | running | suspended | expired
  deriving DecidableEq, Repr

/-- The kinds of a piece timer (Table 4-3). -/
inductive TimerKind where
  | none | retract | returning
  deriving DecidableEq, Repr

/-- A piece timer; `left` is its time left in ms, 0 while it is STOPPED or EXPIRED. -/
structure PieceTimer where
  state : TimerState
  kind : TimerKind
  left : Nat
  deriving DecidableEq, Repr

/-- A piece record (Table 4-3). `groups` is empty while absent. -/
structure PieceRecord where
  state : PieceState
  groups : List GroupIx
  claimTime : Option Nat
  awaited : List GroupIx
  timer : PieceTimer
  deriving DecidableEq, Repr

/-- The per-line part of the frozen accounts: target and delivered litres, and the line-absent marker. -/
structure FrozenLine where
  litres : Option (Nat × Nat)
  absent : Bool
  deriving DecidableEq, Repr

/-- The frozen stroke accounts (Table 4-4). -/
structure Frozen where
  boredLength : Nat
  revolutions : Nat
  maxPenetration : Nat
  lines : Vector FrozenLine 6
  unassigned : Nat
  expected : Nat
  measured : Nat
  maxFace : Option Nat
  deriving DecidableEq, Repr

/-- The open ring record (Table 4-1). The piece of code `i` is `pieces[i]`. -/
structure RingRecord where
  state : RingState
  number : Option Nat
  key : Option GroupIx
  pieces : Vector PieceRecord 7
  frozen : Option Frozen
  buildStart : Option Nat
  buildDuration : Option Nat
  claimsExpired : Nat
  faultCounts : Vector Nat 12
  deriving DecidableEq, Repr

/-- An entry of the claim queue (R80); `wait` is its remaining wait in ms. -/
structure QueueEntry where
  piece : Piece
  wait : Nat
  deriving DecidableEq, Repr

/-- An entry of the ring history (Table 4-7); an absent line's `litres` are `none` there. -/
structure HistoryEntry where
  number : Option Nat
  key : Option GroupIx
  frozen : Option Frozen
  buildStart : Option Nat
  buildDuration : Option Nat
  claimsExpired : Nat
  faultCounts : Vector Nat 12
  deriving DecidableEq, Repr

/-- What the RBU holds (4.1). The queue is head first, the history newest first. -/
structure RingBuild where
  record : RingRecord
  queue : List QueueEntry
  history : List HistoryEntry
  lastCompleted : Option Nat
  deriving DecidableEq, Repr

/-! ## Chapter 5: the tail lines -/

/-- The tail line phases of Table 5-3. -/
inductive Phase where
  | idle | prime | flow | limit | satisfied | blocked | held | out
  deriving DecidableEq, Repr

/-- A tail line record (Table 5-1), with what the GRU uses of the items that a change reaches late (R113) and of a held pressure
(R133). -/
structure Line where
  phase : Phase
  delivered : Nat
  carry : Int
  lastCounter : Nat
  counterValid : Bool
  sinceOpen : Nat
  secondCount : Nat
  stallHistory : List Nat
  setpoint : Nat
  valve : Bool
  outThroughout : Bool
  /-- PRESS_MAX and PRESS_HYST as of the line's last pressure value (R113) -/
  pressMax : Nat
  pressHyst : Nat
  /-- RESUME_DEFICIT as of the last publication of the line's deficit (R113) -/
  resumeDeficit : Nat
  /-- a change of NOVAL_POLICY has made the MST hold the pressure again, and no report has been taken since (R133) -/
  pressureWithheld : Bool
  deriving DecidableEq, Repr

/-- What the GRU holds: the six tail line records and the limiter level L_grout. -/
structure Grout where
  lines : Vector Line 6
  lGrout : Nat
  deriving DecidableEq, Repr

/-! ## Chapter 6: the muck record -/

/-- The car states of Table 6-2. -/
inductive CarState where
  | empty | filling | full
  deriving DecidableEq, Repr

/-- A car record (Table 6-2); its position is its place in the car list, from 1. -/
structure Car where
  state : CarState
  fill : Nat
  dueReported : Bool
  deriving DecidableEq, Repr

/-- The excavation judgments (R126). -/
inductive Judgment where
  | normal | over | under
  deriving DecidableEq, Repr

/-- The muck record (Table 6-1). The delay line is oldest first. -/
structure Muck where
  measured : Nat
  spill : Nat
  lastCounter : Nat
  counterValid : Bool
  cars : List Car
  capacity : Option Nat
  beltPermit : Bool
  lMuck : Nat
  delayLine : List Nat
  judgment : Judgment
  deriving DecidableEq, Repr

/-! ## Chapter 7: the measurement records -/

/-- The measurement states of Table 7-2. -/
inductive MeasState where
  | noval | fresh | stale
  deriving DecidableEq, Repr

/-- A measurement record (Table 7-2). -/
structure MeasRecord where
  state : MeasState
  value : Option Nat
  age : Option Nat
  clamped : Bool
  lastValid : Option Nat
  hasBeenValid : Bool
  degraded : Bool
  deriving DecidableEq, Repr

/-- What the MST holds: the fifteen records and the maximum face pressure. -/
structure Measurements where
  records : Vector MeasRecord 15
  maxFace : Option Nat
  deriving DecidableEq, Repr

/-! ## Chapter 8: faults -/

/-- The actions of the Fault Supervisor (8.1). -/
inductive Action where
  | advHalt | cutHalt | beltHalt | claimFreeze
  | portHold (p : LineIx)
  deriving DecidableEq, Repr

/-- The entry states of Table 8-4. -/
inductive EntryState where
  | active | retrying | latched | reported
  deriving DecidableEq, Repr

/-- A fault list entry (Table 8-3). Its condition is the key's mark in the condition table and its retry count the key's retry
count, so neither is held twice. -/
structure FaultEntry where
  key : FaultKey
  mode : Nat
  state : EntryState
  /-- retry time left in ms; `none` is stopped -/
  retryLeft : Option Nat
  ring : Nat
  aAcc : Nat
  time : Nat
  deriving DecidableEq, Repr

/-- The fields of a filled first-fault record (R150). -/
structure FirstFault where
  key : FaultKey
  ring : Nat
  a : Nat
  cycle : Cycle
  time : Nat
  later : Nat
  deriving DecidableEq, Repr

/-- What the FSV holds (8.2). The class counters are by class, the retry counts and the condition marks by `FaultKey.idx`. -/
structure Faults where
  entries : List FaultEntry
  overflow : Bool
  first : Option FirstFault
  counters : Vector Nat 12
  retryCounts : Vector Nat 55
  marks : Vector Bool 55
  deriving DecidableEq, Repr

/-! ## Chapter 9: the port contexts -/

/-- The outcomes of Table 12-3. -/
inductive OutcomeCode where
  | none | accepted | queued | refusedState | refusedDomain | refusedRange | queueFull
  | stillPresent | parity | frame | unknown | partialTaken | wrongId
  deriving DecidableEq, Repr

/-- A read cursor: a view, a record and a word position. -/
structure Cursor where
  view : Nat
  record : Nat
  word : Nat
  deriving DecidableEq, Repr

/-- A snapshot: the records of one view from the record `first` to the view's last, each as its words' payloads (R162, R173;
log entry 24). -/
structure Snapshot where
  view : Nat
  first : Nat
  records : List (List Payload)
  deriving DecidableEq, Repr

/-- The outcome slot (Table 9-1). -/
structure Slot where
  request : Nat
  outcome : OutcomeCode
  reason : Nat
  skip : Nat
  shown : Bool
  deriving DecidableEq, Repr

/-- The frame in progress at a port while its select is active (R156): the status word formed at the select, whether
it has been sent in full, and the header once its sixteenth bit has been taken. -/
structure FrameInProgress where
  status : LinkWord
  statusSent : Bool
  header : Option LinkWord
  deriving DecidableEq, Repr

/-- A port context (Table 9-1) with the event flags and repeat marks of its station (R166; bit i of Table 9-6 is place i) and the
frame in progress. -/
structure Port where
  cursor : Option Cursor
  snapshot : Option Snapshot
  slot : Slot
  framesTaken : Nat
  parityErrors : Nat
  idErrors : Nat
  frameErrors : Nat
  present : Bool
  /-- silence time left in ms; `none` is stopped -/
  silence : Option Nat
  heard : Bool
  flags : Vector Bool 8
  repeats : Vector Bool 8
  frame : Option FrameInProgress
  deriving DecidableEq, Repr

/-! ## The paths between the blocks -/

/-- What passes along a path of Figure I-2 and waits to be taken by its block. The list of waiting notices is the model's own (log
entry 2): it is empty before and after every command. -/
inductive Notice where
  /-- JGU to ADU: a stroke has changed (R7). -/
  | strokeChange
  /-- JGU to ADU: group `g` reports stroke end (R24). -/
  | strokeEnd (g : GroupIx)
  /-- JGU to RBU: group, new state, owning piece, and the piece it has arrived for (R25). -/
  | groupState (g : GroupIx) (state : GroupState) (owner arrived : Option Piece)
  /-- FSV to the blocks that act on the action (R152). -/
  | actionEnters (act : Action)
  | actionLeaves (act : Action)
  /-- FSV to GRU: no GROUT_BLOCKED entry stands for the line (R153). -/
  | blockedRemoved (p : LineIx)
  deriving DecidableEq, Repr

/-! ## The whole part -/

/-- The state of the part. -/
structure State where
  /-- the commands that wait, first in first out -/
  pending : List Instr
  /-- the RESET input is held active -/
  resetActive : Bool
  /-- the emergency stop input is asserted -/
  estop : Bool
  /-- seconds count (R1) -/
  seconds : Nat
  /-- ms of the timebase since the last whole second from the release of RESET; it serves R1, R93 and R114 -/
  ms : Nat
  config : ConfigSet
  groups : Vector Group 10
  adu : Advance
  act : Accounts
  rbu : RingBuild
  gru : Grout
  mku : Muck
  mst : Measurements
  fsv : Faults
  /-- the port contexts A to D -/
  ports : Vector Port 4
  notices : List Notice
  deriving DecidableEq, Repr

/-- Why the machine stops with a fault. It has no constructor: the part reports faults in its own fault list and no command stops
it, so no step raises one. -/
inductive Fault where
  deriving DecidableEq, Repr

/-- Why a command has no meaning. -/
inductive Refusal where
  /-- Raised by `exec` for a command that is not modelled. No command is: no arm raises it. Safe. -/
  | notModelled (mnemonic : String)
  deriving DecidableEq, Repr

/-! ## The values after a device reset -/

/-- R3. -/
def Group.reset : Group :=
  { state := .locked, stroke := 0, referenced := false, saturated := false, owner := none, capture := 0,
    contactCapture := 0, contact := false, dwellRef := 0, dwell := none, strokeEndReported := false }

/-- R27. The stop timer is not running, since no pulse has been taken (R32). -/
def Advance.reset : Advance :=
  { cycle := .standstill, a := 0, ringStartPending := true, lCabin := 0, lPen := 8, rateLevel := 0,
    thrustPermit := false, cutterPermit := false, permitKept := false, spinup := none, confirmations := 0,
    lastPeriod := none, cutter := .stopped, revolutions := 0, advanceAtPulse := 0, penetration := 0,
    penetrationValid := false, pulseSincePermit := false, maxPenetration := 0, lastStop := .none,
    stopTimer := none, sincePulse := none }

/-- R50. -/
def Deficit.reset : Deficit := { d := 0, z := false, n := false, v := false, c := false }

/-- R50. -/
def Accounts.reset : Accounts :=
  { kv := 22646, km := 44253, pendingK := none, aAcc := 0,
    lines := Vector.replicate 6 { target := 0, window := false, deficit := Deficit.reset },
    unassigned := 0, expected := 0, gapRaised := false }

/-- A STOPPED timer, of kind none. -/
def PieceTimer.idle : PieceTimer := { state := .stopped, kind := .none, left := 0 }

/-- R69, R70. -/
def RingBuild.reset : RingBuild :=
  { record :=
      { state := .none, number := none, key := none,
        pieces := Vector.replicate 7
          { state := .pending, groups := [], claimTime := none, awaited := [], timer := PieceTimer.idle },
        frozen := none, buildStart := none, buildDuration := none, claimsExpired := 0,
        faultCounts := Vector.replicate 12 0 },
    queue := [], history := [], lastCompleted := none }

/-- R94; the limits in use are the items' defaults (R168). -/
def Grout.reset : Grout :=
  { lines := Vector.replicate 6
      { phase := .idle, delivered := 0, carry := 0, lastCounter := 0, counterValid := false, sinceOpen := 0,
        secondCount := 0, stallHistory := [], setpoint := 0, valve := false, outThroughout := false,
        pressMax := Item.dflt .pressMax, pressHyst := Item.dflt .pressHyst, resumeDeficit := Item.dflt .resumeDeficit,
        pressureWithheld := false },
    lGrout := 8 }

/-- R115. -/
def Muck.reset : Muck :=
  { measured := 0, spill := 0, lastCounter := 0, counterValid := false, cars := [], capacity := none,
    beltPermit := false, lMuck := 0, delayLine := [], judgment := .normal }

/-- R129. -/
def Measurements.reset : Measurements :=
  { records := Vector.replicate 15
      { state := .noval, value := none, age := none, clamped := false, lastValid := none, hasBeenValid := false,
        degraded := false },
    maxFace := none }

/-- R141. -/
def Faults.reset : Faults :=
  { entries := [], overflow := false, first := none, counters := Vector.replicate 12 0,
    retryCounts := Vector.replicate 55 0, marks := Vector.replicate 55 false }

/-- R155. -/
def Port.reset : Port :=
  { cursor := none, snapshot := none,
    slot := { request := 0, outcome := .none, reason := 0, skip := 0, shown := true },
    framesTaken := 0, parityErrors := 0, idErrors := 0, frameErrors := 0, present := false, silence := none,
    heard := false, flags := Vector.replicate 8 false, repeats := Vector.replicate 8 false, frame := none }

/-- The part just after a device reset, with the RESET input released, the emergency stop input released (log entry 1) and no
command waiting. -/
def State.reset : State :=
  { pending := [], resetActive := false, estop := false, seconds := 0, ms := 0, config := defaultConfig,
    groups := Vector.replicate 10 Group.reset, adu := Advance.reset, act := Accounts.reset, rbu := RingBuild.reset,
    gru := Grout.reset, mku := Muck.reset, mst := Measurements.reset, fsv := Faults.reset,
    ports := Vector.replicate 4 Port.reset, notices := [] }

end Sys2Proof.Machine
end

