-- ==== Sys2Proof/Machine/Run.lean ====
section
/-! DEFINITION. How a command is run: while the RESET input is held the part takes none. -/

namespace Sys2Proof.Machine

/-- The outcome of a command. -/
abbrev Result := Host.Outcome State Fault Refusal

/-- A command's effect, which it has only while RESET is released (R1, R3, R27, R115, R129, R141, R155; log entry 22). -/
def State.run (s : State) (effect : State → State) : Result := .next (if s.resetActive then s else effect s)

end Sys2Proof.Machine
end

