-- ==== Sys2Proof/Machine/Ops.lean ====
section
/-! DEFINITION. The named operations on the part's records that every block uses: indexes, updates of one record, event flags, the
action set and the judgments that follow from the whole state. -/

namespace Sys2Proof

/-- The code of a piece (Table 4-2), which is its place in the ring record. -/
def Piece.idx : Piece → Fin 7
  | .s0 => 0 | .s1 => 1 | .s2 => 2 | .s3 => 3 | .s4 => 4 | .s5 => 5 | .k => 6

/-- Every piece, in order of code. -/
def allPieces : List Piece := [.s0, .s1, .s2, .s3, .s4, .s5, .k]

/-- The piece that a code names (Table 4-2). -/
def Piece.ofCode (code : Nat) : Option Piece := allPieces[code]?

/-- Two regular pieces are neighbours when their codes differ by one (R71). -/
def Piece.neighbours : Piece → List Piece
  | .s0 => [.s1] | .s1 => [.s0, .s2] | .s2 => [.s1, .s3] | .s3 => [.s2, .s4] | .s4 => [.s3, .s5] | .s5 => [.s4] | .k => []

/-- The place of a station's port: A to D. -/
def Station.idx : Station → Fin 4
  | .cabin => 0 | .erector => 1 | .grout => 2 | .muck => 3

/-- The station ID of Table I-1. -/
def Station.id (st : Station) : Nat := st.idx + 1

/-- Every station, in order of ID. -/
def allStations : List Station := [.cabin, .erector, .grout, .muck]

/-- Every group, in order of index. -/
def allGroups : List GroupIx := [0, 1, 2, 3, 4, 5, 6, 7, 8, 9]

/-- Every tail line, in order of index. -/
def allLines : List LineIx := [0, 1, 2, 3, 4, 5]

/-- Every measurement, in order of number. -/
def allMeas : List MeasIx := [0, 1, 2, 3, 4, 5, 6, 7, 8, 9, 10, 11, 12, 13, 14]

/-- The key's place among all keys, in order of class code and, within a class, of source code. -/
def FaultKey.idx : FaultKey → Fin 55
  | .torqueHigh => 0
  | .faceLow => 1
  | .faceHigh => 2
  | .contactLoss g => ⟨3 + g, by omega⟩
  | .claimTimeout pc => ⟨13 + pc.idx, by omega⟩
  | .groutBlocked p => ⟨20 + p, by omega⟩
  | .groutGap => 26
  | .overexc => 27
  | .underexc => 28
  | .measInvalid m => ⟨29 + m, by omega⟩
  | .measJump j => ⟨44 + j, by omega⟩
  | .stationSilent st => ⟨51 + st.idx, by omega⟩

/-- The key's class, counted from 0: class code 1 is 0 (Table 8-1). -/
def FaultKey.cls : FaultKey → Fin 12
  | .torqueHigh => 0
  | .faceLow => 1
  | .faceHigh => 2
  | .contactLoss _ => 3
  | .claimTimeout _ => 4
  | .groutBlocked _ => 5
  | .groutGap => 6
  | .overexc => 7
  | .underexc => 8
  | .measInvalid _ => 9
  | .measJump _ => 10
  | .stationSilent _ => 11

/-- The class code, 1 to 12 (Table 8-1). -/
def FaultKey.classCode (key : FaultKey) : Nat := key.cls + 1

/-- The source code of Table 8-6. -/
def FaultKey.sourceCode : FaultKey → Nat
  | .contactLoss g => 1 + g
  | .claimTimeout pc => 11 + pc.idx
  | .groutBlocked p => 18 + p
  | .measInvalid m => 24 + m
  | .measJump j => 32 + j
  | .stationSilent st => 39 + st.idx
  | _ => 0

/-- The measured classes of Table 8-1; the others are event classes. -/
def FaultKey.measured : FaultKey → Bool
  | .torqueHigh | .faceLow | .faceHigh | .measInvalid _ | .stationSilent _ => true
  | _ => false

/-- The station whose domain a measurement belongs to (Table 7-1). -/
def stationOfMeas (m : MeasIx) : Station :=
  if m.val < 2 then .cabin else if m.val < 14 then .grout else .muck

/-- The station whose FAULT CLEAR may clear the key (Table 8-1, R139). -/
def FaultKey.domain : FaultKey → Station
  | .contactLoss _ | .claimTimeout _ => .erector
  | .groutBlocked _ => .grout
  | .measInvalid m => stationOfMeas m
  | .measJump j => if j.val < 6 then .grout else .muck
  | .stationSilent st => st
  | _ => .cabin

/-- Every key of a measured class, in order of class code and, within a class, of source code. -/
def measuredKeys : List FaultKey :=
  [.torqueHigh, .faceLow, .faceHigh] ++ allMeas.map .measInvalid ++ allStations.map .stationSilent

/-- Every key. -/
def allKeys : List FaultKey :=
  [.torqueHigh, .faceLow, .faceHigh] ++ allGroups.map .contactLoss ++ allPieces.map .claimTimeout
  ++ allLines.map .groutBlocked ++ [.groutGap, .overexc, .underexc] ++ allMeas.map .measInvalid
  ++ (List.finRange 7).map .measJump ++ allStations.map .stationSilent

namespace Machine

/-! ## Updates of one record -/

/-- A table with the entry at one place changed. -/
def modAt {α : Type} {n : Nat} (t : Vector α n) (i : Fin n) (f : α → α) : Vector α n := t.set i.val (f t[i]) i.isLt

/-- A table with every entry changed, each by a function of its place. -/
def mapIx {α β : Type} {n : Nat} (t : Vector α n) (f : Fin n → α → β) : Vector β n := Vector.ofFn fun i => f i t[i]

def State.modGroup (s : State) (g : GroupIx) (f : Group → Group) : State := { s with groups := modAt s.groups g f }
def State.modAdu (s : State) (f : Advance → Advance) : State := { s with adu := f s.adu }
def State.modAct (s : State) (f : Accounts → Accounts) : State := { s with act := f s.act }
def State.modAccount (s : State) (p : LineIx) (f : LineAccount → LineAccount) : State :=
  { s with act := { s.act with lines := modAt s.act.lines p f } }
def State.modRbu (s : State) (f : RingBuild → RingBuild) : State := { s with rbu := f s.rbu }
def State.modRecord (s : State) (f : RingRecord → RingRecord) : State :=
  { s with rbu := { s.rbu with record := f s.rbu.record } }
def State.modPiece (s : State) (pc : Piece) (f : PieceRecord → PieceRecord) : State :=
  s.modRecord fun r => { r with pieces := modAt r.pieces pc.idx f }
def State.modLine (s : State) (p : LineIx) (f : Line → Line) : State :=
  { s with gru := { s.gru with lines := modAt s.gru.lines p f } }
def State.modMku (s : State) (f : Muck → Muck) : State := { s with mku := f s.mku }
def State.modMeas (s : State) (m : MeasIx) (f : MeasRecord → MeasRecord) : State :=
  { s with mst := { s.mst with records := modAt s.mst.records m f } }
def State.modFsv (s : State) (f : Faults → Faults) : State := { s with fsv := f s.fsv }
def State.modPort (s : State) (st : Station) (f : Port → Port) : State := { s with ports := modAt s.ports st.idx f }

/-- The group record of G*g*. -/
def State.group (s : State) (g : GroupIx) : Group := s.groups[g]
/-- What the ACT holds for TL*p*. -/
def State.account (s : State) (p : LineIx) : LineAccount := s.act.lines[p]
/-- The tail line record of TL*p*. -/
def State.line (s : State) (p : LineIx) : Line := s.gru.lines[p]
/-- The piece record of a piece. -/
def State.piece (s : State) (pc : Piece) : PieceRecord := s.rbu.record.pieces[pc.idx]
/-- The measurement record of M*m*. -/
def State.meas (s : State) (m : MeasIx) : MeasRecord := s.mst.records[m]
/-- The port context of a station's port. -/
def State.port (s : State) (st : Station) : Port := s.ports[st.idx]
/-- The value of a configuration item. -/
def State.item (s : State) (i : Item) : Nat := itemValue s.config i

/-- A notice sent along its path, behind those that wait. -/
def State.send (s : State) (n : Notice) : State := { s with notices := s.notices ++ [n] }

/-- `n` increased by `k`, stopping at `top`. -/
def addUpTo (top n k : Nat) : Nat := min top (n + k)

/-! ## Event flags (R166) -/

/-- The event kinds of Table 9-6. -/
inductive Event where
  | spinupFailed | ringStroke | strokeEnd | standstillReached | ringComplete | faultRaised | estop | firstFault
  | claimGranted | pieceClear | pieceSet | claimExpired | released | ringOpened | erectorFault
  | lineBlocked | lineSatisfied | windowSkipped | groutFault
  | carDue | trainFull | beltStop | muckFault
  deriving DecidableEq, Repr

/-- The station of an event kind and its bit in that station's event flag view (Table 9-6). -/
def Event.bit : Event → Station × Fin 8
  | .spinupFailed => (.cabin, 0) | .ringStroke => (.cabin, 1) | .strokeEnd => (.cabin, 2)
  | .standstillReached => (.cabin, 3) | .ringComplete => (.cabin, 4) | .faultRaised => (.cabin, 5)
  | .estop => (.cabin, 6) | .firstFault => (.cabin, 7)
  | .claimGranted => (.erector, 0) | .pieceClear => (.erector, 1) | .pieceSet => (.erector, 2)
  | .claimExpired => (.erector, 3) | .released => (.erector, 4) | .ringOpened => (.erector, 5)
  | .erectorFault => (.erector, 6)
  | .lineBlocked => (.grout, 0) | .lineSatisfied => (.grout, 1) | .windowSkipped => (.grout, 2)
  | .groutFault => (.grout, 3)
  | .carDue => (.muck, 0) | .trainFull => (.muck, 1) | .beltStop => (.muck, 2) | .muckFault => (.muck, 3)

/-- An event sets its flag and its repeat mark (R166). -/
def State.setEvent (s : State) (e : Event) : State :=
  s.modPort e.bit.1 fun p =>
    { p with flags := modAt p.flags e.bit.2 fun _ => true, repeats := modAt p.repeats e.bit.2 fun _ => true }

/-- Whether the event's flag is set. -/
def State.eventSet (s : State) (e : Event) : Bool := (s.port e.bit.1).flags[e.bit.2]

/-! ## The action set (R152) -/

/-- Every action. -/
def allActions : List Action := [.advHalt, .cutHalt, .beltHalt, .claimFreeze] ++ allLines.map .portHold

/-- The actions of a key when its entry stops (Tables 8-1 and 8-2). -/
def actionsOf : FaultKey → List Action
  | .torqueHigh => [.cutHalt]
  | .faceLow => [.advHalt, .beltHalt]
  | .faceHigh => [.advHalt]
  | .contactLoss _ => [.advHalt, .claimFreeze]
  | .claimTimeout _ => [.claimFreeze]
  | .groutBlocked _ => []
  | .groutGap => [.advHalt]
  | .overexc => [.advHalt, .beltHalt]
  | .underexc => [.advHalt]
  | .measInvalid m =>
    if h : m.val < 2 then [.advHalt]
    else if h8 : m.val < 8 then [.portHold ⟨m.val - 2, by omega⟩]
    else if h14 : m.val < 14 then [.portHold ⟨m.val - 8, by omega⟩]
    else [.advHalt, .beltHalt]
  | .measJump _ => [.advHalt]
  | .stationSilent .cabin => [.cutHalt]
  | .stationSilent .erector => [.claimFreeze]
  | .stationSilent .grout => .advHalt :: allLines.map .portHold
  | .stationSilent .muck => [.advHalt, .beltHalt]

/-- Whether an entry brings its actions: in every state but REPORTED (Table 8-4). -/
def FaultEntry.stops (e : FaultEntry) : Bool := e.state != .reported

/-- Whether an action is in the action set that the fault list and OVERFLOW form. -/
def Faults.inForce (f : Faults) (a : Action) : Bool :=
  f.entries.any (fun e => e.stops && (actionsOf e.key).contains a) || (f.overflow && a == .advHalt)

/-- The entry that stands for a key. -/
def Faults.find (f : Faults) (key : FaultKey) : Option FaultEntry := f.entries.find? fun e => e.key == key

/-- Whether the FSV's condition table marks the key present. -/
def Faults.marked (f : Faults) (key : FaultKey) : Bool := f.marks[key.idx]

/-- The key's retry count in the present ring. -/
def Faults.retryCount (f : Faults) (key : FaultKey) : Nat := f.retryCounts[key.idx]

/-- The fault output (R152). -/
def Faults.output (f : Faults) : Bool := !f.entries.isEmpty || f.overflow

def State.inForce (s : State) (a : Action) : Bool := s.fsv.inForce a

/-- A halt is in force: ADV_HALT or CUT_HALT is in the action set (2.2). -/
def State.haltInForce (s : State) : Bool := s.inForce .advHalt || s.inForce .cutHalt

/-- The forcing of R22 and R88: CLAIM_FREEZE is in the action set or emergency stop is asserted. -/
def State.frozen (s : State) : Bool := s.inForce .claimFreeze || s.estop

/-! ## The pieces' groups (Table 4-2) -/

/-- G(*k* + *n*), modulo 10. -/
def groupFrom (k : GroupIx) (n : Nat) : GroupIx := Fin.ofNat 10 (k.val + n)

/-- The groups under a piece for a key position (R71). -/
def pieceGroups (k : GroupIx) : Piece → List GroupIx
  | .s0 => [groupFrom k 1, groupFrom k 2]
  | .s1 => [groupFrom k 2, groupFrom k 3]
  | .s2 => [groupFrom k 4, groupFrom k 5]
  | .s3 => [groupFrom k 5, groupFrom k 6]
  | .s4 => [groupFrom k 7, groupFrom k 8]
  | .s5 => [groupFrom k 8, groupFrom k 9]
  | .k => [k]

/-- A group is lent while it is in RETRACT, CLEAR or RETURN (1.2). -/
def Group.lent (g : Group) : Bool := g.state == .retract || g.state == .clear || g.state == .returning

/-- The number of lent groups. -/
def State.lentCount (s : State) : Nat := (allGroups.filter fun g => (s.group g).lent).length

/-! ## What follows from the whole state -/

/-- Whether a phase injects: PRIME, FLOW or LIMIT. -/
def Phase.injecting : Phase → Bool
  | .prime | .flow | .limit => true
  | _ => false

/-- What a record supplies to its consumers (R133). M8 to M14 are counters, the others levels. -/
def State.supply (s : State) (m : MeasIx) : Option Nat :=
  let r := s.meas m
  match r.state with
  | .fresh => r.value
  | .stale => if m.val < 8 && s.item (.novalPolicy m) == 1 then r.lastValid else none
  | .noval => none

/-- The cycle states in which M0 and M1 are needed: SPINUP, BORING and PAUSED. -/
def Cycle.cutting : Cycle → Bool
  | .spinup | .boring | .paused => true
  | _ => false

/-- Whether a measurement is needed (R134, Table 7-3). -/
def State.needed (s : State) (m : MeasIx) : Bool :=
  if m.val < 2 then s.adu.cycle.cutting
  else if h : m.val < 8 then (s.line ⟨m.val - 2, by omega⟩).phase.injecting
  else if h : m.val < 14 then (s.line ⟨m.val - 8, by omega⟩).phase.injecting
  else s.mku.beltPermit

/-- Whether a station is obliged to be present (R165, Table 9-5). -/
def State.obliged (s : State) : Station → Bool
  | .cabin => (s.port .cabin).heard
  | .erector => s.rbu.record.state == .building
  | .grout => s.adu.cycle == .boring || allLines.any fun p => (s.line p).phase.injecting || (s.line p).phase == .satisfied
  | .muck => s.adu.cycle == .boring || s.mku.beltPermit

/-- A level's comparison: the measurement is needed, a value is supplied, and the value passes the test (R136). -/
def State.levelTest (s : State) (m : MeasIx) (test : Nat → Bool) : Bool :=
  s.needed m && ((s.supply m).map test).getD false

/-- Whether the condition of a measured key is present (R135, R136, R165). An event key has none. -/
def State.condition (s : State) : FaultKey → Bool
  | .torqueHigh => s.levelTest 1 fun v => decide (v > s.item .torqueLimit)
  | .faceLow => s.levelTest 0 fun v => decide (v < s.item .faceLow)
  | .faceHigh => s.levelTest 0 fun v => decide (v > s.item .faceHigh)
  | .measInvalid m => s.needed m && (s.supply m).isNone
  | .stationSilent st => !(s.port st).present && s.obliged st
  | _ => false

/-- The rate level that R47 gives: the least limiter level in BORING with emergency stop released, 0 otherwise. -/
def State.rateFor (s : State) : Nat :=
  if s.adu.cycle == .boring && !s.estop then
    min (min s.adu.lCabin s.gru.lGrout) (min s.mku.lMuck s.adu.lPen)
  else 0

/-- The rate level is judged (R47). -/
def State.judgeRate (s : State) : State := s.modAdu fun a => { a with rateLevel := s.rateFor }

/-- The ring number that a raise records: 0 while the record is NONE (Table 8-3, R150). -/
def State.ringNumber (s : State) : Nat := s.rbu.record.number.getD 0

/-! ## The output lines (R11 to R13, R48, R98, R154) -/

/-- The valve modes (I.9). -/
inductive ValveMode where
  | block | hold | extend | retract
  deriving DecidableEq, Repr

/-- The valve mode a group state calls for (Table 1-2). -/
def GroupState.mode : GroupState → ValveMode
  | .locked | .clear => .block
  | .hold | .returning => .hold
  | .push => .extend
  | .retract => .retract

/-- The valve mode that is driven for a group (R11, R12, R13). -/
def State.valveMode (s : State) (g : GroupIx) : ValveMode :=
  let st := (s.group g).state
  if s.estop then .block
  else if s.inForce .claimFreeze && (st == .retract || st == .returning) then .block
  else st.mode

/-- The code on VMa*g* (high bit) and VMb*g* (I.9). -/
def ValveMode.code : ValveMode → BitVec 2
  | .block => 0b00#2 | .hold => 0b01#2 | .extend => 0b10#2 | .retract => 0b11#2

/-- TPERM, LVL0 to LVL3, CPERM, BPERM and GV*p* at the pins, with the forcing of R154. -/
def State.tperm (s : State) : Bool := s.adu.thrustPermit && !s.estop
def State.lvl (s : State) : BitVec 4 := if s.estop then 0#4 else BitVec.ofNat 4 s.adu.rateLevel
def State.cperm (s : State) : Bool := s.adu.cutterPermit && !s.estop
def State.bperm (s : State) : Bool := s.mku.beltPermit && !s.estop
def State.gv (s : State) (p : LineIx) : Bool := (s.line p).valve && !s.estop
/-- The FAULT line (R152). -/
def State.faultLine (s : State) : Bool := s.fsv.output

/-- The attention line of a station's port (R166): low while RESET is held, since the reset clears what asserts it. -/
def State.attention (s : State) (st : Station) : Bool :=
  (s.port st).flags.toList.any id || !(s.port st).slot.shown

end Machine

end Sys2Proof
end

