-- ==== Sys2Proof/Machine/Flags.lean ====
section
/-! DEFINITION. Whole parts, deficits and the condition flags Z, N, V, C of the tail lines (R63, R65, R66), and the derived
coefficients (R51). -/

namespace Sys2Proof.Machine

/-- int(x) by the rounding mode: CHOP is 0, ROUND 1 (R63). -/
def wholePart (rounding x : Nat) : Nat := if rounding = 1 then (x + 32768) / 65536 else x / 65536

/-- int(x) by the rounding mode in force. -/
def State.whole (s : State) (x : Nat) : Nat := wholePart (s.item .rounding) x

/-- The bound of a deficit. -/
def deficitBound : Int := 16383

/-- The deficit and flags that the exact sum and the target give (R65, R66). -/
def deficitOf (rounding target : Nat) (sum : Int) : Deficit :=
  let d := max (-deficitBound) (min deficitBound sum)
  { d := d
    z := d == 0
    n := decide (d < 0)
    v := decide (sum < -deficitBound ∨ deficitBound < sum)
    c := rounding == 1 && decide (32768 ≤ target % 65536) }

/-- The exact sum of R65. -/
def State.deficitSum (s : State) (p : LineIx) : Int :=
  (s.whole (s.account p).target : Int) + (s.line p).carry - (s.line p).delivered

/-- The ACT judges and publishes the deficit and flags of one line (R65, R66). -/
def State.judgeDeficit (s : State) (p : LineIx) : State :=
  s.modAccount p fun l => { l with deficit := deficitOf (s.item .rounding) l.target (s.deficitSum p) }

/-- The ACT judges every line's deficit and flags. -/
def State.judgeDeficits (s : State) : State := allLines.foldl State.judgeDeficit s

/-- round-half-up of a quotient: the floor of the quotient plus one half. -/
def roundHalfUp (x y : Nat) : Nat := (2 * x + y) / (2 * y)

/-- K_v of a bore diameter and a ring diameter (R51). -/
def coefficientKv (bore ring : Nat) : Nat := roundHalfUp ((bore ^ 2 - ring ^ 2) * 51472) (10 ^ 7)

/-- K_m of a bore diameter and a muck density (R51). -/
def coefficientKm (bore density : Nat) : Nat := roundHalfUp (bore ^ 2 * 51472 * density) (10 ^ 10)

end Sys2Proof.Machine
end

