-- ==== Sys2Proof/Config.lean ====
section
/-! DEFINITION. The free values: quantities to which the spec gives a place in a view and no value. -/

namespace Sys2Proof

/-- The payload of a single word whose quantity is above 32,767. The spec gives single words the range 0 to 32,767 (I.5) and does
not say what a word shows beyond it; the stall history total of view 4 is the one field that can go there.
DESIGN CHOICE, safe: a free value (log entry 4). -/
opaque Config.oversizeWord : Nat → Payload

/-- The time left that view 2 shows for a piece timer that is STOPPED. Table 4-3 gives a time left with every timer state and no
value for this one. DESIGN CHOICE, safe: a free value (log entry 5). -/
opaque Config.stoppedTimeLeft : BitVec 30

end Sys2Proof
end

