-- ==== Sys2Proof/Machine/Operands.lean ====
section
/-! DEFINITION. The operand forms: link words, headers, data words, and the encoding of fields in the words of a view (I.5, 9.2,
12.1, 12.2). -/

namespace Sys2Proof.Machine

/-! ## Link words (I.5) -/

/-- Whether the number of ones in the low `n` bits of `w` is odd. -/
def oddOnes {k : Nat} (w : BitVec k) : Nat → Bool
  | 0 => false
  | n + 1 => xor (w.getLsbD n) (oddOnes w n)

/-- A payload with its even parity bit in bit 15. -/
def linkWord (p : Payload) : LinkWord := BitVec.ofBool (oddOnes p 15) ++ p

/-- Even parity over the sixteen bits. -/
def parityOk (w : LinkWord) : Bool := !oddOnes w 16

/-- The payload of a link word. -/
def payloadOf (w : LinkWord) : Payload := w.extractLsb' 0 15

/-- A zero word: payload 0 with parity 0 (R174). -/
def zeroWord : LinkWord := 0

/-! ## The header (Table 12-1) -/

/-- The direction bit: `true` is read, `false` request. -/
def headerIsRead (h : LinkWord) : Bool := h.getLsbD 14
/-- The station ID, bits 13 to 11. -/
def headerId (h : LinkWord) : Nat := (h.extractLsb' 11 3).toNat
/-- The request code or view number, bits 10 to 4. -/
def headerCode (h : LinkWord) : Nat := (h.extractLsb' 4 7).toNat
/-- The record index, bits 3 to 0. -/
def headerRecord (h : LinkWord) : Nat := (h.extractLsb' 0 4).toNat

/-- The header word of the fields, with even parity (Table 12-1). -/
def headerWord (read : Bool) (id : BitVec 3) (code : BitVec 7) (record : BitVec 4) : LinkWord :=
  linkWord (BitVec.ofBool read ++ id ++ code ++ record)

/-! ## The status word (Table 12-2) -/

/-- The outcome codes of Table 12-3. -/
def OutcomeCode.code : OutcomeCode → Nat
  | .none => 0 | .accepted => 1 | .queued => 2 | .refusedState => 3 | .refusedDomain => 4 | .refusedRange => 5
  | .queueFull => 6 | .stillPresent => 7 | .parity => 8 | .frame => 9 | .unknown => 10 | .partialTaken => 11
  | .wrongId => 12

/-- The status word of an outcome, a reason, the station's event flags and the fault output. -/
def statusWord (o : OutcomeCode) (reason : Nat) (events fault : Bool) : LinkWord :=
  linkWord (BitVec.ofNat 4 o.code ++ BitVec.ofNat 5 reason ++ BitVec.ofBool events ++ BitVec.ofBool fault ++ 0#4)

/-! ## Fields in words (R173) -/

/-- A single word. -/
def single (n : Nat) : Payload := if n < 2 ^ 15 then BitVec.ofNat 15 n else Config.oversizeWord n
/-- A signed single word: 15-bit two's complement. -/
def signedSingle (i : Int) : Payload := BitVec.ofInt 15 i
/-- The two words of 30 bits, high word first. -/
def splitWords (b : BitVec 30) : List Payload := [b.extractLsb' 15 15, b.extractLsb' 0 15]
/-- A double word. -/
def double (n : Nat) : List Payload := splitWords (BitVec.ofNat 30 n)
/-- A signed double word: 30-bit two's complement. -/
def signedDouble (i : Int) : List Payload := splitWords (BitVec.ofInt 30 i)
/-- The quantity that two words carry, high word first. -/
def joinWords (hi lo : Payload) : BitVec 30 := hi ++ lo
/-- The payload of an absent field, in each of its words. -/
def absentWord : Payload := 0x7FFF#15
/-- Yes is 1 and no is 0. -/
def yesNo (b : Bool) : Payload := if b then 1 else 0
/-- A single word, absent where there is no value. -/
def singleOr (o : Option Nat) : Payload := (o.map single).getD absentWord
/-- A double word, absent where there is no value. -/
def doubleOr (o : Option Nat) : List Payload := (o.map double).getD [absentWord, absentWord]
/-- A Q16 accumulator: the whole part as a double word, then the top 15 bits of the remainder. -/
def accumulator (x : Nat) : List Payload := double (x / 65536) ++ [single (x % 65536 / 2)]
/-- A flag word: its flags from bit 0 upward. -/
def flagWord (flags : List Bool) : Payload :=
  BitVec.ofNat 15 (flags.foldr (fun b n => (if b then 1 else 0) + 2 * n) 0)

/-! ## Data words of requests -/

/-- The pairs that data words carry, in the order sent. -/
def pairsOf : List Payload → List (Payload × Payload)
  | a :: b :: rest => (a, b) :: pairsOf rest
  | _ => []

/-- The group, line or measurement that a number names. -/
def lineOf (n : Nat) : Option LineIx := if h : n < 6 then some ⟨n, h⟩ else none
def measOf (n : Nat) : Option MeasIx := if h : n < 15 then some ⟨n, h⟩ else none
def groupOf (n : Nat) : Option GroupIx := if h : n < 10 then some ⟨n, h⟩ else none

/-- The key that a class code and a source code name (Tables 8-1 and 8-6). -/
def keyOf (cls src : Nat) : Option FaultKey := allKeys.find? fun k => k.classCode == cls && k.sourceCode == src

/-! ## Requests (Tables 12-4 and 9-3) -/

/-- The request codes of Table 12-4. -/
def requestCodes : List Nat := [1, 2, 3, 4, 5, 6, 7, 16, 17, 18, 24, 25, 32, 33, 34, 40, 41, 42]

/-- Whether a request code is permitted to a station (R160, Table 9-3). -/
def permitted (st : Station) (code : Nat) : Bool :=
  match st with
  | .cabin => code ≤ 7 || code ≥ 40
  | .erector => (16 ≤ code && code ≤ 18) || code ≥ 40
  | .grout => code == 24 || code == 25 || code ≥ 40
  | .muck => (32 ≤ code && code ≤ 34) || code ≥ 40

/-- The request's length in data words (R159); none where a pair count is missing. -/
def requestLength (code : Nat) (data : List Payload) : Option Nat :=
  match code with
  | 1 | 40 => data.head?.map fun c => 1 + 2 * c.toNat
  | 2 => some 10
  | 5 | 16 | 17 | 18 | 24 | 25 => some 1
  | 6 | 32 | 41 => some 2
  | _ => some 0

/-- An owner's answer to a request: outcome, reason, and for MEASURE the skip count. -/
structure Reply where
  outcome : OutcomeCode
  reason : Nat
  skip : Nat
  deriving DecidableEq, Repr

def Reply.accepted : Reply := { outcome := .accepted, reason := 0, skip := 0 }
def Reply.refusedState (reason : Nat) : Reply := { outcome := .refusedState, reason, skip := 0 }
def Reply.refusedRange (reason : Nat) : Reply := { outcome := .refusedRange, reason, skip := 0 }
def Reply.refusedDomain (reason : Nat) : Reply := { outcome := .refusedDomain, reason, skip := 0 }

/-- The first of a list of conditions that fails gives the answer; each is the condition that must hold and the answer if it
does not. -/
def firstFailing : List (Bool × Reply) → Option Reply
  | [] => none
  | (ok, r) :: rest => if ok then firstFailing rest else some r

end Sys2Proof.Machine
end

