-- ==== Sys2Proof/Machine/Fsv.lean ====
section
/-! DEFINITION. The Fault Supervisor: raises, clearances, the fault list and the action set (Chapter 8). -/

namespace Sys2Proof.Machine

/-- Every action that has entered the action set since `before` is made known (R152), in the order of `allActions`. -/
def State.announceEntering (s : State) (before : Faults) : State :=
  allActions.foldl (fun t a => if !before.inForce a && s.fsv.inForce a then t.send (.actionEnters a) else t) s

/-- Every action that has left the action set since `before` is made known (R152), in the order of `allActions`. -/
def State.announceLeaving (s : State) (before : Faults) : State :=
  allActions.foldl (fun t a => if before.inForce a && !s.fsv.inForce a then t.send (.actionLeaves a) else t) s

/-- Every change of the action set since `before` is made known (R152). -/
def State.announce (s : State) (before : Faults) : State := (s.announceEntering before).announceLeaving before

/-- The configured mode of the key's class (R139). -/
def State.faultMode (s : State) (key : FaultKey) : Nat := s.item (.faultMode key.cls)

/-- The full retry time in ms of a retry mode: RETRY_SLOW for mode 0, RETRY_FAST for mode 1. -/
def State.retryMs (s : State) (mode : Nat) : Nat :=
  1000 * if mode = 0 then s.item .retrySlow else s.item .retryFast

/-- The most entries the fault list holds (R140). -/
def faultListRoom : Nat := 16

/-- The state and the retry time of a new entry made under a mode; none where the mode makes no entry (R142). -/
def State.newEntryState (s : State) (key : FaultKey) (mode : Nat) : Option (EntryState × Option Nat) :=
  match mode with
  | 0 | 1 =>
    if s.item .retryLimit ≤ s.fsv.retryCount key then some (.latched, none)
    else if key.measured then some (.active, none)
    else some (.retrying, some (s.retryMs mode))
  | 2 => some (.latched, none)
  | 3 => if key.measured then some (.reported, none) else none
  | _ => none

/-- What a raise does to the entry that stands for its key (R143), whatever the class's mode is now (log entry 16). -/
def State.updateEntry (s : State) (e : FaultEntry) : FaultEntry :=
  let e := { e with ring := s.ringNumber, aAcc := s.act.aAcc, time := s.seconds }
  match e.state, e.key.measured with
  | .retrying, false => { e with retryLeft := some (s.retryMs e.mode) }
  | .retrying, true => { e with state := .active, retryLeft := none }
  | _, _ => e

/-- The fault list after a raise: the key's entry updated, or a new entry at the tail, or OVERFLOW where there is no room
(R140, R142, R143, R148). -/
def State.raisedList (s : State) (key : FaultKey) (mode : Nat) : Faults :=
  let f := s.fsv
  match f.find key with
  | some _ => { f with entries := f.entries.map fun e => if e.key == key then s.updateEntry e else e }
  | none =>
    match s.newEntryState key mode with
    | none => f
    | some (est, left) =>
      if f.entries.length < faultListRoom then
        let e : FaultEntry :=
          { key := key, mode := mode, state := est, retryLeft := left, ring := s.ringNumber, aAcc := s.act.aAcc,
            time := s.seconds }
        { f with entries := f.entries ++ [e] }
      else { f with overflow := true }

/-- A raise is offered to the first-fault record (R150). -/
def State.offerFirst (s : State) (key : FaultKey) : State :=
  match s.fsv.first with
  | none =>
    let r : FirstFault :=
      { key := key, ring := s.ringNumber, a := s.adu.a, cycle := s.adu.cycle, time := s.seconds, later := 0 }
    (s.modFsv fun f => { f with first := some r }).setEvent .firstFault
  | some r => s.modFsv fun f => { f with first := some { r with later := addUpTo 32767 r.later 1 } }

/-- The fault event of the key's domain station, where that station is not CABIN (R142). -/
def State.setDomainEvent (s : State) (key : FaultKey) : State :=
  match key.domain with
  | .cabin => s
  | .erector => s.setEvent .erectorFault
  | .grout => s.setEvent .groutFault
  | .muck => s.setEvent .muckFault

/-- The class counter and the condition mark of a raise, in every mode (R142, R151). -/
def State.countRaise (s : State) (key : FaultKey) : State :=
  s.modFsv fun f =>
    { f with
      counters := modAt f.counters key.cls fun n => addUpTo 32767 n 1
      marks := if key.measured then modAt f.marks key.idx fun _ => true else f.marks }

/-- A raise under a mode, before the action set is judged again (R142, R143). -/
def State.raiseUnder (s : State) (key : FaultKey) (mode : Nat) : State :=
  let standing := (s.fsv.find key).isSome
  let t := (s.countRaise key)
  let t := { t with fsv := t.raisedList key mode }
  if standing || mode != 7 then ((t.offerFirst key).setEvent .faultRaised).setDomainEvent key else t

/-- The FSV answers a GROUT_BLOCKED raise for which no entry stands because of its class's mode (R153). -/
def State.answerBlocked (s : State) (key : FaultKey) : State :=
  match key with
  | .groutBlocked p =>
    if (s.faultMode key == 3 || s.faultMode key == 7) && (s.fsv.find key).isNone then s.send (.blockedRemoved p) else s
  | _ => s

/-- A raise (R142): it is handled, the action set is judged again (R152), and a GROUT_BLOCKED raise is answered (R153). -/
def State.raise (s : State) (key : FaultKey) : State :=
  ((s.raiseUnder key (s.faultMode key)).announce s.fsv).answerBlocked key

/-- What the clearance of its condition does to an entry; none removes it (R144). -/
def State.clearedEntry (s : State) (e : FaultEntry) : Option FaultEntry :=
  match e.state with
  | .active =>
    if s.fsv.retryCount e.key < s.item .retryLimit then
      some { e with state := .retrying, retryLeft := some (s.retryMs e.mode) }
    else some { e with state := .latched }
  | .reported => none
  | .latched | .retrying => some e

/-- A raising block reports that a measured condition has cleared (R144). -/
def State.clearCondition (s : State) (key : FaultKey) : State :=
  (s.modFsv fun f =>
    { f with
      marks := modAt f.marks key.idx fun _ => false
      entries := f.entries.filterMap fun e => if e.key == key then s.clearedEntry e else some e }).announce s.fsv

/-- A measured condition that has come or gone is raised or reported cleared (R135, R136, R144, R165). -/
def State.report (s : State) (key : FaultKey) : State :=
  if s.condition key then s.raise key else s.clearCondition key

/-- Measured conditions are judged: each that is not as the condition table marks it is raised or reported cleared. A block that
changes what a condition depends on has it judged at that change (R134, R135, R136, R165; log entry 8). -/
def State.judgeKeys (s : State) (keys : List FaultKey) : State :=
  keys.foldl (fun t k => if t.condition k != t.fsv.marked k then t.report k else t) s

/-- The removal notice of R153, where the key is GROUT_BLOCKED's. -/
def State.noticeRemoval (s : State) (key : FaultKey) : State :=
  match key with
  | .groutBlocked p => s.send (.blockedRemoved p)
  | _ => s

/-- The key's entry is removed from the list, its actions leave, and the GRU is told of a GROUT_BLOCKED entry (R140, R152, R153). -/
def State.removeEntry (s : State) (key : FaultKey) : State :=
  ((s.modFsv fun f => { f with entries := f.entries.filter fun e => e.key != key }).announce s.fsv).noticeRemoval key

/-- The retry time of a key's RETRYING entry runs out (R145): its retry count rises, stopping at 7, and the entry is removed. -/
def State.expireRetry (s : State) (key : FaultKey) : State :=
  match s.fsv.find key with
  | some e =>
    if e.state == .retrying && e.retryLeft.isSome then
      (s.modFsv fun f => { f with retryCounts := modAt f.retryCounts key.idx fun n => addUpTo 7 n 1 }).removeEntry key
    else s
  | none => s

/-- The retry counts and class counters are reset at the boring start of a ring (R145). -/
def State.resetRingCounts (s : State) : State :=
  s.modFsv fun f => { f with counters := Vector.replicate 12 0, retryCounts := Vector.replicate 55 0 }

/-- Step 2 of an accepted clear of OVERFLOW: every key whose condition is present and for which no entry stands is raised afresh, and
the actions that its entry brings enter (R148). The ADV_HALT of OVERFLOW has not left yet, so it does not enter. -/
def State.raiseAfresh (s : State) : State :=
  measuredKeys.foldl (fun t k =>
    if t.fsv.marked k && (t.fsv.find k).isNone then
      (t.raiseUnder k (t.faultMode k)).announceEntering { t.fsv with overflow := true }
    else t) s

/-- Step 3 of an accepted clear of OVERFLOW: the GRU is told of each line that has no GROUT_BLOCKED entry (R148). -/
def State.noticeUnblocked (s : State) : State :=
  allLines.foldl (fun t p => if (s.fsv.find (.groutBlocked p)).isNone then t.send (.blockedRemoved p) else t) s

/-- An accepted clear of OVERFLOW (R148): its steps 1 to 3 in order, after which the ADV_HALT of OVERFLOW leaves the action set unless
an entry brings it or OVERFLOW has been set again. -/
def State.clearOverflow (s : State) : State :=
  ((s.modFsv fun f => { f with overflow := false }).raiseAfresh.noticeUnblocked).announceLeaving s.fsv

/-- A REPORTED entry whose class is given a stop mode is handled as a fresh raise under that mode (R149; DEDUCED, log entry 15). -/
def State.reviseReported (s : State) (key : FaultKey) : State :=
  let mode := s.faultMode key
  match s.fsv.find key with
  | some e =>
    if e.state == .reported && decide (mode < 3) then
      let t := s.raiseUnder key mode
      let st : EntryState := if mode == 2 || decide (s.item .retryLimit ≤ s.fsv.retryCount key) then .latched else .active
      (t.modFsv fun f => { f with entries := f.entries.map fun e =>
        if e.key == key then { e with mode := mode, state := st } else e }).announce s.fsv
    else s
  | none => s

/-- The answer and the effect of CABIN's FIRST FAULT RELEASE (R150). -/
def State.releaseFirst (s : State) : State × Reply :=
  match s.fsv.first with
  | none => (s, .refusedState 1)
  | some _ => (s.modFsv fun f => { f with first := none }, .accepted)

/-- The answer and the effect of a clear of OVERFLOW (R148). -/
def State.requestOverflowClear (s : State) (st : Station) (src : Nat) : State × Reply :=
  match firstFailing
    [ (src == 0, .refusedRange 11), (st == .cabin, .refusedDomain 1), (s.fsv.overflow, .refusedState 5),
      (s.fsv.entries.length < faultListRoom, .refusedState 6) ] with
  | some r => (s, r)
  | none => (s.clearOverflow, .accepted)

/-- Whether FAULT CLEAR finds the fault still present: the entry is ACTIVE or REPORTED, or is LATCHED with its condition
present (Table 8-7). -/
def Faults.stillPresent (f : Faults) (e : FaultEntry) : Bool :=
  e.state == .active || e.state == .reported || (e.state == .latched && f.marked e.key)

/-- The answer and the effect of FAULT CLEAR (R147); class code 0 is handled by R148. -/
def State.requestFaultClear (s : State) (st : Station) (cls src : Nat) : State × Reply :=
  if cls = 0 then s.requestOverflowClear st src
  else if 12 < cls then (s, .refusedRange 10)
  else
    match keyOf cls src with
    | none => (s, .refusedRange 11)
    | some key =>
      if key.domain != st then (s, .refusedDomain 1)
      else
        match s.fsv.find key with
        | none => (s, .refusedState 2)
        | some e =>
          if s.fsv.stillPresent e then (s, { outcome := .stillPresent, reason := 3, skip := 0 })
          else (s.removeEntry key, .accepted)

end Sys2Proof.Machine
end

