-- ==== Sys2Proof/Machine/Gru.lean ====
section
/-! DEFINITION. The Grout Unit: the phases of the tail lines, deliveries, the stall test and L_grout (Chapter 5). -/

namespace Sys2Proof.Machine

/-- The deficit of a line as last published. -/
def State.deficit (s : State) (p : LineIx) : Deficit := (s.account p).deficit

/-- The measurement number of a line's pressure, M(2 + p), and of its counter, M(8 + p). -/
def pressureMeas (p : LineIx) : MeasIx := ⟨2 + p.val, by omega⟩
def counterMeas (p : LineIx) : MeasIx := ⟨8 + p.val, by omega⟩

/-- The line's pressure: what the MST supplies, a held value among it (5.4, log entry 20), but for a value that a change of NOVAL_POLICY
has made held, which the tests do not use before the next report (R133). -/
def State.pressure (s : State) (p : LineIx) : Option Nat :=
  if (s.line p).pressureWithheld then none else s.supply (pressureMeas p)

/-- The limit test of R101: the pressure is at or above the PRESS_MAX in use. Not met where there is no pressure. -/
def State.atLimit (s : State) (p : LineIx) : Bool :=
  ((s.pressure p).map fun v => decide ((s.line p).pressMax ≤ v)).getD false

/-- The return test of R102 and R104: the pressure is at or below PRESS_MAX − PRESS_HYST, as in use. No pressure meets it where
PRESS_HYST is at or above PRESS_MAX (R102; log entry 11), and it is not met where there is no pressure. -/
def State.fellBack (s : State) (p : LineIx) : Bool :=
  let l := s.line p
  ((s.pressure p).map fun v => decide (l.pressHyst < l.pressMax ∧ v + l.pressHyst ≤ l.pressMax)).getD false

/-- A pressure value of a line brings the present PRESS_MAX and PRESS_HYST into use for it (R113, log entry 26), and ends the withholding
of a held pressure (R133). -/
def State.notePressure (s : State) (p : LineIx) : State :=
  s.modLine p fun l =>
    { l with pressMax := s.item .pressMax, pressHyst := s.item .pressHyst, pressureWithheld := false }

/-- A publication of a line's deficit brings the present RESUME_DEFICIT into use for it (R113, log entry 26). -/
def State.noteDeficit (s : State) (p : LineIx) : State :=
  s.modLine p fun l => { l with resumeDeficit := s.item .resumeDeficit }

/-- The setpoint in FLOW (R101): 0 under Z or N, else min(8, ceil(8 d / FLOW_SPAN)). -/
def flowSetpoint (d : Deficit) (span : Nat) : Nat :=
  if d.z || d.n then 0 else min 8 ((8 * d.d.toNat + span - 1) / span)

/-- S of a line in FLOW is judged (R101). -/
def State.judgeSetpoint (s : State) (p : LineIx) : State :=
  if (s.line p).phase == .flow then
    s.modLine p fun l => { l with setpoint := flowSetpoint (s.deficit p) (s.item .flowSpan) }
  else s

/-- The measured conditions that depend on a line's phase (Tables 7-3 and 9-5). -/
def lineKeys (p : LineIx) : List FaultKey :=
  [.measInvalid (pressureMeas p), .measInvalid (counterMeas p), .stationSilent .grout]

/-- Entry into a phase with the valve and the setpoint of Table 5-3: S is 1 in PRIME, kept in LIMIT, set by the deficit in FLOW and
0 elsewhere. The valve is open in the injecting phases while emergency stop is released (R98). The conditions that depend on the
phase are judged at once (R134, R135, R165). -/
def State.enterPhase (s : State) (p : LineIx) (ph : Phase) : State :=
  (s.modLine p fun l =>
    { l with
      phase := ph
      valve := ph.injecting && !s.estop
      setpoint :=
        match ph with
        | .prime => 1
        | .limit => l.setpoint
        | .flow => flowSetpoint (s.deficit p) (s.item .flowSpan)
        | _ => 0 }).judgeKeys (lineKeys p)

/-- Entry into LIMIT: the stall history is emptied and the second count becomes 0 (R102). -/
def State.enterLimit (s : State) (p : LineIx) : State :=
  (s.enterPhase p .limit).modLine p fun l => { l with stallHistory := [], secondCount := 0 }

/-- The pressure test of a line in FLOW (R101). -/
def State.testLimit (s : State) (p : LineIx) : State :=
  if (s.line p).phase == .flow && s.atLimit p then s.enterLimit p else s

/-- The resumption test of a line in SATISFIED (R104), and the pressure test on the entry into FLOW that it makes. A line that
resumes has a deficit at or above RESUME_DEFICIT, so the satisfaction test of that entry is not met. -/
def State.testResume (s : State) (p : LineIx) : State :=
  if (s.line p).phase == .satisfied && decide (((s.line p).resumeDeficit : Int) ≤ (s.deficit p).d) && s.fellBack p
      && (s.account p).window then
    (s.enterPhase p .flow).testLimit p
  else s

/-- Entry into SATISFIED sets the grout station's event and makes the resumption test (R101, R103, R104). -/
def State.enterSatisfied (s : State) (p : LineIx) : State :=
  ((s.enterPhase p .satisfied).setEvent .lineSatisfied).testResume p

/-- The satisfaction test of a line in FLOW (R101). -/
def State.testSatisfied (s : State) (p : LineIx) : State :=
  if (s.line p).phase == .flow && (s.deficit p).n && decide ((s.deficit p).d ≤ -((s.line p).resumeDeficit : Int)) then
    s.enterSatisfied p
  else s

/-- Entry into FLOW: S is judged, then the pressure test and the satisfaction test are made (R101; log entry 9). -/
def State.enterFlow (s : State) (p : LineIx) : State := ((s.enterPhase p .flow).testLimit p).testSatisfied p

/-- The end of priming (R100). -/
def State.testPrimed (s : State) (p : LineIx) : State :=
  if (s.line p).phase == .prime && decide (s.item .primeVolume ≤ (s.line p).sinceOpen) then s.enterFlow p else s

/-- A line is started (R99). -/
def State.startLine (s : State) (p : LineIx) : State :=
  if s.inForce (.portHold p) then s.enterPhase p .held
  else if !(s.account p).window || s.estop then s.enterPhase p .idle
  else ((s.modLine p fun l => { l with sinceOpen := 0 }).enterPhase p .prime).testPrimed p

/-- The largest deficit of the lines whose window is OPEN and whose phase is not OUT (R112). -/
def State.dmax (s : State) : Option Int :=
  ((allLines.filter fun p => (s.account p).window && (s.line p).phase != .out).map fun p => (s.deficit p).d).max?

/-- The level of R112. -/
def groutLevel (low high : Nat) : Option Int → Nat
  | none => 8
  | some d => if d ≤ low then 8 else if (high : Int) ≤ d then 0 else (8 * ((high : Int) - d) / ((high : Int) - low)).toNat

/-- L_grout is judged and published, and the rate level is judged again (R112, R47). -/
def State.judgeGrout (s : State) : State :=
  { s with gru := { s.gru with lGrout := groutLevel (s.item .deficitLow) (s.item .deficitHigh) s.dmax } }.judgeRate

/-- The GRU judges a line's phase at a publication of its deficit (R101, R104); in PRIME the deliveries judge the end of priming. -/
def State.takeDeficit (s : State) (p : LineIx) : State :=
  (((s.noteDeficit p).judgeSetpoint p).testSatisfied p).testResume p

/-- The ACT has published the deficits of all six lines (an accrual, the boring start, ROUNDING): each line's phase is judged, and
L_grout. The lines are judged by line index (DESIGN CHOICE, log entry 8: R101 and R104 give the lines of one publication no order),
which is the order of the MEAS_INVALID raises of lines that return to FLOW together. -/
def State.takeDeficits (s : State) : State := (allLines.foldl State.takeDeficit s).judgeGrout

/-- An opening notice: a line in IDLE is started (R99). -/
def State.takeOpening (s : State) (p : LineIx) : State :=
  if (s.line p).phase == .idle then s.startLine p else s

/-- The phases that a closing notice, RING BEGIN and emergency stop send to IDLE (R105, R110, R111). -/
def Phase.idles (ph : Phase) : Bool := ph.injecting || ph == .satisfied

/-- A line in PRIME, FLOW, LIMIT or SATISFIED enters IDLE. -/
def State.idleLine (s : State) (p : LineIx) : State :=
  if (s.line p).phase.idles then s.enterPhase p .idle else s

/-- Every line in PRIME, FLOW, LIMIT or SATISFIED enters IDLE (R110, R111), by line index (DESIGN CHOICE, log entry 8). -/
def State.idleLines (s : State) : State := allLines.foldl State.idleLine s

/-- On the release of emergency stop every line in IDLE whose window is OPEN is started (R111). The lines are started by line index
(DESIGN CHOICE, log entry 8: R111 gives them no order), which is the order of their MEAS_INVALID raises in the fault list and decides
which of them the first-fault record holds. -/
def State.startIdleLines (s : State) : State :=
  allLines.foldl (fun t p => if (t.line p).phase == .idle && (t.account p).window then t.startLine p else t) s

/-- PORT_HOLD(p) enters the action set (R107). -/
def State.holdLine (s : State) (p : LineIx) : State :=
  if (s.line p).phase != .out then s.enterPhase p .held else s

/-- PORT_HOLD(p) leaves the action set (R107). -/
def State.releaseLine (s : State) (p : LineIx) : State :=
  if (s.line p).phase == .held then s.startLine p else s

/-- The FSV tells the GRU that no GROUT_BLOCKED entry stands for the line (R106). -/
def State.unblockLine (s : State) (p : LineIx) : State :=
  if (s.line p).phase == .blocked then s.startLine p else s

/-- A new pressure value of a line (R101, R102, R104, R113). -/
def State.takePressure (s : State) (p : LineIx) : State :=
  let s := s.notePressure p
  match (s.line p).phase with
  | .flow => s.testLimit p
  | .limit => if s.fellBack p then s.enterFlow p else s
  | .satisfied => s.testResume p
  | _ => s

/-- A counted increment of `n` litres (R96). The fields stop at their upper bounds (R93; log entry 6 for the second count). -/
def State.deliver (s : State) (p : LineIx) (n : Nat) : State :=
  let t := s.modLine p fun l =>
    { l with
      delivered := addUpTo (2 ^ 30 - 1) l.delivered n
      sinceOpen := addUpTo 32767 l.sinceOpen n
      secondCount := if l.phase == .limit then addUpTo 32767 l.secondCount n else l.secondCount }
  ((((t.judgeDeficit p).noteDeficit p).testPrimed p).takeDeficit p).judgeGrout

/-- The increment of a counter from one report to the next, modulo 32,768 (R95, R116). -/
def counterIncrement (last v : Nat) : Nat := (v + 32768 - last) % 32768

/-- A LINE_COUNTER value that the MST has taken (R95). -/
def State.takeLineCounter (s : State) (p : LineIx) (v : Nat) : State :=
  let l := s.line p
  let t := s.modLine p fun l => { l with lastCounter := v, counterValid := true }
  if !l.counterValid then t
  else
    let n := counterIncrement l.lastCounter v
    if n = 0 then t
    else if s.item .jumpGrout < n then t.raise (.measJump ⟨p.val, by omega⟩)
    else t.deliver p n

/-- The stall test's finding (R103): the history's total, multiplied by 960, is less than STALL_TIME × FLOW_MAX. -/
def State.stalled (s : State) (p : LineIx) : Bool :=
  decide ((s.line p).stallHistory.sum * 960 < s.item .stallTime * s.item .flowMax)

/-- The stall test (R103). -/
def State.testStall (s : State) (p : LineIx) : State :=
  if s.stalled p then
    if (s.deficit p).d ≤ (s.item .deficitLow : Int) then s.enterSatisfied p
    else ((s.enterPhase p .blocked).setEvent .lineBlocked).raise (.groutBlocked p)
  else s

/-- The last `n` entries of a list. -/
def lastOf {α : Type} (n : Nat) (l : List α) : List α := l.drop (l.length - n)

/-- A tick of the GRU's second timer for one line (R93, R102). -/
def State.tickLine (s : State) (p : LineIx) : State :=
  let l := s.line p
  let t := s.modLine p fun l => { l with secondCount := 0 }
  if l.phase == .limit then
    let t := t.modLine p fun r => { r with stallHistory := lastOf (s.item .stallTime) (r.stallHistory ++ [l.secondCount]) }
    if (t.line p).stallHistory.length = s.item .stallTime then t.testStall p else t
  else t

/-- A tick of the GRU's second timer (R102). The lines' stall tests of one tick go by line index: 5.7 says that either of two may be made
first with the same result, and the index decides the order in which two raises of GROUT_BLOCKED reach the Fault Supervisor (DESIGN
CHOICE, log entry 8). -/
def State.groutTick (s : State) : State := allLines.foldl State.tickLine s

/-- At the boring start the GRU rolls each deficit into its carry (R97). -/
def State.rollCarries (s : State) : State :=
  { s with gru := { s.gru with lines := mapIx s.gru.lines fun p l =>
      { l with carry := (s.deficit p).d, delivered := 0, outThroughout := l.phase == .out } } }

/-- The answer and the effect of LINE SUSPEND (R108). -/
def State.requestSuspend (s : State) (index : Nat) : State × Reply :=
  match lineOf index with
  | none => (s, .refusedRange 10)
  | some p =>
    match (s.line p).phase with
    | .blocked => (s, .refusedState 1)
    | .out => (s, .refusedState 3)
    | _ => ((s.enterPhase p .out).judgeGrout, .accepted)

/-- The answer and the effect of LINE RESUME (R109). -/
def State.requestResume (s : State) (index : Nat) : State × Reply :=
  match lineOf index with
  | none => (s, .refusedRange 10)
  | some p =>
    match (s.line p).phase with
    | .out => (((s.modLine p fun l => { l with outThroughout := false }).startLine p).judgeGrout, .accepted)
    | _ => (s, .refusedState 2)

end Sys2Proof.Machine
end

