-- ==== Sys2Proof/Machine/Act.lean ====
section
/-! DEFINITION. The Accounting Unit: accruals, windows and shares (Chapter 3). -/

namespace Sys2Proof.Machine

/-- A point is crossed by an accrual from `old` to `new` (R57). -/
def crossed (old new x : Nat) : Bool := decide (old < x ∧ x ≤ new)

/-- What an accrual from `old` to `new` finds at a line's opening and closing points. -/
structure Crossing where
  opening : Bool
  closing : Bool
  deriving DecidableEq, Repr

def State.crossing (s : State) (old new : Nat) (p : LineIx) : Crossing :=
  { opening := crossed old new (s.item (.windowOpen p)), closing := crossed old new (s.item (.windowClose p)) }

/-- The window state after the crossings (Table 3-3). -/
def Crossing.window (x : Crossing) (open_ : Bool) : Bool := (open_ || x.opening) && !x.closing

/-- The line belongs to the open set (R60). -/
def State.inOpenSet (s : State) (p : LineIx) : Bool :=
  (s.account p).window && decide (0 < s.item (.weight p)) && (s.line p).phase != .out

/-- The open set, in order of line index. -/
def State.openSet (s : State) : List LineIx := allLines.filter s.inOpenSet

/-- The sum W of the open set's weights. -/
def State.weightSum (s : State) : Nat := (s.openSet.map fun p => s.item (.weight p)).sum

/-- The line of largest weight, of lowest index among equals. -/
def State.heaviest (s : State) : Option LineIx :=
  s.openSet.find? fun p => s.openSet.all fun q => decide (s.item (.weight q) ≤ s.item (.weight p))

/-- The share q_p of a volume for one line of the open set (R60). -/
def State.share (s : State) (v : Nat) (p : LineIx) : Nat := v * s.item (.weight p) / s.weightSum

/-- The remainder r of a volume (R60). -/
def State.shareRemainder (s : State) (v : Nat) : Nat := v - (s.openSet.map (s.share v)).sum

/-- What one line receives of a volume: its share, and the remainder if it is the heaviest (R60). -/
def State.receives (s : State) (v : Nat) (p : LineIx) : Nat :=
  if s.inOpenSet p then s.share v p + (if s.heaviest = some p then s.shareRemainder v else 0) else 0

/-- The volume of an accrual is divided among the open set, or added to U (R60). -/
def State.distribute (s : State) (v : Nat) : State :=
  if s.weightSum = 0 then s.modAct fun a => { a with unassigned := a.unassigned + v }
  else s.modAct fun a => { a with lines := mapIx a.lines fun p l => { l with target := l.target + s.receives v p } }

/-- The gap test's finding (R61). -/
def State.gapFound (s : State) : Bool := !s.act.gapRaised && decide (s.item .gapLimit * 65536 < s.act.unassigned)

/-- Steps 1 to 7 of an accrual up to `new`, except the notices (R56). -/
def State.accrueSteps (s : State) (new : Nat) : State :=
  let old := s.act.aAcc
  let s := s.modAct fun a => { a with lines := mapIx a.lines fun p l =>
    { l with window := (s.crossing old new p).window l.window } }
  let s := s.distribute ((new - old) * s.act.kv)
  let s := s.modAct fun a => { a with expected := a.expected + (new - old) * a.km, aAcc := new }
  let s := s.modAct fun a => { a with gapRaised := a.gapRaised || s.gapFound }
  s.judgeDeficits

/-- A window notice to the GRU: an opening or a closing (R56, Table 3-3), with the judgment of L_grout that follows (R112). -/
def State.windowNotice (s : State) (was now : Bool) (p : LineIx) : State :=
  match was, now with
  | false, true => (s.takeOpening p).judgeGrout
  | true, false => (s.idleLine p).judgeGrout
  | _, _ => s

/-- An accrual up to `new` (R56): its steps, then the deficits published to the GRU, the window notices, the WINDOW_SKIPPED events
and the raise of GROUT_GAP. -/
def State.accrue (s : State) (new : Nat) : State :=
  let old := s.act.aAcc
  let t := (s.accrueSteps new).takeDeficits
  let t := allLines.foldl (fun u p => u.windowNotice (s.account p).window (t.account p).window p) t
  let t := allLines.foldl (fun u p =>
    let x := s.crossing old new p
    if x.opening && x.closing then u.setEvent .windowSkipped else u) t
  if t.act.gapRaised && !s.act.gapRaised then t.raise .groutGap else t

/-- A change report of the ring advance (R53). -/
def State.takeChange (s : State) : State :=
  if s.act.aAcc + s.item .quantum ≤ s.adu.a then s.accrue s.adu.a else s

/-- A flush notice (R54). -/
def State.flush (s : State) : State := if s.act.aAcc < s.adu.a then s.accrue s.adu.a else s

/-- The accounts at the boring start, before the notices (R58 steps 1 to 4): a pending pair comes into use, the accumulators become
0, the windows whose opening point is 0 open, the deficits are judged. R58 says that every window is SHUT before step 3; one that a flush
of a pause before this boring start has opened (R37, R54, R57) stays OPEN (DESIGN CHOICE, log entry 30). -/
def State.restartAccounts (s : State) : State :=
  (s.modAct fun a =>
    let k := a.pendingK.getD (a.kv, a.km)
    { a with
      kv := k.1, km := k.2, pendingK := none, aAcc := 0, unassigned := 0, expected := 0, gapRaised := false
      lines := mapIx a.lines fun p l =>
        { l with target := 0, window := l.window || s.item (.windowOpen p) == 0 } }).judgeDeficits

/-- The ACT's part of the boring start (R58), with the opening notices that it sends: one for each line whose opening point is 0, in
order of line index, to a line whose window was OPEN before as to any other (log entry 30). -/
def State.startAccountRing (s : State) : State :=
  let t := s.restartAccounts.takeDeficits
  allLines.foldl (fun u p => if s.item (.windowOpen p) = 0 then (u.takeOpening p).judgeGrout else u) t

/-- At RING BEGIN every window becomes SHUT, without notices (R59). -/
def State.shutWindows (s : State) : State :=
  s.modAct fun a => { a with lines := mapIx a.lines fun _ l => { l with window := false } }

/-- The pair of coefficients is computed and comes into use, or is held pending (R51, R52). -/
def State.recomputeCoefficients (s : State) : State :=
  let k := (coefficientKv (s.item .boreDiameter) (s.item .ringOd), coefficientKm (s.item .boreDiameter) (s.item .muckDensity))
  s.modAct fun a =>
    if a.aAcc = 0 then { a with kv := k.1, km := k.2, pendingK := none } else { a with pendingK := some k }

end Sys2Proof.Machine
end

