-- ==== Sys2Proof/Machine/Jgu.lean ====
section
/-! DEFINITION. The Jack Group Unit: stroke counting, the moves of the groups and their notices (Chapter 1). -/

namespace Sys2Proof.Machine

/-- The notice of a group's change of state (R25). It names the piece the group has arrived for: in CLEAR the piece that owns the
group (R78 and R84 take a group that went straight to CLEAR like any other arrival; DEDUCED, log entry 10), in HOLD the piece that owned it
before. -/
def Group.notice (g : GroupIx) (before after : Group) : Notice :=
  .groupState g after.state after.owner
    (match after.state with
     | .clear => after.owner
     | .hold => before.owner
     | _ => none)

/-- Changes several groups together and then sends one notice for each group whose state changed, in order of index (R25). -/
def State.changeGroups (s : State) (f : GroupIx → Group → Group) : State :=
  let t := { s with groups := mapIx s.groups f }
  allGroups.foldl (fun u g =>
    if (s.group g).state != (t.group g).state then u.send (Group.notice g (s.group g) (t.group g)) else u) t

/-- Entry into HOLD begins a new hold period (R15). -/
def Group.enterHold (r : Group) : Group :=
  { r with state := .hold, contactCapture := r.stroke, contact := true, owner := none, dwell := none }

/-- The ADU's push request: every group in HOLD enters PUSH, and stroke end is tested at once (R14, R24). -/
def State.jguPush (s : State) : State :=
  let reaches (r : Group) : Bool := r.state == .hold && decide (s.item .strokeEnd ≤ r.stroke)
  let t := s.changeGroups fun _ r =>
    if r.state == .hold then { r with state := .push, strokeEndReported := reaches r } else r
  allGroups.foldl (fun u g => if reaches (s.group g) then u.send (.strokeEnd g) else u) t

/-- The ADU's hold request: every group in PUSH enters HOLD (R14). -/
def State.jguHold (s : State) : State :=
  s.changeGroups fun _ r => if r.state == .push then r.enterHold else r

/-- What the retract request does to a named group (R16). -/
def Group.retractFor (clearStroke : Nat) (pc : Piece) (r : Group) : Group :=
  match r.state with
  | .hold | .push =>
    { r with state := if clearStroke < r.stroke then .retract else .clear, owner := some pc, contact := false }
  | _ => r

/-- The RBU's retract request for a piece and its groups (R16). -/
def State.jguRetract (s : State) (pc : Piece) (gs : List GroupIx) : State :=
  s.changeGroups fun g r => if gs.contains g then r.retractFor (s.item .clearStroke) pc else r

/-- What the return request does to a named group (R19); while the group is forced BLOCK its dwell time is stopped (R22). -/
def Group.returnFor (forced : Bool) (dwell : Nat) (r : Group) : Group :=
  match r.state with
  | .retract | .clear =>
    { r with state := .returning, dwellRef := r.stroke, dwell := if forced then none else some dwell }
  | _ => r

/-- The RBU's return request for a piece's groups (R19). -/
def State.jguReturn (s : State) (gs : List GroupIx) : State :=
  s.changeGroups fun g r => if gs.contains g then r.returnFor s.frozen (s.item .contactDwell) else r

/-- While a forcing of R12 or R13 begins, the dwell time of every group in RETURN is stopped (R22). -/
def State.stopDwells (s : State) : State :=
  { s with groups := mapIx s.groups fun _ r => if r.state == .returning then { r with dwell := none } else r }

/-- When the last forcing has ended, every group in RETURN takes its present stroke as dwell reference and the full dwell time
(R22). -/
def State.restartDwells (s : State) : State :=
  if s.frozen then s
  else
    { s with groups := mapIx s.groups fun _ r =>
        if r.state == .returning then { r with dwellRef := r.stroke, dwell := some (s.item .contactDwell) } else r }

/-- The ADU's request to capture the boring-start strokes (R26). -/
def State.captureStrokes (s : State) : State :=
  { s with groups := mapIx s.groups fun _ r => { r with capture := r.stroke } }

/-- The dwell time of a RETURN group runs out: it is judged in contact and enters HOLD (R21). A dwell time that is stopped does
not run out. -/
def State.expireDwell (s : State) (g : GroupIx) : State :=
  let r := s.group g
  if r.state == .returning && r.dwell.isSome then s.changeGroups fun g' r' => if g' = g then r'.enterHold else r'
  else s

/-- The tests of a group's present state after a counted pulse (R17, R20, R23, R24). -/
def State.comparePulse (s : State) (g : GroupIx) : State :=
  let r := s.group g
  match r.state with
  | .retract =>
    if r.stroke ≤ s.item .clearStroke then
      s.changeGroups fun g' r' => if g' = g then { r' with state := .clear } else r'
    else s
  | .returning =>
    if !s.frozen && decide (r.dwellRef + 3 ≤ r.stroke) then
      s.modGroup g fun r' => { r' with dwellRef := r'.stroke, dwell := some (s.item .contactDwell) }
    else s
  | .hold =>
    if r.contact && decide (r.contactCapture + s.item .contactSlack < r.stroke) then
      (s.modGroup g fun r' => { r' with contact := false }).raise (.contactLoss g)
    else s
  | .push =>
    if !r.strokeEndReported && decide (s.item .strokeEnd ≤ r.stroke) then
      (s.modGroup g fun r' => { r' with strokeEndReported := true }).send (.strokeEnd g)
    else s
  | .locked | .clear => s

/-- The greatest stroke. -/
def strokeTop : Nat := 32767

/-- A step pulse of a group (R5, R6, R7): a clamped pulse sets the saturated flag alone; another changes the stroke, then the
comparisons are made, then the change is reported to the ADU (a stroke-end report among the comparisons is the earlier of the two:
DEDUCED, log entry 14). -/
def State.pulse (s : State) (g : GroupIx) (extending : Bool) : State :=
  let v := (s.group g).stroke
  if (extending && decide (strokeTop ≤ v)) || (!extending && v == 0) then
    s.modGroup g fun r => { r with saturated := true }
  else
    ((s.modGroup g fun r => { r with stroke := if extending then v + 1 else v - 1 }).comparePulse g).send .strokeChange

/-- The range of a boring-start capture: a signed double word (R2). -/
def captureInRange (b : Int) : Bool := decide (-536870912 ≤ b ∧ b ≤ 536870911)

/-- b_g + (v − s) of R9. -/
def Group.shifted (r : Group) (v : Nat) : Int := r.capture + ((v : Int) - (r.stroke : Int))

/-- What an accepted REFERENCE STROKES does to one group (R9). -/
def Group.reference (r : Group) (v : Nat) : Group :=
  let r := { r with capture := r.shifted v, stroke := v, referenced := true, saturated := false }
  match r.state with
  | .locked | .hold => r.enterHold
  | _ => r

/-- The checks of REFERENCE STROKES in their order: the state, then each value in order of group, then each shift (R8). -/
def State.referenceChecks (s : State) (v : GroupIx → Nat) : List (Bool × Reply) :=
  (s.adu.cycle == .standstill, Reply.refusedState 1)
  :: allGroups.map (fun g => (decide (v g ≤ 32000), Reply.refusedRange (10 + g)))
  ++ allGroups.map (fun g => (captureInRange ((s.group g).shifted (v g)), Reply.refusedRange (20 + g)))

/-- The answer and the effect of REFERENCE STROKES (R8, R9). -/
def State.requestReference (s : State) (v : GroupIx → Nat) : State × Reply :=
  match firstFailing (s.referenceChecks v) with
  | some r => (s, r)
  | none => ((s.changeGroups fun g r => r.reference (v g)).send .strokeChange, .accepted)

end Sys2Proof.Machine
end

