-- ==== Sys2Proof/Machine/Mku.lean ====
section
/-! DEFINITION. The Muck Unit: the mass account, the car list, the belt permit and the excavation judgment (Chapter 6). -/

namespace Sys2Proof.Machine

/-- The FILLING car (R118). -/
def Muck.filling (k : Muck) : Option Car := k.cars.find? fun c => c.state == .filling

/-- The greatest fill, spill and M (R114, R118). -/
def fillTop : Nat := 32767
def massTop : Nat := 2 ^ 30 - 1

/-- The permit that R123 gives. -/
def State.permitFor (s : State) : Bool :=
  match s.mku.filling, s.mku.capacity with
  | some c, some cap => decide (c.fill < cap + s.item .carOverfill) && !s.inForce .beltHalt && !s.estop
  | _, _ => false

/-- The measured conditions that depend on the belt permit (Tables 7-3 and 9-5). -/
def beltKeys : List FaultKey := [.measInvalid 14, .stationSilent .muck]

/-- The belt permit is judged (R123), L_muck follows it (R124) and the rate level is judged again (R47); a removal sets
BELT_STOP. The conditions that depend on the permit are judged at once (R134, R135, R165). -/
def State.judgePermit (s : State) : State :=
  let now := s.permitFor
  let t := (s.modMku fun k => { k with beltPermit := now, lMuck := if now then 8 else 0 }).judgeRate
  (if s.mku.beltPermit && !now then t.setEvent .beltStop else t).judgeKeys beltKeys

/-- The FILLING car meets the test of CAR_DUE (R120). -/
def State.carIsDue (s : State) : Bool :=
  match s.mku.filling, s.mku.capacity with
  | some c, some cap => !c.dueReported && decide (cap ≤ c.fill + s.item .carReserve)
  | _, _ => false

/-- The test for CAR_DUE (R120). -/
def State.testCarDue (s : State) : State :=
  if s.carIsDue then
    (s.modMku fun k =>
      { k with cars := k.cars.map fun c => if c.state == .filling then { c with dueReported := true } else c }).setEvent .carDue
  else s

/-- A counted increment of `n` units (R117). -/
def State.countMuck (s : State) (n : Nat) : State :=
  let t := s.modMku fun k => { k with measured := addUpTo massTop k.measured n }
  if t.mku.filling.isSome then
    ((t.modMku fun k =>
      { k with cars := k.cars.map fun c =>
          if c.state == .filling then { c with fill := addUpTo fillTop c.fill n } else c }).testCarDue).judgePermit
  else t.modMku fun k => { k with spill := addUpTo fillTop k.spill n }

/-- A BELT_COUNTER value that the MST has taken (R116). -/
def State.takeBeltCounter (s : State) (v : Nat) : State :=
  let t := s.modMku fun k => { k with lastCounter := v, counterValid := true }
  if !s.mku.counterValid then t
  else
    let n := counterIncrement s.mku.lastCounter v
    if n = 0 then t
    else if s.item .jumpBelt < n then t.raise (.measJump 6)
    else t.countMuck n

/-- The car list of a train of `n` cars: car 1 FILLING, the others EMPTY (R119). -/
def carsOfTrain (n : Nat) : List Car :=
  { state := .filling, fill := 0, dueReported := false }
    :: List.replicate (n - 1) { state := .empty, fill := 0, dueReported := false }

/-- The answer and the effect of TRAIN IN (R119). -/
def State.requestTrainIn (s : State) (n capacity : Nat) : State × Reply :=
  match firstFailing
    [ (s.mku.cars.isEmpty, .refusedState 1), (decide (1 ≤ n ∧ n ≤ 12), .refusedRange 10),
      (decide (500 ≤ capacity ∧ capacity ≤ 4000), .refusedRange 11) ] with
  | some r => (s, r)
  | none =>
    (((s.modMku fun k => { k with cars := carsOfTrain n, capacity := some capacity }).testCarDue).judgePermit, .accepted)

/-- The FILLING car becomes FULL and the EMPTY car after it FILLING (R121). -/
def shiftCars : List Car → List Car
  | [] => []
  | c :: rest =>
    if c.state == .filling then
      { c with state := .full }
        :: (match rest with
            | [] => []
            | d :: more => (if d.state == .empty then { d with state := .filling } else d) :: more)
    else c :: shiftCars rest

/-- The answer and the effect of CAR SHIFT (R121). -/
def State.requestCarShift (s : State) : State × Reply :=
  match firstFailing
    [ (!s.mku.cars.isEmpty, .refusedState 1), (!s.mku.cars.all (fun c => c.state == .full), .refusedState 2) ] with
  | some r => (s, r)
  | none =>
    let t := s.modMku fun k => { k with cars := shiftCars k.cars }
    ((if t.mku.filling.isSome then t.testCarDue else t.setEvent .trainFull).judgePermit, .accepted)

/-- The answer and the effect of TRAIN OUT (R122). -/
def State.requestTrainOut (s : State) : State × Reply :=
  ((s.modMku fun k => { k with cars := [], capacity := none }).judgePermit, .accepted)

/-- E_lag: the oldest entry of a full delay line (R125). -/
def State.eLag (s : State) : Option Nat :=
  if s.mku.delayLine.length = s.item .muckLag + 1 then s.mku.delayLine.head? else none

/-- The excavation judgment (R126). -/
def State.judgeExcavation (s : State) : State :=
  match s.mku.judgment, s.eLag with
  | .normal, some e =>
    if e < s.item .judgeMin then s
    else if e * (100 + s.item .overMargin) < s.mku.measured * 100 then
      (s.modMku fun k => { k with judgment := .over }).raise .overexc
    else if s.mku.measured * 100 < e * (100 - s.item .underMargin) then
      (s.modMku fun k => { k with judgment := .under }).raise .underexc
    else s
  | _, _ => s

/-- A tick of the MKU's second timer (R125). -/
def State.muckTick (s : State) : State :=
  if (s.adu.cycle == .boring || s.adu.cycle == .paused || s.adu.cycle == .rundown) && !s.adu.ringStartPending then
    (s.modMku fun k =>
      { k with delayLine := lastOf (s.item .muckLag + 1) (k.delayLine ++ [s.whole s.act.expected]) }).judgeExcavation
  else s

/-- The MKU's part of the boring start (R127). -/
def State.startMuckRing (s : State) : State :=
  s.modMku fun k => { k with measured := 0, spill := 0, delayLine := [], judgment := .normal }

end Sys2Proof.Machine
end

