-- ==== Sys2Proof/Machine/Adu.lean ====
section
/-! DEFINITION. The Advance Unit: the advance cycle, the revolution pulses and the rate level (Chapter 2). -/

namespace Sys2Proof.Machine

/-- The measured conditions that depend on the cycle state (Tables 7-3 and 9-5, R136). -/
def cycleKeys : List FaultKey :=
  [.torqueHigh, .faceLow, .faceHigh, .measInvalid 0, .measInvalid 1, .stationSilent .grout, .stationSilent .muck]

/-- The cycle enters a state; the rate level is judged (R47). On leaving PAUSED permit kept becomes no (R39), and every entry into
PAUSED sets it again. The conditions that depend on the cycle are judged at once (R134 to R136, R165). -/
def State.enterCycle (s : State) (c : Cycle) : State :=
  (s.modAdu fun a => { a with cycle := c, permitKept := false }).judgeRate.judgeKeys cycleKeys

/-- L_pen is judged (R46). -/
def State.judgePen (s : State) : State :=
  (s.modAdu fun a =>
    { a with lPen :=
        if a.penetrationValid && decide (s.item .penMax < a.penetration) then 8 * s.item .penMax / a.penetration else 8 }).judgeRate

/-- Entry into STANDSTILL sends the flush notice (R40). -/
def State.enterStandstill (s : State) : State := (s.enterCycle .standstill).flush

/-- The hold request, where the cycle is BORING (R38, R40). -/
def State.holdIfBoring (s : State) : State := if s.adu.cycle == .boring then s.jguHold else s

/-- Entry into RUNDOWN (R40), and the STANDSTILL that follows at once where the cutterhead is STOPPED. -/
def State.enterRundown (s : State) : State :=
  let t := s.holdIfBoring.modAdu fun a => { a with thrustPermit := false, cutterPermit := false, spinup := none }
  let t := (t.enterCycle .rundown).flush
  if t.adu.cutter == .stopped then (t.setEvent .standstillReached).enterStandstill else t

/-- The last stop cause is set. -/
def State.setCause (s : State) (c : StopCause) : State := s.modAdu fun a => { a with lastStop := c }

/-- Entry into PAUSED from SPINUP or BORING, with the cutterhead permit kept or removed (R34, R38, R39). -/
def State.enterPaused (s : State) (kept : Bool) : State :=
  let t := s.holdIfBoring.modAdu fun a => { a with thrustPermit := false, cutterPermit := kept && a.cutterPermit, spinup := none }
  (t.enterCycle .paused).modAdu fun a => { a with permitKept := kept }

/-- Entry into SPINUP: the cutterhead permit is asserted (R30, R31, R39). -/
def State.enterSpinup (s : State) : State :=
  let t := s.modAdu fun a =>
    { a with cutterPermit := true, pulseSincePermit := false, spinup := some (1000 * s.item .spinupTime),
             confirmations := 0, penetrationValid := false }
  (t.enterCycle .spinup).judgePen

/-- The boring start of a new ring (R36), its seven steps in order. What a line that enters PRIME at step 4 makes needed or obliged is
judged at that entry, so a MEAS_INVALID or STATION_SILENT that it raises comes before step 6 sets the class counters and retry counts
to 0; so does one that the entry into BORING itself raised (DESIGN CHOICE, log entry 8). -/
def State.startRing (s : State) : State :=
  let s := s.captureStrokes
  let s := s.modAdu fun a => { a with a := 0, advanceAtPulse := 0, revolutions := 0, maxPenetration := 0 }
  let s := s.rollCarries.startAccountRing.startMuckRing.resetRingCounts
  let s := s.modAdu fun a => { a with ringStartPending := false }
  { s with mst := { s.mst with maxFace := none } }

/-- Entry into BORING (R35). -/
def State.enterBoring (s : State) : State :=
  let s := (s.modAdu fun a => { a with spinup := none }).enterCycle .boring
  let s := if s.adu.ringStartPending then s.startRing else s
  (s.jguPush.modAdu fun a => { a with thrustPermit := true }).judgeRate

/-- The mean extension since the boring start (R37). -/
def meanAdvance (gs : Vector Group 10) : Nat :=
  let sum : Int := (gs.toList.map fun r => (r.stroke : Int) - r.capture).sum
  min 32767 (sum.toNat / 10)

/-- BORING or PAUSED ends where the ring advance has reached RING_TARGET (R38, R39). -/
def State.testTarget (s : State) : State :=
  if (s.adu.cycle == .boring || s.adu.cycle == .paused) && decide (s.item .ringTarget ≤ s.adu.a) then
    ((s.setEvent .ringStroke).setCause .ringStroke).enterRundown
  else s

/-- A report of a stroke change (R37, R38): in BORING and PAUSED the ring advance is recomputed; in BORING a change is reported to
the ACT; then the ring target is tested. -/
def State.takeStrokeChange (s : State) : State :=
  let new := meanAdvance s.groups
  let t := s.modAdu fun a => { a with a := new }
  match s.adu.cycle with
  | .boring => (if new != s.adu.a then t.takeChange else t).testTarget
  | .paused => t.testTarget
  | _ => s

/-- A stroke-end report (R38). -/
def State.takeStrokeEnd (s : State) : State :=
  if s.adu.cycle == .boring then ((s.setEvent .strokeEnd).setCause .strokeEnd).enterRundown else s

/-- ADV_HALT or CUT_HALT enters the action set (R34, R38, R39). -/
def State.takeHalt (s : State) : State :=
  let cut := s.inForce .cutHalt
  match s.adu.cycle with
  | .boring => s.enterPaused (!cut)
  | .spinup => if cut then s.enterPaused false else s
  | .paused => if cut then s.modAdu fun a => { a with cutterPermit := false, permitKept := false } else s
  | _ => s

/-- A halt lifts (R39): where none remains in force, PAUSED goes to BORING with the permit kept, else to SPINUP. -/
def State.takeHaltLift (s : State) : State :=
  if s.adu.cycle == .paused && !s.haltInForce then
    if s.adu.permitKept then s.enterBoring else s.enterSpinup
  else s

/-- The last period is present and at or below TURN_PERIOD (R32, R33). -/
def State.turningPeriod (s : State) : Bool :=
  (s.adu.lastPeriod.map fun t => decide (t ≤ s.item .turnPeriod)).getD false

/-- Steps 1 to 5 of a revolution pulse (R31, R32). -/
def State.measurePulse (s : State) : State :=
  let s := s.modAdu fun a =>
    let due := a.penetrationValid || a.pulseSincePermit
    let p := a.a - a.advanceAtPulse
    { a with
      lastPeriod := (a.sincePulse.map fun t => min 32767 (t / 10))
      sincePulse := some 0
      revolutions := addUpTo 32767 a.revolutions 1
      penetration := if due then p else a.penetration
      penetrationValid := due
      maxPenetration := if due then max a.maxPenetration p else a.maxPenetration
      pulseSincePermit := true
      advanceAtPulse := a.a
      stopTimer := some (10 * s.item .turnPeriod) }
  s.modAdu fun a => { a with cutter := if s.turningPeriod then .turning else .slow }

/-- Spin-up is confirmed (R33): BORING where no halt is in force, else PAUSED, the cutterhead permit kept under ADV_HALT (log entry
23 for CUT_HALT, which no run meets here). -/
def State.confirmSpinup (s : State) : State :=
  if s.haltInForce then s.enterPaused (!s.inForce .cutHalt) else s.enterBoring

/-- In SPINUP a revolution pulse is judged for confirmation (R33). -/
def State.judgeConfirmation (s : State) : State :=
  if s.adu.cycle == .spinup then
    let n := if s.turningPeriod then s.adu.confirmations + 1 else 0
    let t := s.modAdu fun a => { a with confirmations := n }
    if 2 ≤ n then t.confirmSpinup else t
  else s

/-- A revolution pulse (R31). -/
def State.takeRevolution (s : State) : State := s.measurePulse.judgeConfirmation.judgePen

/-- The stop timer runs out (R32, R40). A timer that is not running does not run out. -/
def State.expireStopTimer (s : State) : State :=
  if s.adu.stopTimer.isSome then
    let t := s.modAdu fun a => { a with stopTimer := none, cutter := .stopped }
    if t.adu.cycle == .rundown then (t.setEvent .standstillReached).enterStandstill else t
  else s

/-- The spin-up time runs out before confirmation (R33). -/
def State.expireSpinup (s : State) : State :=
  if s.adu.cycle == .spinup && s.adu.spinup.isSome then
    ((s.modAdu fun a => { a with spinup := none, cutterPermit := false, lastStop := .spinupFailed }).setEvent
      .spinupFailed).enterStandstill
  else s

/-- The states that emergency stop drops to STANDSTILL (R49), and in which ADVANCE START and RING BEGIN give reason 1. -/
def Cycle.underWay : Cycle → Bool
  | .spinup | .boring | .paused | .rundown => true
  | _ => false

/-- The ADU's response to the assertion of emergency stop (R49). -/
def State.dropCycle (s : State) : State :=
  let s := s.setEvent .estop
  if s.adu.cycle.underWay then
    (s.jguHold.modAdu fun a =>
      { a with thrustPermit := false, cutterPermit := false, spinup := none, lastStop := .estop }).enterStandstill
  else s

/-- The RBU reports the open ring record COMPLETE (R44). -/
def State.takeCompletion (s : State) : State :=
  let s := s.modAdu fun a => { a with ringStartPending := true }
  if s.adu.cycle == .ringBuild then s.enterStandstill else s

/-- The conditions of ADVANCE START in the order of Table 2-3 (R28, R29). -/
def State.startChecks (s : State) : List (Bool × Reply) :=
  [ (!s.adu.cycle.underWay, .refusedState 1),
    (s.adu.cycle != .ringBuild, .refusedState 5),
    (allGroups.all fun g => (s.group g).referenced, .refusedState 2),
    (allGroups.all fun g => !(s.group g).saturated, .refusedState 3),
    (!s.haltInForce, .refusedState 6),
    (allStations.all fun st => (s.port st).present, .refusedState 7),
    (!s.estop, .refusedState 8),
    (decide (s.adu.a < s.item .ringTarget) || s.adu.ringStartPending, .refusedState 9),
    (allGroups.all fun g => decide ((s.group g).stroke < s.item .strokeEnd), .refusedState 10) ]

/-- The answer and the effect of ADVANCE START (R28, R30). -/
def State.requestStart (s : State) : State × Reply :=
  match firstFailing s.startChecks with
  | some r => (s, r)
  | none => (s.enterSpinup, .accepted)

/-- The answer and the effect of ADVANCE STOP (R41). -/
def State.requestStop (s : State) : State × Reply :=
  match s.adu.cycle with
  | .spinup | .boring | .paused => ((s.setCause .stopRequest).enterRundown, .accepted)
  | .rundown => (s, .accepted)
  | .standstill => (s, .refusedState 1)
  | .ringBuild => (s, .refusedState 2)

/-- The answer and the effect of SET LEVEL (R45). -/
def State.requestLevel (s : State) (level : Nat) : State × Reply :=
  if 8 < level then (s, .refusedRange 10)
  else ((s.modAdu fun a => { a with lCabin := level }).judgeRate, .accepted)

end Sys2Proof.Machine
end

