-- ==== Sys2Proof/Machine/Mst.lean ====
section
/-! DEFINITION. The Measurement Table: taking reports, ageing and supply (Chapter 7). -/

namespace Sys2Proof.Machine

/-- M8 to M14 are counters; the others are levels (Table 7-1). -/
def isCounter (m : MeasIx) : Bool := 8 ≤ m.val

/-- The top of a measurement's range (Table 7-1). -/
def rangeTop (m : MeasIx) : Nat :=
  if m.val = 1 then 250 else if m.val < 8 then 1000 else 32767

/-- The value is passed to its consumer (R131 step 4). The comparisons of M0 and M1 are conditions of the FSV, judged from what is
supplied (`State.condition`). -/
def State.passValue (s : State) (m : MeasIx) (v : Nat) : State :=
  if m.val < 2 then s
  else if h : m.val < 8 then s.takePressure ⟨m.val - 2, by omega⟩
  else if h : m.val < 14 then s.takeLineCounter ⟨m.val - 8, by omega⟩ v
  else s.takeBeltCounter v

/-- One pair is taken (R131 steps 1 to 4). -/
def State.takeReport (s : State) (m : MeasIx) (reported : Nat) : State :=
  let v := min reported (rangeTop m)
  let s := s.modMeas m fun r =>
    { r with
      state := .fresh, value := some v, age := some 0, clamped := decide (rangeTop m < reported) && !isCounter m
      lastValid := some v, hasBeenValid := true, degraded := false }
  let s := if m.val = 0 then
      { s with mst := { s.mst with maxFace := some (max v (s.mst.maxFace.getD 0)) } }
    else s
  s.passValue m v

/-- The supply of a record is judged: degraded where it supplies a held value (R133). -/
def State.judgeDegraded (s : State) (m : MeasIx) : State :=
  s.modMeas m fun r =>
    { r with degraded := r.state == .stale && !isCounter m && s.item (.novalPolicy m) == 1 }

/-- A counter's consumer is told that the record has become STALE (R95, R116, R132). -/
def State.invalidateCounter (s : State) (m : MeasIx) : State :=
  if m.val < 8 then s
  else if h : m.val < 14 then s.modLine ⟨m.val - 8, by omega⟩ fun l => { l with counterValid := false }
  else s.modMku fun k => { k with counterValid := false }

/-- A FRESH record enters STALE, its age having passed FRESH_LIMIT (R132; log entry 19 for the age it is then found at). -/
def State.enterStale (s : State) (m : MeasIx) : State :=
  if (s.meas m).state == .fresh then
    ((s.modMeas m fun r =>
      { r with state := .stale, value := none
               age := some (max (s.item (.freshLimit m) + 1) (r.age.getD 0)) }).judgeDegraded m).invalidateCounter m
  else s

/-- A FRESH record's age is above FRESH_LIMIT. -/
def State.tooOld (s : State) (m : MeasIx) : Bool :=
  (s.meas m).state == .fresh && ((s.meas m).age.map fun a => decide (s.item (.freshLimit m) < a)).getD false

/-- What the MST finds of one pair of MEASURE from a station (R130): the measurement to take, or the reason of a skip. -/
def pairTarget (st : Station) (number : Nat) : Except Nat MeasIx :=
  match measOf number with
  | none => .error 21
  | some m => if stationOfMeas m == st then .ok m else .error 20

/-- The answer of MEASURE whose pairs have been gone through: the reason of the first skip and the number of skips (R130). -/
def measureReply (st : Station) (pairs : List (Payload × Payload)) : Reply :=
  let skips := pairs.filterMap fun pr =>
    match pairTarget st pr.1.toNat with
    | .error r => some r
    | .ok _ => none
  match skips with
  | [] => .accepted
  | r :: _ => { outcome := .partialTaken, reason := r, skip := skips.length }

end Sys2Proof.Machine
end

