-- ==== Sys2Proof/Machine/Configure.lean ====
section
/-! DEFINITION. CONFIGURE: its checks, the resulting set and each block's response to a change (Chapter 10). -/

namespace Sys2Proof.Machine

/-- The item that a pair names (Table 12-5). -/
def pairItem (pr : Payload × Payload) : Option Item := Item.ofCode pr.1.toNat

/-- The pair's value lies within its item's range (R169, reason 12). -/
def pairAdmitted (pr : Payload × Payload) : Bool := ((pairItem pr).map fun i => i.admits pr.2.toNat).getD false

/-- The pair does not give CONTACT_LOSS or STATION_SILENT the mode 3 or 7 (R169, reason 13). -/
def pairModeAllowed (pr : Payload × Payload) : Bool :=
  match pairItem pr with
  | some (.faultMode c) => !((c == 3 || c == 11) && (pr.2 == 3 || pr.2 == 7))
  | _ => true

/-- The checks of form, in their order (R169). -/
def formChecks (pairs : List (Payload × Payload)) : List (Bool × Reply) :=
  [ (decide (1 ≤ pairs.length ∧ pairs.length ≤ 8), .refusedRange 10),
    (pairs.all fun pr => (pairItem pr).isSome, .refusedRange 11),
    (pairs.all pairAdmitted, .refusedRange 12),
    (pairs.all pairModeAllowed, .refusedRange 13) ]

/-- The set with one pair's value put in place. -/
def putPair (cfg : ConfigSet) (pr : Payload × Payload) : ConfigSet :=
  match pairItem pr with
  | some i => putItem cfg i pr.2.toNat
  | none => cfg

/-- The resulting set: every pair's value put in place, the last one standing (R169, R170). -/
def resultingSet (cfg : ConfigSet) (pairs : List (Payload × Payload)) : ConfigSet := pairs.foldl putPair cfg

/-- The cross checks of Table 10-2 on a set, in their order. -/
def crossChecks (cfg : ConfigSet) : List (Bool × Reply) :=
  [ (decide (itemValue cfg .ringOd + 20 ≤ itemValue cfg .boreDiameter), .refusedRange 14),
    (allLines.all fun p => decide (itemValue cfg (.windowOpen p) < itemValue cfg (.windowClose p)), .refusedRange 15),
    (decide (itemValue cfg .deficitLow + 8 ≤ itemValue cfg .deficitHigh), .refusedRange 16),
    (decide (itemValue cfg .faceLow + 10 ≤ itemValue cfg .faceHigh), .refusedRange 17) ]

/-- The request names a standstill item (R171). -/
def namesStandstill (pairs : List (Payload × Payload)) : Bool :=
  pairs.any fun pr => ((pairItem pr).map fun i => !i.running).getD false

/-- The checks of the machine's state, for a request that names a standstill item (R171). -/
def State.standstillChecks (s : State) (pairs : List (Payload × Payload)) : List (Bool × Reply) :=
  [ (!namesStandstill pairs || !s.adu.cycle.underWay, .refusedState 1),
    (!namesStandstill pairs || s.rbu.record.state != .building, .refusedState 2) ]

/-- Every check of CONFIGURE, in order (R169, R170, R171). -/
def State.configChecks (s : State) (pairs : List (Payload × Payload)) : List (Bool × Reply) :=
  formChecks pairs ++ crossChecks (resultingSet s.config pairs) ++ s.standstillChecks pairs

/-- The response is made where the item's value has changed from `old` (R172). -/
def State.onChange (s : State) (old : ConfigSet) (i : Item) (f : State → State) : State :=
  if itemValue old i = s.item i then s else f s

/-- The coefficients are recomputed where the request names one of their items, changed or not (R51, R172). -/
def State.onCoefficients (s : State) (pairs : List (Payload × Payload)) : State :=
  if pairs.any (fun pr => [some Item.boreDiameter, some .ringOd, some .muckDensity].contains (pairItem pr)) then
    s.recomputeCoefficients
  else s

/-- STALL_TIME: the stall history of every line in LIMIT is emptied and its second count becomes 0 (R113). -/
def State.emptyHistories (s : State) : State :=
  { s with gru := { s.gru with lines := mapIx s.gru.lines fun _ l =>
      if l.phase == .limit then { l with stallHistory := [], secondCount := 0 } else l } }

/-- MUCK_LAG: a delay line that is too long loses its oldest entries (R128). -/
def State.trimDelayLine (s : State) : State :=
  s.modMku fun k => { k with delayLine := lastOf (s.item .muckLag + 1) k.delayLine }

/-- FAULT_MODE: the REPORTED entries of the class are revised, in list order (R149). -/
def State.reviseClass (s : State) (c : Fin 12) : State :=
  ((s.fsv.entries.map FaultEntry.key).filter fun k => k.cls == c).foldl State.reviseReported s

/-- NOVAL_POLICY: the supply of the record is judged again (R133, R138). A line pressure that the change makes held is not used by the
GRU's tests before the next report of it. -/
def State.changePolicy (s : State) (m : MeasIx) : State :=
  let t := s.judgeDegraded m
  if h : 2 ≤ m.val ∧ m.val < 8 then
    if (t.meas m).degraded && !(s.meas m).degraded then
      t.modLine ⟨m.val - 2, by omega⟩ fun l => { l with pressureWithheld := true }
    else t
  else t

/-- The responses of Table 10-3, after the set is in place. A change of a face or torque limit is a change of the conditions that
the FSV judges (`State.condition`); the items not named here are read when they are next used (R113, R172; log entry 26).

The order of the responses to one CONFIGURE is the model's, since R172 gives none (DESIGN CHOICE, log entry 28): the coefficients,
NOVAL_POLICY, ROUNDING, FLOW_SPAN, DEFICIT_LOW, DEFICIT_HIGH, PRIME_VOLUME, STALL_TIME, CAR_RESERVE, CAR_OVERFILL, MUCK_LAG,
FRESH_LIMIT, FAULT_MODE, and then the conditions that the change of a limit, a supply or a policy has made or ended. A line that moves
from PRIME to FLOW therefore reads the deficit that ROUNDING has changed and the pressure as it stood before FRESH_LIMIT, and a REPORTED
entry is revised, its actions entering, before its condition is judged again. -/
def State.respond (s : State) (old : ConfigSet) (pairs : List (Payload × Payload)) : State :=
  let s := s.onCoefficients pairs
  let s := allMeas.foldl (fun t m => t.onChange old (.novalPolicy m) fun u => u.changePolicy m) s
  let s := s.onChange old .rounding fun t => t.judgeDeficits.takeDeficits
  let s := s.onChange old .flowSpan fun t => allLines.foldl State.judgeSetpoint t
  let s := s.onChange old .deficitLow State.judgeGrout
  let s := s.onChange old .deficitHigh State.judgeGrout
  let s := s.onChange old .primeVolume fun t => allLines.foldl State.testPrimed t
  let s := s.onChange old .stallTime State.emptyHistories
  let s := s.onChange old .carReserve State.testCarDue
  let s := s.onChange old .carOverfill State.judgePermit
  let s := s.onChange old .muckLag State.trimDelayLine
  let s := allMeas.foldl (fun t m => t.onChange old (.freshLimit m) fun u => if u.tooOld m then u.enterStale m else u) s
  (List.finRange 12).foldl (fun t c => t.onChange old (.faultMode c) fun u => u.reviseClass c) s

/-- The answer and the effect of CONFIGURE (R169 to R172). -/
def State.requestConfigure (s : State) (pairs : List (Payload × Payload)) : State × Reply :=
  match firstFailing (s.configChecks pairs) with
  | some r => (s, r)
  | none => ({ s with config := resultingSet s.config pairs }.respond s.config pairs, .accepted)

end Sys2Proof.Machine
end

