-- ==== Sys2Proof/Machine/Rbu.lean ====
section
/-! DEFINITION. The Ring Build Unit: the open ring record, claims, the queue, piece timers and the history (Chapter 4). -/

namespace Sys2Proof.Machine

/-- A piece timer started with a time; it starts SUSPENDED while a forcing of R88 holds. -/
def State.startedTimer (s : State) (kind : TimerKind) (ms : Nat) : PieceTimer :=
  { state := if s.frozen then .suspended else .running, kind, left := ms }

/-- The grant conditions in the order of Table 4-6, without the last (R77, R81). -/
def State.grantChecks (s : State) (pc : Piece) : List (Bool × Nat) :=
  let gs := (s.piece pc).groups
  let held := (gs.filter fun g => (s.group g).state == .hold).length
  [ (gs.all fun g => !(s.group g).lent, 21),
    (decide (s.lentCount + held + s.item .minContact ≤ 10), 22),
    (!s.inForce .claimFreeze, 23),
    (!s.estop, 24) ]

/-- The reason of the first condition that fails. -/
def firstReason : List (Bool × Nat) → Option Nat
  | [] => none
  | (ok, r) :: rest => if ok then firstReason rest else some r

/-- A grant (R78). -/
def State.grant (s : State) (pc : Piece) : State :=
  let gs := (s.piece pc).groups
  ((s.modPiece pc fun r =>
    { r with
      state := .retracting
      claimTime := some (r.claimTime.getD s.seconds)
      awaited := r.groups
      timer := s.startedTimer .retract (1000 * s.item .retractTime) }).setEvent .claimGranted).jguRetract pc gs

/-- The head of the claim queue is examined for a grant (R81). -/
def State.examineHead (s : State) : State :=
  match s.rbu.queue with
  | [] => s
  | e :: rest =>
    match firstReason (s.grantChecks e.piece) with
    | some _ => s
    | none => (s.modRbu fun b => { b with queue := rest }).grant e.piece

/-- A piece returns to PENDING: no claim time, no awaited groups, its timer STOPPED (R72, R82, R90). -/
def PieceRecord.toPending (r : PieceRecord) : PieceRecord :=
  { r with state := .pending, claimTime := none, awaited := [], timer := PieceTimer.idle }

/-- The last awaited group has arrived: the piece's timer is cancelled and it enters a state (R84, R86). -/
def PieceRecord.arrived (r : PieceRecord) (st : PieceState) : PieceRecord :=
  { r with state := st, awaited := [], timer := PieceTimer.idle }

/-- The history entry of the ring record (R92): the per-line part of an absent line is absent. -/
def RingRecord.historyEntry (r : RingRecord) : HistoryEntry :=
  { number := r.number, key := r.key
    frozen := r.frozen.map fun f =>
      { f with lines := mapIx f.lines fun _ l => if l.absent then { l with litres := none } else l }
    buildStart := r.buildStart, buildDuration := r.buildDuration, claimsExpired := r.claimsExpired
    faultCounts := r.faultCounts }

/-- The most entries of the ring history (R92) and of the claim queue (R80). -/
def historyRoom : Nat := 8
def queueRoom : Nat := 3

/-- The time from a recorded seconds count to a later one (I.5). -/
def secondsSince (start now : Nat) : Nat := (now + 2 ^ 30 - start) % 2 ^ 30

/-- The completion of the ring (R91). ERECTOR's obligation ends with BUILDING and is judged then (R165). -/
def State.completeRing (s : State) : State :=
  let s := s.modRecord fun r =>
    { r with
      state := .complete
      buildDuration := r.buildStart.map fun t => secondsSince t s.seconds
      faultCounts := s.fsv.counters }
  let s := s.modRbu fun b =>
    { b with lastCompleted := b.record.number, history := (b.record.historyEntry :: b.history).take historyRoom }
  ((s.judgeKeys [.stationSilent .erector]).setEvent .ringComplete).takeCompletion

/-- Every piece of the record is SET. -/
def State.allSet (s : State) : Bool := allPieces.all fun pc => (s.piece pc).state == .set

/-- A group has arrived in CLEAR for a piece (R84). -/
def State.arriveClear (s : State) (g : GroupIx) (pc : Piece) : State :=
  let r := s.piece pc
  if r.state != .retracting then s
  else
    let left := r.awaited.filter fun h => h != g
    if left.isEmpty then (s.modPiece pc fun r => r.arrived .clear).setEvent .pieceClear
    else s.modPiece pc fun r => { r with awaited := left }

/-- A group has arrived in HOLD for a piece (R86, R90). -/
def State.arriveHold (s : State) (g : GroupIx) (pc : Piece) : State :=
  let r := s.piece pc
  let left := r.awaited.filter fun h => h != g
  match r.state with
  | .placed =>
    if left.isEmpty then
      let t := (s.modPiece pc fun r => r.arrived .set).setEvent .pieceSet
      if t.allSet then t.completeRing else t
    else s.modPiece pc fun r => { r with awaited := left }
  | .releasing =>
    if left.isEmpty then (s.modPiece pc PieceRecord.toPending).setEvent .released
    else s.modPiece pc fun r => { r with awaited := left }
  | _ => s

/-- A state notice of the JGU (R84, R86, R90), after which the queue head is examined (R81). -/
def State.takeGroupState (s : State) (g : GroupIx) (st : GroupState) (arrived : Option Piece) : State :=
  (match st, arrived with
   | .clear, some pc => s.arriveClear g pc
   | .hold, some pc => s.arriveHold g pc
   | _, _ => s).examineHead

/-- Running piece timers become SUSPENDED (R88). -/
def State.suspendTimers (s : State) : State :=
  s.modRecord fun r => { r with pieces := mapIx r.pieces fun _ q =>
    if q.timer.state == .running then { q with timer := { q.timer with state := .suspended } } else q }

/-- SUSPENDED piece timers run again where no forcing of R88 holds. -/
def State.resumeTimers (s : State) : State :=
  if s.frozen then s
  else s.modRecord fun r => { r with pieces := mapIx r.pieces fun _ q =>
    if q.timer.state == .suspended then { q with timer := { q.timer with state := .running } } else q }

/-- A running piece timer runs out (R87). -/
def State.expirePieceTimer (s : State) (pc : Piece) : State :=
  if (s.piece pc).timer.state == .running then
    (s.modPiece pc fun r => { r with timer := { r.timer with state := .expired, left := 0 } }).raise (.claimTimeout pc)
  else s

/-- The entry of a piece is removed from the claim queue and the piece returns to PENDING (R82, R89). -/
def State.dequeue (s : State) (pc : Piece) : State :=
  (s.modRbu fun b => { b with queue := b.queue.filter fun e => e.piece != pc }).modPiece pc PieceRecord.toPending

/-- The piece's entry is the head of the claim queue. -/
def State.isHead (s : State) (pc : Piece) : Bool := (s.rbu.queue.head?.map fun e => e.piece == pc).getD false

/-- The wait of a queued claim runs out (R82). -/
def State.expireWait (s : State) (pc : Piece) : State :=
  if s.rbu.queue.any fun e => e.piece == pc then
    let t := ((s.dequeue pc).setEvent .claimExpired).modRecord fun r =>
      { r with claimsExpired := addUpTo 32767 r.claimsExpired 1 }
    if s.isHead pc then t.examineHead else t
  else s

/-- The order rule (R76). -/
def State.orderHolds (s : State) (pc : Piece) : Bool :=
  (allPieces.all fun q => q == .k || (s.piece q).state == .pending)
    || pc.neighbours.any fun q => (s.piece q).state != .pending

/-- Every regular piece is SET. -/
def State.regularSet (s : State) : Bool := allPieces.all fun q => q == .k || (s.piece q).state == .set

/-- The acceptance conditions of CLAIM PIECE for a piece, after its code (Table 4-5). -/
def State.claimChecks (s : State) (pc : Piece) : List (Bool × Reply) :=
  [ ((s.piece pc).state == .pending, .refusedState 2),
    (pc == .k || s.orderHolds pc, .refusedState 3),
    (pc != .k || s.regularSet, .refusedState 4) ]

/-- A taken claim is granted, queued or answered QUEUE_FULL (R77, R78, R79). -/
def State.takeClaim (s : State) (pc : Piece) : State × Reply :=
  match firstReason (s.grantChecks pc ++ [(s.rbu.queue.isEmpty, 25)]) with
  | none => (s.grant pc, .accepted)
  | some reason =>
    if s.rbu.queue.length < queueRoom then
      ((s.modPiece pc fun r => { r with state := .queued, claimTime := some s.seconds }).modRbu fun b =>
        { b with queue := b.queue ++ [{ piece := pc, wait := 1000 * s.item .claimWait }] },
       { outcome := .queued, reason, skip := 0 })
    else (s, { outcome := .queueFull, reason, skip := 0 })

/-- The first two checks of the piece requests: the record is BUILDING and the code names a piece (Tables 4-5, R85, R89). -/
def State.withPiece (s : State) (code : Nat) (f : Piece → State × Reply) : State × Reply :=
  if s.rbu.record.state != .building then (s, .refusedState 1)
  else
    match Piece.ofCode code with
    | none => (s, .refusedRange 10)
    | some pc => f pc

/-- The answer and the effect of CLAIM PIECE (R75). -/
def State.requestClaim (s : State) (code : Nat) : State × Reply :=
  s.withPiece code fun pc =>
    match firstFailing (s.claimChecks pc) with
    | some r => (s, r)
    | none => s.takeClaim pc

/-- The piece's groups are sent back: its return timer starts and the return request goes to the JGU (R85, R89). -/
def State.sendBack (s : State) (pc : Piece) (st : PieceState) : State :=
  (s.modPiece pc fun r =>
    { r with state := st, awaited := r.groups, timer := s.startedTimer .returning (1000 * s.item .returnTime) }).jguReturn
      (s.piece pc).groups

/-- The answer and the effect of PIECE PLACED (R85). -/
def State.requestPlaced (s : State) (code : Nat) : State × Reply :=
  s.withPiece code fun pc =>
    match (s.piece pc).state with
    | .clear => (s.sendBack pc .placed, .accepted)
    | _ => (s, .refusedState 2)

/-- The answer and the effect of WITHDRAW PIECE (R89). -/
def State.requestWithdraw (s : State) (code : Nat) : State × Reply :=
  s.withPiece code fun pc =>
    match (s.piece pc).state with
    | .pending => (s, .refusedState 2)
    | .queued => (if s.isHead pc then (s.dequeue pc).examineHead else s.dequeue pc, .accepted)
    | .retracting | .clear => (s.sendBack pc .releasing, .accepted)
    | .placed | .set => (s, .refusedState 3)
    | .releasing => (s, .refusedState 4)

/-- Step 2 of an accepted RING BEGIN: the record is opened (R71, R73). ERECTOR is obliged from then on, which is judged at once (R165). -/
def State.openRecord (s : State) (number : Nat) (key : GroupIx) : State :=
  ((s.modRbu fun b =>
    { b with
      queue := []
      record :=
        { state := .building, number := some number, key := some key
          pieces := Vector.ofFn fun i =>
            { state := .pending, groups := pieceGroups key ((Piece.ofCode i).getD .k), claimTime := none, awaited := [],
              timer := PieceTimer.idle }
          frozen := b.record.frozen, buildStart := some s.seconds, buildDuration := none, claimsExpired := 0
          faultCounts := b.record.faultCounts } }).judgeKeys [.stationSilent .erector]).setEvent .ringOpened

/-- Step 5 of an accepted RING BEGIN: the stroke accounts and the class counters are frozen into the record (R74). -/
def State.freezeAccounts (s : State) : State :=
  let f : Frozen :=
    { boredLength := s.act.aAcc, revolutions := s.adu.revolutions, maxPenetration := s.adu.maxPenetration
      lines := Vector.ofFn fun p =>
        { litres := some (s.whole (s.account p).target, (s.line p).delivered), absent := (s.line p).outThroughout }
      unassigned := s.whole s.act.unassigned, expected := s.whole s.act.expected, measured := s.mku.measured
      maxFace := s.mst.maxFace }
  s.modRecord fun r => { r with frozen := some f, faultCounts := s.fsv.counters }

/-- The conditions of RING BEGIN in the order of Table 2-5 (R42). -/
def State.ringChecks (s : State) (number key : Nat) : List (Bool × Reply) :=
  [ (!s.adu.cycle.underWay, .refusedState 1),
    (s.adu.cycle != .ringBuild, .refusedState 2),
    (!(s.rbu.record.state == .complete && s.adu.ringStartPending), .refusedState 3),
    (allGroups.all fun g => (s.group g).state != .locked, .refusedState 4),
    (decide (1 ≤ number), .refusedRange 10),
    ((s.rbu.lastCompleted.map fun n => number == n + 1).getD true, .refusedRange 11),
    (decide (key ≤ 9), .refusedRange 12) ]

/-- The answer and the effect of RING BEGIN (R42, R43), its five steps in order. The STATION_SILENT of an absent ERECTOR is raised at
step 2, where the record becomes BUILDING, so it is among the class counters that step 5 copies (DESIGN CHOICE, log entry 8). -/
def State.requestRing (s : State) (number key : Nat) : State × Reply :=
  match firstFailing (s.ringChecks number key) with
  | some r => (s, r)
  | none =>
    let s := s.enterCycle .ringBuild
    let s := s.openRecord number (Fin.ofNat 10 key)
    let s := s.shutWindows
    let s := s.idleLines.judgeGrout
    (s.freezeAccounts, .accepted)

end Sys2Proof.Machine
end

