-- ==== Sys2Proof/Machine/Settle.lean ====
section
/-! DEFINITION. The paths of Figure I-2: how a block takes what another block tells it, and how a command's consequences are
followed until the part is quiet (R152, R165; log entries 2 and 8). -/

namespace Sys2Proof.Machine

/-- An action has entered the action set: the blocks of R152 act on it. -/
def State.takeEntering (s : State) : Action → State
  | .advHalt | .cutHalt => s.takeHalt
  | .beltHalt => s.judgePermit
  | .claimFreeze => s.stopDwells.suspendTimers
  | .portHold p => (s.holdLine p).judgeGrout

/-- An action has left the action set: the blocks of R152 act on it, and the RBU examines the head of its claim queue. -/
def State.takeLeaving (s : State) (a : Action) : State :=
  (match a with
   | .advHalt | .cutHalt => s.takeHaltLift
   | .beltHalt => s.judgePermit
   | .claimFreeze => s.restartDwells.resumeTimers
   | .portHold p => (s.releaseLine p).judgeGrout).examineHead

/-- A notice is taken by the block it is for. -/
def State.take (s : State) : Notice → State
  | .strokeChange => s.takeStrokeChange
  | .strokeEnd _ => s.takeStrokeEnd
  | .groupState g st _ arrived => s.takeGroupState g st arrived
  | .actionEnters a => s.takeEntering a
  | .actionLeaves a => s.takeLeaving a
  | .blockedRemoved p => (s.unblockLine p).judgeGrout

/-- The first measured key whose condition is not as the condition table marks it. -/
def State.unmarked (s : State) : Option FaultKey := measuredKeys.find? fun k => s.condition k != s.fsv.marked k

/-- One thing that waits (DESIGN CHOICE, log entry 8): a change of a measured condition first, since it is judged at once, and then
the oldest notice. -/
def State.micro (s : State) : Option State :=
  match s.unmarked with
  | some key => some (s.report key)
  | none =>
    match s.notices with
    | [] => none
    | n :: rest => some ({ s with notices := rest }.take n)

/-- Nothing waits: no notice, and every measured condition as it is marked. -/
def State.quiet (s : State) : Bool := s.unmarked.isNone && s.notices.isEmpty

/-- What waits is taken one thing at a time until nothing does, for at most `n` things. -/
def settle : Nat → State → State
  | 0, s => s
  | n + 1, s =>
    match s.micro with
    | none => s
    | some t => settle n t

/-- The bound on what one command sets going. No command is known to come near it (log entry 2). -/
def settleBound : Nat := 4000

/-- What a command sets going is followed to its end. -/
def State.settled (s : State) : State := settle settleBound s

end Sys2Proof.Machine
end

