-- ==== Sys2Proof/Machine/Views.lean ====
section
/-! DEFINITION. The record views: the words of every record of views 0 to 15 (Table 12-6), encoded as R173 gives. -/

namespace Sys2Proof.Machine

/-! ## Named values: positions in the lists of the contents tables (R173) -/

def GroupState.code : GroupState → Nat
  | .locked => 0 | .hold => 1 | .push => 2 | .retract => 3 | .clear => 4 | .returning => 5

def Cycle.code : Cycle → Nat
  | .standstill => 0 | .spinup => 1 | .boring => 2 | .paused => 3 | .rundown => 4 | .ringBuild => 5

def CutterCondition.code : CutterCondition → Nat
  | .turning => 0 | .slow => 1 | .stopped => 2

def StopCause.code : StopCause → Nat
  | .none => 0 | .ringStroke => 1 | .strokeEnd => 2 | .stopRequest => 3 | .spinupFailed => 4 | .estop => 5

def RingState.code : RingState → Nat
  | .none => 0 | .building => 1 | .complete => 2

def PieceState.code : PieceState → Nat
  | .pending => 0 | .queued => 1 | .retracting => 2 | .clear => 3 | .placed => 4 | .set => 5 | .releasing => 6

def TimerState.code : TimerState → Nat
  | .stopped => 0 | .running => 1 | .suspended => 2 | .expired => 3

def TimerKind.code : TimerKind → Nat
  | .none => 0 | .retract => 1 | .returning => 2

def Phase.code : Phase → Nat
  | .idle => 0 | .prime => 1 | .flow => 2 | .limit => 3 | .satisfied => 4 | .blocked => 5 | .held => 6 | .out => 7

def CarState.code : CarState → Nat
  | .empty => 0 | .filling => 1 | .full => 2

def Judgment.code : Judgment → Nat
  | .normal => 0 | .over => 1 | .under => 2

def MeasState.code : MeasState → Nat
  | .noval => 0 | .fresh => 1 | .stale => 2

def EntryState.code : EntryState → Nat
  | .active => 0 | .retrying => 1 | .latched => 2 | .reported => 3

/-- "asserted, removed" (Table 6-1): asserted is 0 (log entry 17). -/
def assertedRemoved (b : Bool) : Payload := if b then 0 else 1

/-- "present, absent" (Table 8-3): present is 0 (log entry 17). -/
def presentAbsent (b : Bool) : Payload := if b then 0 else 1

/-- Groups as bits 0 to 9. -/
def groupBits (gs : List GroupIx) : Payload := flagWord (allGroups.map gs.contains)

/-! ## The views -/

/-- View 0, status summary. -/
def State.statusRecord (s : State) : List Payload :=
  [ single s.adu.cycle.code, single s.adu.a, single s.act.aAcc, single s.adu.lCabin, single s.gru.lGrout,
    single s.mku.lMuck, single s.adu.lPen, single s.adu.rateLevel,
    flagWord [s.adu.thrustPermit, s.adu.cutterPermit, s.mku.beltPermit, s.estop, s.adu.ringStartPending, s.fsv.overflow],
    flagWord (allStations.map fun st => (s.port st).present),
    flagWord [s.inForce .advHalt, s.inForce .cutHalt, s.inForce .beltHalt, s.inForce .claimFreeze],
    flagWord (allLines.map fun p => s.inForce (.portHold p)),
    single s.fsv.entries.length, single s.rbu.record.state.code ]
  ++ double s.seconds

/-- View 1, one group record. -/
def Group.record (r : Group) : List Payload :=
  [ single r.state.code, single r.stroke, flagWord [r.referenced, r.saturated, r.contact, r.strokeEndReported],
    singleOr (r.owner.map fun pc => pc.idx.val) ]
  ++ signedDouble r.capture ++ [single r.contactCapture, single r.dwellRef, singleOr r.dwell]

/-- The words of one line in the frozen accounts: target litres, delivered litres, line-absent marker. -/
def FrozenLine.words (l : FrozenLine) : List Payload :=
  doubleOr (l.litres.map Prod.fst) ++ doubleOr (l.litres.map Prod.snd) ++ [yesNo l.absent]

/-- The words from bored length to the last line's marker; all absent while the frozen accounts are absent. -/
def frozenWords : Option Frozen → List Payload
  | none => List.replicate 40 absentWord
  | some f =>
    [single f.boredLength, single f.revolutions, single f.maxPenetration]
    ++ double f.unassigned ++ double f.expected ++ double f.measured ++ [singleOr f.maxFace]
    ++ f.lines.toList.flatMap FrozenLine.words

/-- The 60 words of record 0 of view 2, in a ring state. -/
def ringWords (state : RingState) (h : HistoryEntry) : List Payload :=
  [single state.code, singleOr h.number, singleOr (h.key.map fun k => k.val)]
  ++ doubleOr h.buildStart ++ doubleOr h.buildDuration ++ [single h.claimsExpired]
  ++ frozenWords h.frozen ++ h.faultCounts.toList.map single

/-- The fields of the open ring record that record 0 of view 2 shows, as they stand. -/
def RingRecord.shownFields (r : RingRecord) : HistoryEntry :=
  { number := r.number, key := r.key, frozen := r.frozen, buildStart := r.buildStart, buildDuration := r.buildDuration,
    claimsExpired := r.claimsExpired, faultCounts := r.faultCounts }

/-- The time left in ms of a piece timer; 0 once it has run out, open where it is STOPPED (log entry 5). -/
def PieceTimer.timeLeft (t : PieceTimer) : List Payload :=
  match t.state with
  | .stopped => splitWords Config.stoppedTimeLeft
  | _ => double t.left

/-- View 2, records 1 to 7: one piece record. -/
def PieceRecord.record (r : PieceRecord) : List Payload :=
  [ single r.state.code, singleOr (r.groups[0]?.map fun g => g.val), singleOr (r.groups[1]?.map fun g => g.val) ]
  ++ doubleOr r.claimTime
  ++ [groupBits r.awaited, single r.timer.state.code, single r.timer.kind.code] ++ r.timer.timeLeft

/-- View 3, one entry of the claim queue. -/
def QueueEntry.record (e : QueueEntry) : List Payload := single e.piece.idx :: double e.wait

/-- View 4, one tail line. -/
def State.lineRecord (s : State) (p : LineIx) : List Payload :=
  let l := s.line p
  let t := s.account p
  [ single l.phase.code, single l.setpoint,
    flagWord [l.valve, t.window, t.deficit.z, t.deficit.n, t.deficit.v, t.deficit.c, l.counterValid, l.outThroughout] ]
  ++ double l.delivered ++ [signedSingle l.carry, signedSingle t.deficit.d] ++ accumulator t.target
  ++ [ single l.lastCounter, single l.sinceOpen, single l.secondCount, single l.stallHistory.length,
       single l.stallHistory.sum ]
  ++ [Item.weight p, .windowOpen p, .windowClose p, .primeVolume, .flowMax, .pressMax, .pressHyst, .flowSpan,
      .resumeDeficit, .stallTime].map fun i => single (s.item i)

/-- View 5, grout totals. -/
def State.totalsRecord (s : State) : List Payload :=
  single s.act.aAcc :: (allLines.flatMap fun p => accumulator (s.account p).target)
  ++ accumulator s.act.unassigned ++ [yesNo s.act.gapRaised]

/-- View 6, record 0. -/
def State.muckRecord (s : State) : List Payload :=
  let k := s.mku
  double k.measured ++ [single k.spill] ++ accumulator s.act.expected ++ doubleOr s.eLag
  ++ [ single k.delayLine.length, single k.judgment.code, assertedRemoved k.beltPermit, single k.lMuck,
       single k.lastCounter, yesNo k.counterValid, singleOr k.capacity, single k.cars.length ]

/-- View 6, the car at a position. -/
def Car.record (position : Nat) (r : Car) : List Payload :=
  [single position, single r.state.code, single r.fill, yesNo r.dueReported]

/-- View 7, one fault list entry. -/
def State.entryRecord (s : State) (e : FaultEntry) : List Payload :=
  [ single e.key.classCode, single e.key.sourceCode, single e.mode, single e.state.code,
    if e.key.measured then presentAbsent (s.fsv.marked e.key) else absentWord,
    single (s.fsv.retryCount e.key) ]
  ++ doubleOr e.retryLeft ++ [single e.ring, single e.aAcc] ++ double e.time

/-- View 8, the first-fault record. -/
def firstFaultRecord : Option FirstFault → List Payload
  | none => yesNo false :: List.replicate 8 absentWord
  | some r =>
    [ yesNo true, single r.key.classCode, single r.key.sourceCode, single r.ring, single r.a, single r.cycle.code ]
    ++ double r.time ++ [single r.later]

/-- View 10, one measurement. -/
def State.measRecord (s : State) (m : MeasIx) : List Payload :=
  let r := s.meas m
  [ single r.state.code, singleOr r.value, singleOr r.age,
    flagWord [r.clamped, r.hasBeenValid, r.degraded, s.needed m, s.condition (.measInvalid m)],
    singleOr r.lastValid, single (s.item (.freshLimit m)), single (s.item (.novalPolicy m)),
    if m.val = 0 then singleOr s.mst.maxFace else absentWord ]

/-- View 11, configuration readback. -/
def State.configRecord (s : State) : List Payload :=
  (allItems.map fun i => single (s.item i)) ++ double s.act.kv ++ double s.act.km
  ++ doubleOr (s.act.pendingK.map Prod.fst) ++ doubleOr (s.act.pendingK.map Prod.snd)

/-- View 13, link counters. -/
def Port.linkRecord (p : Port) : List Payload :=
  [ single p.slot.request, single p.slot.outcome.code, single p.slot.reason, single p.slot.skip, yesNo p.slot.shown,
    single p.framesTaken, single p.parityErrors, single p.idErrors, single p.frameErrors, yesNo p.present,
    singleOr p.silence, yesNo p.heard ]

/-- View 14, cutterhead. -/
def Advance.cutterRecord (a : Advance) : List Payload :=
  [ single a.cutter.code, yesNo a.lastPeriod.isSome, singleOr a.lastPeriod, single a.revolutions, single a.penetration,
    yesNo a.penetrationValid, single a.maxPenetration, single a.advanceAtPulse,
    singleOr (a.spinup.map fun t => (t + 999) / 1000), single a.confirmations, yesNo a.permitKept, single a.lastStop.code ]

/-- The records of a view at a station's port, whole and in order (Table 12-6). Another view number has none. -/
def State.viewRecords (s : State) (st : Station) : Nat → List (List Payload)
  | 0 => [s.statusRecord]
  | 1 => s.groups.toList.map Group.record
  | 2 => ringWords s.rbu.record.state s.rbu.record.shownFields :: s.rbu.record.pieces.toList.map PieceRecord.record
  | 3 => s.rbu.queue.map QueueEntry.record
  | 4 => allLines.map s.lineRecord
  | 5 => [s.totalsRecord]
  | 6 => s.muckRecord :: s.mku.cars.mapIdx fun i r => r.record (i + 1)
  | 7 => s.fsv.entries.map s.entryRecord
  | 8 => [firstFaultRecord s.fsv.first]
  | 9 => s.rbu.history.map (ringWords .complete)
  | 10 => allMeas.map s.measRecord
  | 11 => [s.configRecord]
  | 12 => [[flagWord (s.port st).flags.toList]]
  | 13 => [(s.port st).linkRecord]
  | 14 => [s.adu.cutterRecord]
  | 15 => [[single 8610, single 1]]
  | _ => []

/-- The views of one record, in which a header's record index is not used (R162, Table 12-6). -/
def oneRecordViews : List Nat := [0, 5, 8, 11, 12, 13, 14, 15]

end Sys2Proof.Machine
end

