-- ==== Sys2Proof/Machine/Sli.lean ====
section
/-! DEFINITION. The Station Link Interface: frames, reading, the outcome slot, presence and the hand-over of requests to their
owners (Chapter 9, R174, R175). -/

namespace Sys2Proof.Machine

/-! ## Reading (R162, R163, R174, R175) -/

/-- A snapshot of a view is taken at a station's port from a record to the view's last (R162). One that contains the word of view
12 makes the station's repeat marks no (R166). -/
def State.takeSnapshot (s : State) (st : Station) (view first : Nat) : State :=
  let records := (s.viewRecords st view).drop first
  s.modPort st fun p =>
    { p with
      snapshot := some { view := view, first := first, records := records }
      repeats := if view = 12 && !records.isEmpty then Vector.replicate 8 false else p.repeats }

/-- The cursor is put at a record and word of a view, or at the view's end where the record does not exist, and the snapshot is
taken from there (R162, R174; log entry 18). -/
def State.loadCursor (s : State) (st : Station) (view record word : Nat) : State :=
  let count := (s.viewRecords st view).length
  let at_ : Nat × Nat := if record < count then (record, word) else (count, 0)
  (s.modPort st fun p => { p with cursor := some { view := view, record := at_.1, word := at_.2 } }).takeSnapshot st view at_.1

/-- The view number of CONTINUE. -/
def continueView : Nat := 127

/-- A read header that passes the checks of R157 loads its view (R162). A CONTINUE resumes at the cursor's word of a fresh snapshot,
also where that word is the second of a double word: it then sends the low word of the fresh value, and R173's "never split" is taken of
the words of one snapshot (DESIGN CHOICE, log entry 29). -/
def State.loadView (s : State) (st : Station) (view record : Nat) : State :=
  if view < 16 then s.loadCursor st view (if oneRecordViews.contains view then 0 else record) 0
  else if view = continueView then
    match (s.port st).cursor with
    | none => s
    | some at_ => s.loadCursor st at_.view at_.record at_.word
  else s

/-- The word that stands at the cursor within the snapshot. -/
def Port.wordAt (p : Port) : Option Payload :=
  match p.cursor, p.snapshot with
  | some at_, some snap =>
    if at_.view = snap.view ∧ snap.first ≤ at_.record then
      (snap.records[at_.record - snap.first]?).bind fun words => words[at_.word]?
    else none
  | _, _ => none

/-- The cursor at the next word: the next of its record, or word 0 of the record after it (R163, R174). -/
def Snapshot.next (snap : Snapshot) (at_ : Cursor) : Cursor :=
  let words := (snap.records[at_.record - snap.first]?).getD []
  if at_.word + 1 < words.length then { at_ with word := at_.word + 1 }
  else { at_ with record := at_.record + 1, word := 0 }

/-- The cursor advances past a word that has been sent in full; past the snapshot's last word it stays (R163, R174). -/
def Port.advance (p : Port) : Port :=
  match p.wordAt, p.cursor, p.snapshot with
  | some _, some at_, some snap => { p with cursor := some (snap.next at_) }
  | _, _, _ => p

/-- The word of view 12 has been sent: each flag that was set in it and whose repeat mark is no is cleared (R175). -/
def Port.clearShownFlags (p : Port) : Port :=
  match p.wordAt, p.snapshot with
  | some word, some snap =>
    if snap.view = 12 then
      { p with flags := mapIx p.flags fun i b => b && !(word.getLsbD i && !p.repeats[i]) }
    else p
  | _, _ => p

/-- The frame was ignored at its header: parity bad, or another station's ID (R157). -/
def headerIgnored (st : Station) (h : LinkWord) : Bool := !parityOk h || headerId h != st.id

/-- The word that the part returns in the present word position of the frame in progress (R156, R163). While no frame is in progress the
data output is taken to carry zero bits, as R155 gives under RESET: with RESET released the spec names nothing for it then (DESIGN
CHOICE, log entry 25). -/
def Port.returned (st : Station) (p : Port) : LinkWord :=
  match p.frame with
  | none => zeroWord
  | some f =>
    if !f.statusSent then f.status
    else
      match f.header with
      | none => zeroWord
      | some h => if headerIgnored st h then zeroWord else (p.wordAt.map linkWord).getD zeroWord

/-! ## Frames (R156, R157) -/

/-- The status word of a station's port as it stands (R156). -/
def State.statusNow (s : State) (st : Station) : LinkWord :=
  let p := s.port st
  statusWord p.slot.outcome p.slot.reason (p.flags.toList.any id) s.fsv.output

/-- The port's select becomes active (R156). An event out of a frame's order has no effect (log entry 13). -/
def State.openFrame (s : State) (st : Station) : State :=
  match (s.port st).frame with
  | some _ => s
  | none => s.modPort st fun p => { p with frame := some { status := s.statusNow st, statusSent := false, header := none } }

/-- The sixteenth bit of the header has been taken (R157). -/
def State.takeHeader (s : State) (st : Station) (h : LinkWord) : State :=
  match (s.port st).frame with
  | some f =>
    if f.header.isSome then s
    else
      let t := s.modPort st fun p => { p with frame := some { f with header := some h } }
      if !headerIgnored st h && headerIsRead h then t.loadView st (headerCode h) (headerRecord h) else t
  | none => s

/-- The sixteenth bit of a returned word has been sent (R156, R163, R175). -/
def State.wordSent (s : State) (st : Station) : State :=
  match (s.port st).frame with
  | none => s
  | some f =>
    if !f.statusSent then
      s.modPort st fun p => { p with slot := { p.slot with shown := true }, frame := some { f with statusSent := true } }
    else
      match f.header with
      | none => s
      | some h => if headerIgnored st h then s else s.modPort st fun p => p.clearShownFlags.advance

/-! ## Checks at frame end (R158) -/

/-- The error counters of Table 9-2. -/
inductive ErrorCounter where
  | parity | id | frame | none
  deriving DecidableEq, Repr

/-- What Table 9-2 finds of a frame: a failing row, whether rows 1 to 4 were passed, a read, or a request for its owner. -/
inductive FrameVerdict where
  | fails (outcome : OutcomeCode) (reason : Nat) (counter : ErrorCounter) (valid : Bool)
  | read
  | request
  deriving DecidableEq, Repr

/-- Rows 5 and 11 of Table 9-2, for a read frame that has passed rows 1 to 4. -/
def judgeRead (view : Nat) : FrameVerdict :=
  if view < 16 || view == continueView then .read else .fails .unknown 2 .frame true

/-- Rows 6 to 10 of Table 9-2, for a request frame that has passed rows 1 to 4. -/
def judgeRequest (st : Station) (code : Nat) (data : List LinkWord) : FrameVerdict :=
  if !requestCodes.contains code then .fails .unknown 1 .frame true
  else if !data.all parityOk then .fails .parity 2 .parity true
  else if requestLength code (data.map payloadOf) != some data.length then .fails .frame 2 .frame true
  else if !permitted st code then .fails .refusedDomain 1 .none true
  else .request

/-- The rows of Table 9-2, in order. -/
def judgeFrame (st : Station) (header : Option LinkWord) (data : List LinkWord) (extraBits : Nat) : FrameVerdict :=
  match header with
  | none => .fails .frame 1 .frame false
  | some h =>
    if !parityOk h then .fails .parity 1 .parity false
    else if headerId h != st.id then .fails .wrongId (8 + headerId h) .id false
    else if extraBits != 0 then .fails .frame 1 .frame false
    else if headerIsRead h then judgeRead (headerCode h)
    else judgeRequest st (headerCode h) data

/-- The request code that a failing frame stores: a request frame's, 0 for a read frame or where no header was taken (R158). -/
def storedCode : Option LinkWord → Nat
  | some h => if headerIsRead h then 0 else headerCode h
  | none => 0

/-- The greatest value of a port's counters (R155). -/
def portCounterTop : Nat := 32767

/-- An error counter increases by one (R155, R158). -/
def Port.countError (p : Port) : ErrorCounter → Port
  | .parity => { p with parityErrors := addUpTo portCounterTop p.parityErrors 1 }
  | .id => { p with idErrors := addUpTo portCounterTop p.idErrors 1 }
  | .frame => { p with frameErrors := addUpTo portCounterTop p.frameErrors 1 }
  | .none => p

/-- The outcome slot is written, shown no (R161). -/
def Port.writeSlot (p : Port) (code : Nat) (r : Reply) : Port :=
  { p with slot := { request := code, outcome := r.outcome, reason := r.reason, skip := r.skip, shown := false } }

/-- The frame in progress ends. -/
def State.endFrame (s : State) (st : Station) : State := s.modPort st fun p => { p with frame := none }

/-- A valid frame has ended: it is counted, and the station's presence is renewed (R158, R164). -/
def State.renewPresence (s : State) (st : Station) : State :=
  s.modPort st fun p =>
    { p with
      framesTaken := addUpTo portCounterTop p.framesTaken 1, present := true, heard := true
      silence := some (s.item .silenceTime) }

/-- The end of a frame that fails at a row of Table 9-2: the station's presence is renewed where the frame is valid, and the slot and
the row's counter follow. -/
def State.failFrame (s : State) (st : Station) (code : Nat) (r : Reply) (counter : ErrorCounter) (valid : Bool) : State :=
  let t := s.endFrame st
  let t := if valid then t.renewPresence st else t
  (t.modPort st fun p => (p.countError counter).writeSlot code r).settled

/-- The end of a frame whose request is handed to its owner: presence first (log entry 12), then the owner's answer, which goes to
the slot with the request code (R159, R161). -/
def State.request (s : State) (st : Station) (code : Nat) (owner : State → State × Reply) : State :=
  let a := owner ((s.endFrame st).renewPresence st).settled
  (a.1.modPort st fun p => p.writeSlot code a.2).settled

/-! ## The requests' owners (Table 9-3) -/

/-- The pairs of MEASURE, each taken before the next is looked at (R130). -/
def State.takePairs (s : State) (st : Station) (pairs : List (Payload × Payload)) : State :=
  pairs.foldl (fun t pr =>
    match pairTarget st pr.1.toNat with
    | .ok m => (t.takeReport m pr.2.toNat).settled
    | .error _ => t) s

/-- The answer and the effect of MEASURE (R130). -/
def State.requestMeasure (s : State) (st : Station) (pairs : List (Payload × Payload)) : State × Reply :=
  if pairs.length < 1 ∨ 8 < pairs.length then (s, .refusedRange 10) else (s.takePairs st pairs, measureReply st pairs)

/-- The answer and the effect of PORT RESET (R167); the slot is written as for every request. -/
def State.requestPortReset (s : State) (st : Station) : State × Reply :=
  (s.modPort st fun p =>
    { p with
      cursor := none, snapshot := none, framesTaken := 0, parityErrors := 0, idErrors := 0, frameErrors := 0
      flags := Vector.replicate 8 false, repeats := Vector.replicate 8 false },
   .accepted)

/-- The stroke of each group in the data words of REFERENCE STROKES. -/
def strokesOf (values : List Payload) (g : GroupIx) : Nat := (values.getD g.val 0).toNat

/-- A data word of a request, counted from 0. -/
def word (data : List Payload) (i : Nat) : Nat := (data.getD i 0).toNat

/-- The owner of a request code and what it does with the data words (Tables 9-3 and 12-4). -/
def ownerOf (st : Station) (code : Nat) (data : List Payload) (s : State) : State × Reply :=
  match code with
  | 1 => s.requestConfigure (pairsOf data.tail)
  | 2 => s.requestReference (strokesOf data)
  | 3 => s.requestStart
  | 4 => s.requestStop
  | 5 => s.requestLevel (word data 0)
  | 6 => s.requestRing (word data 0) (word data 1)
  | 7 => s.releaseFirst
  | 16 => s.requestClaim (word data 0)
  | 17 => s.requestWithdraw (word data 0)
  | 18 => s.requestPlaced (word data 0)
  | 24 => s.requestSuspend (word data 0)
  | 25 => s.requestResume (word data 0)
  | 32 => s.requestTrainIn (word data 0) (word data 1)
  | 33 => s.requestCarShift
  | 34 => s.requestTrainOut
  | 40 => s.requestMeasure st (pairsOf data.tail)
  | 41 => s.requestFaultClear st (word data 0) (word data 1)
  | _ => s.requestPortReset st

/-- A frame with a header ends (R158). -/
def State.finishFrame (s : State) (st : Station) (header : Option LinkWord) (data : List LinkWord) (extraBits : Nat) : State :=
  match judgeFrame st header data extraBits with
  | .fails o reason counter valid =>
    s.failFrame st (storedCode header) { outcome := o, reason := reason, skip := 0 } counter valid
  | .read => ((s.endFrame st).renewPresence st).settled
  | .request => s.request st (storedCode header) (ownerOf st (storedCode header) (data.map payloadOf))

/-- The port's select becomes inactive (R156, R158). -/
def State.closeFrame (s : State) (st : Station) (data : List LinkWord) (extraBits : Nat) : State :=
  match (s.port st).frame with
  | none => s
  | some f => s.finishFrame st f.header data extraBits

/-! ## Presence (R164) -/

/-- The silence time of a port runs out. A silence time that is stopped does not run out. -/
def State.expireSilence (s : State) (st : Station) : State :=
  if (s.port st).silence.isSome then s.modPort st fun p => { p with present := false, silence := none } else s

end Sys2Proof.Machine
end

