-- ==== Sys2Proof/Machine/CabinRequests.lean ====
section
/-! DEFINITION. Meanings: the requests of CABIN. -/

namespace Sys2Proof.Machine

/-- CONFIGURE (R169 to R172). -/
def execConfigure (pairs : List (Payload × Payload)) (s : State) : Result :=
  s.run fun t => t.request .cabin 1 fun u => u.requestConfigure pairs

/-- REFERENCE STROKES (R8, R9). A frame of another length than ten data words fails row 8 of Table 9-2. -/
def execReferenceStrokes (values : List Payload) (s : State) : Result :=
  s.run fun t =>
    if values.length = 10 then t.request .cabin 2 fun u => u.requestReference (strokesOf values)
    else t.failFrame .cabin 2 { outcome := .frame, reason := 2, skip := 0 } .frame true

/-- ADVANCE START (R28, R30). -/
def execAdvanceStart (s : State) : Result := s.run fun t => t.request .cabin 3 State.requestStart

/-- ADVANCE STOP (R41). -/
def execAdvanceStop (s : State) : Result := s.run fun t => t.request .cabin 4 State.requestStop

/-- SET LEVEL (R45). -/
def execSetLevel (level : Payload) (s : State) : Result :=
  s.run fun t => t.request .cabin 5 fun u => u.requestLevel level.toNat

/-- RING BEGIN (R42, R43). -/
def execRingBegin (number key : Payload) (s : State) : Result :=
  s.run fun t => t.request .cabin 6 fun u => u.requestRing number.toNat key.toNat

/-- FIRST FAULT RELEASE (R150). -/
def execFirstFaultRelease (s : State) : Result := s.run fun t => t.request .cabin 7 State.releaseFirst

end Sys2Proof.Machine
end

