-- ==== Sys2Proof/Machine/ErectorRequests.lean ====
section
/-! DEFINITION. Meanings: the requests of ERECTOR. -/

namespace Sys2Proof.Machine

/-- CLAIM PIECE (R75 to R79). -/
def execClaimPiece (code : Payload) (s : State) : Result :=
  s.run fun t => t.request .erector 16 fun u => u.requestClaim code.toNat

/-- WITHDRAW PIECE (R89). -/
def execWithdrawPiece (code : Payload) (s : State) : Result :=
  s.run fun t => t.request .erector 17 fun u => u.requestWithdraw code.toNat

/-- PIECE PLACED (R85). -/
def execPiecePlaced (code : Payload) (s : State) : Result :=
  s.run fun t => t.request .erector 18 fun u => u.requestPlaced code.toNat

end Sys2Proof.Machine
end

