-- ==== Sys2Proof/Machine/GroutRequests.lean ====
section
/-! DEFINITION. Meanings: the requests of GROUT. -/

namespace Sys2Proof.Machine

/-- LINE SUSPEND (R108). -/
def execLineSuspend (line : Payload) (s : State) : Result :=
  s.run fun t => t.request .grout 24 fun u => u.requestSuspend line.toNat

/-- LINE RESUME (R109). -/
def execLineResume (line : Payload) (s : State) : Result :=
  s.run fun t => t.request .grout 25 fun u => u.requestResume line.toNat

end Sys2Proof.Machine
end

