-- ==== Sys2Proof/Machine/LinkEvents.lean ====
section
/-! DEFINITION. Meanings: the events of a station port. -/

namespace Sys2Proof.Machine

/-- SELECT_ACTIVE (R156). -/
def execSelectActive (st : Station) (s : State) : Result := s.run fun t => t.openFrame st

/-- HEADER_CHECK (R157, R162). -/
def execHeaderCheck (st : Station) (header : LinkWord) (s : State) : Result := s.run fun t => t.takeHeader st header

/-- LINK_WORD_SENT (R156, R163, R174, R175). -/
def execLinkWordSent (st : Station) (s : State) : Result := s.run fun t => t.wordSent st

/-- FRAME_END (R158). -/
def execFrameEnd (st : Station) (data : List LinkWord) (extraBits : Nat) (s : State) : Result :=
  s.run fun t => t.closeFrame st data extraBits

end Sys2Proof.Machine
end

