-- ==== Sys2Proof/Machine/MuckRequests.lean ====
section
/-! DEFINITION. Meanings: the requests of MUCK. -/

namespace Sys2Proof.Machine

/-- TRAIN IN (R119). -/
def execTrainIn (cars capacity : Payload) (s : State) : Result :=
  s.run fun t => t.request .muck 32 fun u => u.requestTrainIn cars.toNat capacity.toNat

/-- CAR SHIFT (R121). -/
def execCarShift (s : State) : Result := s.run fun t => t.request .muck 33 State.requestCarShift

/-- TRAIN OUT (R122). -/
def execTrainOut (s : State) : Result := s.run fun t => t.request .muck 34 State.requestTrainOut

end Sys2Proof.Machine
end

