-- ==== Sys2Proof/Machine/Time.lean ====
section
/-! DEFINITION. The passing of time: the second ticks, and one millisecond of the timebase with everything that falls due in it (log
entries 3 and 21). -/

namespace Sys2Proof.Machine

/-- The seconds count increases by one, wrapping to 0 after 1,073,741,823 (R1). -/
def State.countSecond (s : State) : State := { s with seconds := (s.seconds + 1) % 2 ^ 30 }

/-! ## One millisecond -/

/-- A time left, one ms later. -/
def countDown (t : Option Nat) : Option Nat := t.map fun n => n - 1

/-- The most ms since a revolution pulse that the last period can show: 32,767 units of 10 ms (R31; log entry 27). -/
def sincePulseTop : Nat := 327679

/-- The greatest age (R132). -/
def ageTop : Nat := 32767

/-- Every running time is one ms further on; nothing has fallen due yet. -/
def State.passMs (s : State) : State :=
  { s with
    ms := (s.ms + 1) % 1000
    groups := mapIx s.groups fun _ r => { r with dwell := countDown r.dwell }
    adu :=
      { s.adu with
        spinup := countDown s.adu.spinup, stopTimer := countDown s.adu.stopTimer
        sincePulse := s.adu.sincePulse.map fun t => addUpTo sincePulseTop t 1 }
    rbu :=
      { s.rbu with
        record :=
          { s.rbu.record with
            pieces := mapIx s.rbu.record.pieces fun _ r =>
              if r.timer.state == .running then { r with timer := { r.timer with left := r.timer.left - 1 } } else r }
        queue := s.rbu.queue.map fun e => { e with wait := e.wait - 1 } }
    mst :=
      { s.mst with
        records := mapIx s.mst.records fun _ r => { r with age := r.age.map fun a => addUpTo ageTop a 1 } }
    fsv := { s.fsv with entries := s.fsv.entries.map fun e => { e with retryLeft := countDown e.retryLeft } }
    ports := mapIx s.ports fun _ p => { p with silence := countDown p.silence } }

/-- What happens where a test holds, followed to its end. -/
def State.when (s : State) (due : State → Bool) (f : State → State) : State := if due s then (f s).settled else s

/-- The retry time of a key's entry has run out. -/
def State.retryDue (s : State) (key : FaultKey) : Bool := ((s.fsv.find key).map fun e => e.retryLeft == some 0).getD false

/-- A piece timer has run out. -/
def State.pieceDue (s : State) (pc : Piece) : Bool := (s.piece pc).timer.state == .running && (s.piece pc).timer.left == 0

/-- A queued claim's wait has run out. -/
def State.waitDue (s : State) (pc : Piece) : Bool := s.rbu.queue.any fun e => e.piece == pc && e.wait == 0

/-- The ticks of the second timers, where a whole second has passed. -/
def State.secondDue (s : State) : State :=
  if s.ms = 0 then (s.countSecond.groutTick.settled).muckTick.settled else s

/-- Everything that has fallen due, each at its turn if it is still due then (log entry 3). -/
def State.runDue (s : State) : State :=
  let s := s.secondDue
  let s := allGroups.foldl (fun t g => t.when (fun u => (u.group g).dwell == some 0) fun u => u.expireDwell g) s
  let s := s.when (fun u => u.adu.stopTimer == some 0) State.expireStopTimer
  let s := s.when (fun u => u.adu.spinup == some 0) State.expireSpinup
  let s := (s.fsv.entries.map FaultEntry.key).foldl (fun t k => t.when (fun u => u.retryDue k) fun u => u.expireRetry k) s
  let s := allPieces.foldl (fun t pc => t.when (fun u => u.pieceDue pc) fun u => u.expirePieceTimer pc) s
  let s := allPieces.foldl (fun t pc => t.when (fun u => u.waitDue pc) fun u => u.expireWait pc) s
  let s := allMeas.foldl (fun t m => t.when (fun u => u.tooOld m) fun u => u.enterStale m) s
  allStations.foldl (fun t st => t.when (fun u => (u.port st).silence == some 0) fun u => u.expireSilence st) s

/-- One ms of the timebase. While RESET is held no time passes. -/
def State.tick (s : State) : State := if s.resetActive then s else s.passMs.runDue

end Sys2Proof.Machine
end

