-- ==== Sys2Proof/Machine/ResetEvents.lean ====
section
/-! DEFINITION. Meanings: device reset, its release, and the second ticks. -/

namespace Sys2Proof.Machine

/-- DEVICE_RESET: every block takes its reset values (R3, R27, R50, R70, R94, R115, R129, R141, R155, R168); RESET is held. The
level of the emergency stop input and the commands that wait are not the part's to reset (log entry 1). -/
def State.deviceReset (s : State) : State := { State.reset with pending := s.pending, estop := s.estop, resetActive := true }

def execDeviceReset (s : State) : Result := .next s.deviceReset

/-- RESET_RELEASE: time, pulses and frames are taken from now on (R1, R3). Without RESET held there is nothing to release. -/
def execResetRelease (s : State) : Result := .next { s with resetActive := false }

/-- SECONDS_TICK (R1). -/
def execSecondsTick (s : State) : Result := s.run State.countSecond

/-- GROUT_SECOND_TICK (R93, R102). -/
def execGroutSecondTick (s : State) : Result := s.run fun t => t.groutTick.settled

/-- MUCK_SECOND_TICK (R114, R125). -/
def execMuckSecondTick (s : State) : Result := s.run fun t => t.muckTick.settled

end Sys2Proof.Machine
end

