-- ==== Sys2Proof/Machine/ShieldEvents.lean ====
section
/-! DEFINITION. Meanings: the shield's input lines (pulses and the emergency stop). -/

namespace Sys2Proof.Machine

/-- STROKE_PULSE (R5). -/
def execStrokePulse (g : GroupIx) (extending : Bool) (s : State) : Result := s.run fun t => (t.pulse g extending).settled

/-- REVOLUTION_PULSE (R31). -/
def execRevolutionPulse (s : State) : Result := s.run fun t => t.takeRevolution.settled

/-- The assertion of emergency stop: each block's response, the tail lines first so that the flush finds them idle (R13, R22, R49,
R88, R111, R123, R47). -/
def State.assertStop (s : State) : State :=
  ({ s with estop := true }.idleLines.judgePermit.stopDwells.suspendTimers.dropCycle).judgeGrout.judgeRate

/-- The release of emergency stop (R13, R22, R81, R88, R111, R123, R47, R154). -/
def State.releaseStop (s : State) : State :=
  ({ s with estop := false }.restartDwells.resumeTimers.startIdleLines.judgeGrout.judgePermit).judgeRate.examineHead

/-- ESTOP_ASSERT: the input becomes asserted. While RESET is held only its level is kept; an input already asserted is not asserted
again (log entry 22). -/
def execEstopAssert (s : State) : Result :=
  .next (if s.resetActive then { s with estop := true } else if s.estop then s else s.assertStop.settled)

/-- ESTOP_RELEASE: the input becomes released. -/
def execEstopRelease (s : State) : Result :=
  .next (if s.resetActive then { s with estop := false } else if s.estop then s.releaseStop.settled else s)

end Sys2Proof.Machine
end

