-- ==== Sys2Proof/Machine/StationRequests.lean ====
section
/-! DEFINITION. Meanings: the requests permitted to every station. -/

namespace Sys2Proof.Machine

/-- MEASURE (R130). -/
def execMeasure (st : Station) (pairs : List (Payload × Payload)) (s : State) : Result :=
  s.run fun t => t.request st 40 fun u => u.requestMeasure st pairs

/-- FAULT CLEAR (R147). -/
def execFaultClear (st : Station) (cls src : Payload) (s : State) : Result :=
  s.run fun t => t.request st 41 fun u => u.requestFaultClear st cls.toNat src.toNat

/-- FAULT CLEAR with class code 0 (R148). -/
def execOverflowClear (st : Station) (src : Payload) (s : State) : Result :=
  s.run fun t => t.request st 41 fun u => u.requestOverflowClear st src.toNat

/-- PORT RESET (R167). -/
def execPortReset (st : Station) (s : State) : Result := s.run fun t => t.request st 42 fun u => u.requestPortReset st

end Sys2Proof.Machine
end

