-- ==== Sys2Proof/Machine/TimerEvents.lean ====
section
/-! DEFINITION. Meanings: the ends of the part's timed operations. A command of this file stands for the moment at which the time
runs out; a time that is not running does not run out (log entry 7). -/

namespace Sys2Proof.Machine

/-- DWELL_TIME_EXPIRY (R21). -/
def execDwellTimeExpiry (g : GroupIx) (s : State) : Result := s.run fun t => (t.expireDwell g).settled

/-- STOP_TIMER_EXPIRY (R32, R40). -/
def execStopTimerExpiry (s : State) : Result := s.run fun t => t.expireStopTimer.settled

/-- SPINUP_TIME_EXPIRY (R33). -/
def execSpinupTimeExpiry (s : State) : Result := s.run fun t => t.expireSpinup.settled

/-- SILENCE_TIME_EXPIRY (R164). -/
def execSilenceTimeExpiry (st : Station) (s : State) : Result := s.run fun t => (t.expireSilence st).settled

/-- FRESH_LIMIT_PASSED (R132). -/
def execFreshLimitPassed (m : MeasIx) (s : State) : Result := s.run fun t => (t.enterStale m).settled

/-- RETRY_TIME_EXPIRY (R145). -/
def execRetryTimeExpiry (key : FaultKey) (s : State) : Result := s.run fun t => (t.expireRetry key).settled

/-- PIECE_TIMER_EXPIRY (R87). -/
def execPieceTimerExpiry (pc : Piece) (s : State) : Result := s.run fun t => (t.expirePieceTimer pc).settled

/-- QUEUE_WAIT_EXPIRY (R82). -/
def execQueueWaitExpiry (pc : Piece) (s : State) : Result := s.run fun t => (t.expireWait pc).settled

end Sys2Proof.Machine
end

