-- ==== Sys2Proof/Machine/Dispatch.lean ====
section
/-! DEFINITION. The meaning of every command: one arm per constructor of Instr. -/

namespace Sys2Proof.Machine

def exec (i : Instr) (s : State) : Host.Outcome State Fault Refusal :=
  match i with
  | .deviceReset => Sys2Proof.Machine.execDeviceReset s
  | .resetRelease => Sys2Proof.Machine.execResetRelease s
  | .secondsTick => Sys2Proof.Machine.execSecondsTick s
  | .strokePulse g extending => Sys2Proof.Machine.execStrokePulse g extending s
  | .dwellTimeExpiry g => Sys2Proof.Machine.execDwellTimeExpiry g s
  | .revolutionPulse => Sys2Proof.Machine.execRevolutionPulse s
  | .stopTimerExpiry => Sys2Proof.Machine.execStopTimerExpiry s
  | .spinupTimeExpiry => Sys2Proof.Machine.execSpinupTimeExpiry s
  | .estopAssert => Sys2Proof.Machine.execEstopAssert s
  | .estopRelease => Sys2Proof.Machine.execEstopRelease s
  | .selectActive st => Sys2Proof.Machine.execSelectActive st s
  | .headerCheck st header => Sys2Proof.Machine.execHeaderCheck st header s
  | .linkWordSent st => Sys2Proof.Machine.execLinkWordSent st s
  | .frameEnd st data extraBits => Sys2Proof.Machine.execFrameEnd st data extraBits s
  | .configure pairs => Sys2Proof.Machine.execConfigure pairs s
  | .referenceStrokes values => Sys2Proof.Machine.execReferenceStrokes values s
  | .advanceStart => Sys2Proof.Machine.execAdvanceStart s
  | .advanceStop => Sys2Proof.Machine.execAdvanceStop s
  | .setLevel level => Sys2Proof.Machine.execSetLevel level s
  | .ringBegin number key => Sys2Proof.Machine.execRingBegin number key s
  | .firstFaultRelease => Sys2Proof.Machine.execFirstFaultRelease s
  | .claimPiece code => Sys2Proof.Machine.execClaimPiece code s
  | .withdrawPiece code => Sys2Proof.Machine.execWithdrawPiece code s
  | .piecePlaced code => Sys2Proof.Machine.execPiecePlaced code s
  | .lineSuspend line => Sys2Proof.Machine.execLineSuspend line s
  | .lineResume line => Sys2Proof.Machine.execLineResume line s
  | .trainIn cars capacity => Sys2Proof.Machine.execTrainIn cars capacity s
  | .carShift => Sys2Proof.Machine.execCarShift s
  | .trainOut => Sys2Proof.Machine.execTrainOut s
  | .measure st pairs => Sys2Proof.Machine.execMeasure st pairs s
  | .faultClear st cls src => Sys2Proof.Machine.execFaultClear st cls src s
  | .overflowClear st src => Sys2Proof.Machine.execOverflowClear st src s
  | .portReset st => Sys2Proof.Machine.execPortReset st s
  | .silenceTimeExpiry st => Sys2Proof.Machine.execSilenceTimeExpiry st s
  | .freshLimitPassed m => Sys2Proof.Machine.execFreshLimitPassed m s
  | .groutSecondTick => Sys2Proof.Machine.execGroutSecondTick s
  | .muckSecondTick => Sys2Proof.Machine.execMuckSecondTick s
  | .retryTimeExpiry key => Sys2Proof.Machine.execRetryTimeExpiry key s
  | .pieceTimerExpiry pc => Sys2Proof.Machine.execPieceTimerExpiry pc s
  | .queueWaitExpiry pc => Sys2Proof.Machine.execQueueWaitExpiry pc s

end Sys2Proof.Machine
end

