-- ==== Sys2Proof/Machine/Frames.lean ====
section
/-! DEFINITION. The request frame that each request command stands for (Tables 9-3 and 12-4). -/

namespace Sys2Proof.Machine

/-- The data words of a request of pairs: their count, then each pair's two words (R159, Table 9-3). -/
def countedPairs (pairs : List (Payload × Payload)) : List Payload :=
  BitVec.ofNat 15 pairs.length :: pairs.flatMap fun pr => [pr.1, pr.2]

/-- The station, the request code and the data words of the frame that a request command stands for; an event has none. -/
def requestFrame : Instr → Option (Station × Nat × List Payload)
  | .configure pairs => some (.cabin, 1, countedPairs pairs)
  | .referenceStrokes values => some (.cabin, 2, values)
  | .advanceStart => some (.cabin, 3, [])
  | .advanceStop => some (.cabin, 4, [])
  | .setLevel level => some (.cabin, 5, [level])
  | .ringBegin number key => some (.cabin, 6, [number, key])
  | .firstFaultRelease => some (.cabin, 7, [])
  | .claimPiece code => some (.erector, 16, [code])
  | .withdrawPiece code => some (.erector, 17, [code])
  | .piecePlaced code => some (.erector, 18, [code])
  | .lineSuspend line => some (.grout, 24, [line])
  | .lineResume line => some (.grout, 25, [line])
  | .trainIn cars capacity => some (.muck, 32, [cars, capacity])
  | .carShift => some (.muck, 33, [])
  | .trainOut => some (.muck, 34, [])
  | .measure st pairs => some (st, 40, countedPairs pairs)
  | .faultClear st cls src => some (st, 41, [cls, src])
  | .overflowClear st src => some (st, 41, [0, src])
  | .portReset st => some (st, 42, [])
  | .deviceReset | .resetRelease | .secondsTick | .strokePulse _ _ | .dwellTimeExpiry _ | .revolutionPulse
  | .stopTimerExpiry | .spinupTimeExpiry | .estopAssert | .estopRelease | .selectActive _ | .headerCheck _ _
  | .linkWordSent _ | .frameEnd _ _ _ | .silenceTimeExpiry _ | .freshLimitPassed _ | .groutSecondTick
  | .muckSecondTick | .retryTimeExpiry _ | .pieceTimerExpiry _ | .queueWaitExpiry _ => none

/-- The header of a request frame of a station (Table 12-1); its record index is not used. -/
def requestHeader (st : Station) (code : Nat) (record : BitVec 4) : LinkWord :=
  headerWord false (BitVec.ofNat 3 st.id) (BitVec.ofNat 7 code) record

/-- The header of a read frame of a station (Table 12-1). -/
def readHeader (st : Station) (view : Nat) (record : BitVec 4) : LinkWord :=
  headerWord true (BitVec.ofNat 3 st.id) (BitVec.ofNat 7 view) record

end Sys2Proof.Machine
end

