-- ==== Sys2Proof/Safety.lean ====
section
/-! DEFINITION. The terms that claims about the part use: what a command's consequences never touch, when nothing waits, what
answering a request leaves at its port, and the invariants of the blocks' records. -/

namespace Sys2Proof.Machine

/-- Of a jack group: the fields that only pulses and REFERENCE STROKES change. -/
structure Counted where
  stroke : Nat
  referenced : Bool
  saturated : Bool
  deriving DecidableEq, Repr

def Group.counted (r : Group) : Counted :=
  { stroke := r.stroke, referenced := r.referenced, saturated := r.saturated }

/-- A meter's base: the last counter and whether it is valid. -/
structure Meter where
  last : Nat
  valid : Bool
  deriving DecidableEq, Repr

def Line.meter (l : Line) : Meter := { last := l.lastCounter, valid := l.counterValid }
def Muck.meter (k : Muck) : Meter := { last := k.lastCounter, valid := k.counterValid }

/-- Of the advance record: the fields that only SET LEVEL, revolution pulses and the passing of time change. -/
structure Revolution where
  lCabin : Nat
  lastPeriod : Option Nat
  cutter : CutterCondition
  stopTimer : Option Nat
  sincePulse : Option Nat
  deriving DecidableEq, Repr

def Advance.revolution (a : Advance) : Revolution :=
  { lCabin := a.lCabin, lastPeriod := a.lastPeriod, cutter := a.cutter, stopTimer := a.stopTimer, sincePulse := a.sincePulse }

/-- Of the open ring record: the fields that only RING BEGIN and queue expiry change. -/
structure RingHead where
  number : Option Nat
  key : Option GroupIx
  frozen : Option Frozen
  buildStart : Option Nat
  claimsExpired : Nat
  deriving DecidableEq, Repr

def RingRecord.head (r : RingRecord) : RingHead :=
  { number := r.number, key := r.key, frozen := r.frozen, buildStart := r.buildStart, claimsExpired := r.claimsExpired }

/-- A port context without its station's event flags and repeat marks. -/
def Port.link (p : Port) : Port := { p with flags := Vector.replicate 8 false, repeats := Vector.replicate 8 false }

/-- What only a command itself or the passing of time changes: no notice between the blocks, no raise and no clearance of a
condition touches it. -/
structure Direct where
  pending : List Instr
  resetActive : Bool
  estop : Bool
  seconds : Nat
  ms : Nat
  config : ConfigSet
  groups : Vector Counted 10
  adu : Revolution
  ring : RingHead
  lines : Vector Meter 6
  cars : List Car
  capacity : Option Nat
  belt : Meter
  records : Vector MeasRecord 15
  ports : Vector Port 4
  deriving DecidableEq, Repr

def State.direct (s : State) : Direct :=
  { pending := s.pending, resetActive := s.resetActive, estop := s.estop, seconds := s.seconds, ms := s.ms
    config := s.config, groups := s.groups.map Group.counted, adu := s.adu.revolution, ring := s.rbu.record.head
    lines := s.gru.lines.map Line.meter, cars := s.mku.cars, capacity := s.mku.capacity, belt := s.mku.meter
    records := s.mst.records, ports := s.ports.map Port.link }

/-! ## A part at rest -/

/-- RESET is released and nothing waits. -/
def State.calm (s : State) : Bool := !s.resetActive && s.quiet

/-- The part as a request's owner finds it: the frame has ended and been counted, and the station's presence is renewed (R158, R164). -/
def State.attended (s : State) (st : Station) : State := (s.endFrame st).renewPresence st

/-- RESET is released, and nothing waits once the frame of a request from `st` has been counted. -/
def State.ready (s : State) (st : Station) : Bool := !s.resetActive && (s.attended st).quiet

/-- A request's answer in the outcome slot of its station's port (R161). -/
def State.answer (s : State) (st : Station) (code : Nat) (r : Reply) : State := s.modPort st fun p => p.writeSlot code r

/-- Commands run one after another, up to the first that does not answer a next state. -/
def execAll : List Instr → State → Result
  | [], s => .next s
  | i :: rest, s =>
    match exec i s with
    | .next t => execAll rest t
    | stop => stop

/-! ## What falls due, and what CONFIGURE may change -/

/-- The time that an expiry command names has run out, or the second of a tick has passed. -/
def State.isDue (s : State) : Instr → Bool
  | .secondsTick | .groutSecondTick | .muckSecondTick => s.ms == 0
  | .dwellTimeExpiry g => (s.group g).dwell == some 0
  | .stopTimerExpiry => s.adu.stopTimer == some 0
  | .spinupTimeExpiry => s.adu.spinup == some 0
  | .retryTimeExpiry key => ((s.fsv.find key).map fun e => e.retryLeft == some 0).getD false
  | .pieceTimerExpiry pc => (s.piece pc).timer.state == .running && (s.piece pc).timer.left == 0
  | .queueWaitExpiry pc => s.rbu.queue.any fun e => e.piece == pc && e.wait == 0
  | .freshLimitPassed m =>
    (s.meas m).state == .fresh && ((s.meas m).age.map fun a => decide (s.item (.freshLimit m) < a)).getD false
  | .silenceTimeExpiry st => (s.port st).silence == some 0
  | .deviceReset | .resetRelease | .strokePulse _ _ | .revolutionPulse | .estopAssert | .estopRelease | .selectActive _
  | .headerCheck _ _ | .linkWordSent _ | .frameEnd _ _ _ | .configure _ | .referenceStrokes _ | .advanceStart | .advanceStop
  | .setLevel _ | .ringBegin _ _ | .firstFaultRelease | .claimPiece _ | .withdrawPiece _ | .piecePlaced _ | .lineSuspend _
  | .lineResume _ | .trainIn _ _ | .carShift | .trainOut | .measure _ _ | .faultClear _ _ _ | .overflowClear _ _
  | .portReset _ => false

/-- A command is run where it has fallen due. -/
def State.runIfDue (s : State) (i : Instr) : State :=
  if s.isDue i then
    match exec i s with
    | .next t => t
    | _ => s
  else s

/-- CONFIGURE may give one item a value: its range and mode, the cross checks of Table 10-2, and for a standstill item the state of the
machine (R169 to R171). -/
def State.mayChange (s : State) (i : Item) (v : Nat) : Prop :=
  let cfg := putItem s.config i v
  i.admits v = true ∧ (∀ c : Fin 12, i = .faultMode c → c = 3 ∨ c = 11 → v ≠ 3 ∧ v ≠ 7) ∧
  itemValue cfg .ringOd + 20 ≤ itemValue cfg .boreDiameter ∧
  (∀ p, itemValue cfg (.windowOpen p) < itemValue cfg (.windowClose p)) ∧
  itemValue cfg .deficitLow + 8 ≤ itemValue cfg .deficitHigh ∧
  itemValue cfg .faceLow + 10 ≤ itemValue cfg .faceHigh ∧
  (i.running = false →
    s.adu.cycle ∉ [Cycle.spinup, .boring, .paused, .rundown] ∧ s.rbu.record.state ≠ .building)

/-! ## The claim at the head of the queue (R81) -/

/-- R81: the grant conditions of Table 4-6 without the one on an empty queue. No group of the piece is lent; the lent groups, those of the
piece that are in HOLD and MIN_CONTACT are ten together or fewer; CLAIM_FREEZE is not in force and emergency stop is released. -/
def State.claimable (s : State) (pc : Piece) : Prop :=
  let lent (g : GroupIx) : Bool := [GroupState.retract, .clear, .returning].contains (s.group g).state
  (∀ g ∈ (s.piece pc).groups, lent g = false) ∧
  (allGroups.filter lent).length + ((s.piece pc).groups.filter fun g => (s.group g).state == .hold).length
    + s.item .minContact ≤ 10 ∧
  s.inForce .claimFreeze = false ∧ s.estop = false

/-- The piece has groups, and each is in HOLD or PUSH, where the retract request takes it (R16). -/
def State.bearing (s : State) (pc : Piece) : Prop :=
  (s.piece pc).groups ≠ [] ∧ ∀ g ∈ (s.piece pc).groups, (s.group g).state = .hold ∨ (s.group g).state = .push

/-- R78, R16 and R84 together: a granted piece once its retract request has been answered. Its groups above CLEAR_STROKE are in
RETRACT and awaited, the others in CLEAR at once; with none awaited the piece is CLEAR with its timer stopped and PIECE_CLEAR set. -/
def State.granted (s : State) (pc : Piece) : State :=
  let gs := (s.piece pc).groups
  let left := gs.filter fun g => decide (s.item .clearStroke < (s.group g).stroke)
  let t := ({ s with groups := mapIx s.groups fun g r =>
      if g ∈ gs then
        { r with state := if s.item .clearStroke < r.stroke then .retract else .clear, owner := some pc, contact := false }
      else r }.modPiece pc fun r =>
    { r with
      state := if left = [] then .clear else .retracting
      claimTime := some (r.claimTime.getD s.seconds), awaited := left
      timer :=
        if left = [] then { state := .stopped, kind := .none, left := 0 }
        else { state := .running, kind := .retract, left := 1000 * s.item .retractTime } }).setEvent .claimGranted
  if left = [] then t.setEvent .pieceClear else t

/-- `t` is what an examination of the head of the claim queue makes of `s`, where nothing else waits (R81): nothing where the queue is
empty or a condition fails, else the head granted and its entry gone. The grant is said for a piece that bears, with no entry behind it
that may be granted in its turn at the state notices of that grant. -/
def State.examinesTo (s t : State) : Prop :=
  match s.rbu.queue with
  | [] => t = s
  | e :: rest =>
    let u := (s.modRbu fun b => { b with queue := rest }).granted e.piece
    (¬s.claimable e.piece → t = s) ∧
    (s.claimable e.piece → s.bearing e.piece → (∀ next ∈ rest.head?, ¬u.claimable next.piece) → t = u)

/-! ## The invariants -/

/-- R56, R60: the targets and U together are K_v for each count accrued, and E is K_m for each. -/
def State.accountsBalance (s : State) : Prop :=
  (allLines.map fun p => (s.account p).target).sum + s.act.unassigned = s.act.kv * s.act.aAcc ∧
  s.act.expected = s.act.km * s.act.aAcc

/-- R140, R145: at most sixteen entries, one for each key, and no retry count above 7. -/
def State.faultListSound (s : State) : Prop :=
  s.fsv.entries.length ≤ 16 ∧ (s.fsv.entries.map FaultEntry.key).Nodup ∧ ∀ i : Fin 55, s.fsv.retryCounts[i] ≤ 7

/-- R2, R6: a stroke within its range, an owning piece exactly while the group is in RETRACT, CLEAR or RETURN, and a dwell time only
in RETURN. -/
def State.groupsSound (s : State) : Prop :=
  ∀ g, (s.group g).stroke ≤ 32767 ∧
    ((s.group g).owner.isSome = true ↔
      (s.group g).state = .retract ∨ (s.group g).state = .clear ∨ (s.group g).state = .returning) ∧
    ((s.group g).dwell.isSome = true → (s.group g).state = .returning)

/-- R139, R169, R170: every item within its range, the cross checks of Table 10-2, and the modes that CONTACT_LOSS and STATION_SILENT
may not have. -/
def State.configSound (s : State) : Prop :=
  (∀ i : Item, i.admits (s.item i) = true) ∧
  s.item .ringOd + 20 ≤ s.item .boreDiameter ∧
  (∀ p, s.item (.windowOpen p) < s.item (.windowClose p)) ∧
  s.item .deficitLow + 8 ≤ s.item .deficitHigh ∧
  s.item .faceLow + 10 ≤ s.item .faceHigh ∧
  ∀ c : Fin 12, c = 3 ∨ c = 11 → s.item (.faultMode c) ≠ 3 ∧ s.item (.faultMode c) ≠ 7

/-- R30, R33, R39, R43, R44, R48, R49: the permits and the spin-up time follow the cycle; the open ring record is BUILDING exactly in
RING_BUILD; no cutting state stands under emergency stop; and RESET holds the cycle in STANDSTILL. -/
def State.cycleSound (s : State) : Prop :=
  (s.adu.thrustPermit = true ↔ s.adu.cycle = .boring) ∧
  (s.adu.cutterPermit = true ↔
    s.adu.cycle = .spinup ∨ s.adu.cycle = .boring ∨ s.adu.cycle = .paused ∧ s.adu.permitKept = true) ∧
  (s.adu.permitKept = true → s.adu.cycle = .paused) ∧
  (s.adu.spinup.isSome = true ↔ s.adu.cycle = .spinup) ∧
  (s.rbu.record.state = .building ↔ s.adu.cycle = .ringBuild) ∧
  (s.estop = true ∨ s.resetActive = true → s.adu.cycle = .standstill ∨ s.adu.cycle = .ringBuild) ∧
  (s.resetActive = true → s.adu.cycle = .standstill)

/-- R46, R47, R112, R124: every limiter level is as its rule gives it for the state as it stands, none is above 8, and the rate level
is the least of them in BORING with emergency stop released and 0 otherwise. -/
def State.levelsSound (s : State) : Prop :=
  s.gru.lGrout = groutLevel (s.item .deficitLow) (s.item .deficitHigh) s.dmax ∧
  s.mku.lMuck = (if s.mku.beltPermit then 8 else 0) ∧
  s.adu.lCabin ≤ 8 ∧ s.gru.lGrout ≤ 8 ∧ s.adu.lPen ≤ 8 ∧
  s.adu.rateLevel =
    (if s.adu.cycle = .boring ∧ s.estop = false then
      min (min s.adu.lCabin s.gru.lGrout) (min s.mku.lMuck s.adu.lPen) else 0) ∧
  (s.resetActive = true → s.adu.cycle = .standstill)

/-- R98, R99, R105, R111 and Table 5-3: a valve is open exactly in PRIME, FLOW and LIMIT; a line is in one of these or SATISFIED only
while its window is OPEN and emergency stop is released; S is at most 8, and 0 outside them. RESET holds every line in IDLE. -/
def State.linesSound (s : State) : Prop :=
  (∀ p, (s.line p).valve = (s.line p).phase.injecting ∧
    ((s.line p).phase.idles = true → (s.account p).window = true ∧ s.estop = false) ∧
    (s.line p).setpoint ≤ 8 ∧ ((s.line p).phase.injecting = false → (s.line p).setpoint = 0)) ∧
  (s.resetActive = true → ∀ p, (s.line p).phase = .idle)

/-- R65, R97: every published deficit and every carry lies within −16,383 to 16,383, and N and Z do not stand against the deficit. -/
def State.deficitsSound (s : State) : Prop :=
  ∀ p, -16383 ≤ (s.deficit p).d ∧ (s.deficit p).d ≤ 16383 ∧ -16383 ≤ (s.line p).carry ∧ (s.line p).carry ≤ 16383 ∧
    ((s.deficit p).n = true ↔ (s.deficit p).d < 0) ∧ ((s.deficit p).z = true → (s.deficit p).d = 0)

/-- The order of a train's cars: FULL ones, then none or one FILLING car and the EMPTY ones behind it. -/
def carsInOrder : List Car → Bool
  | [] => true
  | c :: rest =>
    match c.state with
    | .full => carsInOrder rest
    | .filling => rest.all fun d => d.state == .empty
    | .empty => false

/-- R119, R121, R122, R123: at most twelve cars in their order, a capacity exactly while a train is present, and a belt permit only
with a FILLING car. -/
def State.trainSound (s : State) : Prop :=
  s.mku.cars.length ≤ 12 ∧ carsInOrder s.mku.cars = true ∧ (s.mku.capacity.isSome = true ↔ s.mku.cars ≠ []) ∧
  (s.mku.beltPermit = true → s.mku.filling.isSome = true)

/-- R80, R92: at most three claims, no piece twice, exactly the QUEUED pieces, and at most eight completed rings. -/
def State.queueSound (s : State) : Prop :=
  s.rbu.queue.length ≤ 3 ∧ (s.rbu.queue.map QueueEntry.piece).Nodup ∧
  (∀ pc, (s.piece pc).state = .queued ↔ pc ∈ s.rbu.queue.map QueueEntry.piece) ∧ s.rbu.history.length ≤ 8

/-- R131, R132 and Table 7-2: a value exactly while FRESH, which is then the last valid one; a last valid value, within its range, and
an age exactly where a value has been taken; a held value only while STALE. -/
def State.recordsSound (s : State) : Prop :=
  ∀ m, let r := s.meas m
    (r.value = if r.state = .fresh then r.lastValid else none) ∧
    (r.lastValid.isSome = true ↔ r.state ≠ .noval) ∧ (r.age.isSome = true ↔ r.state ≠ .noval) ∧
    (r.hasBeenValid = true ↔ r.state ≠ .noval) ∧ (∀ v, r.lastValid = some v → v ≤ rangeTop m) ∧
    (r.degraded = true → r.state = .stale)

/-- R155, R164: no counter above 32,767, a silence time exactly while the station is present, and no station present unheard. -/
def State.portsSound (s : State) : Prop :=
  ∀ st, (s.port st).framesTaken ≤ 32767 ∧ (s.port st).parityErrors ≤ 32767 ∧ (s.port st).idErrors ≤ 32767 ∧
    (s.port st).frameErrors ≤ 32767 ∧ ((s.port st).silence.isSome = true ↔ (s.port st).present = true) ∧
    ((s.port st).present = true → (s.port st).heard = true)

end Sys2Proof.Machine
end

