-- ==== Sys2Proof/WellFormed.lean ====
section
/-! DEFINITION. What makes a command one that the part's inputs can carry. -/

namespace Sys2Proof

/-- The pairs of CONFIGURE and MEASURE are counted in one data word (R159). -/
def pairsFit (pairs : List (Payload × Payload)) : Bool := decide (pairs.length < 2 ^ 15)

/-- Well-formed commands. REFERENCE STROKES carries ten data words (Table 9-3); a pair count fits a data word (R159); fewer than
sixteen bits stand after a frame's last whole word (R156); FAULT CLEAR with class code 0 is the row OVERFLOW_CLEAR (R147). The
other operands have no ill-formed value, by their types. -/
def Instr.wellFormed : Instr → Bool
  | .configure pairs => pairsFit pairs
  | .measure _ pairs => pairsFit pairs
  | .referenceStrokes values => decide (values.length = 10)
  | .frameEnd _ _ extraBits => decide (extraBits < 16)
  | .faultClear _ cls _ => decide (cls ≠ 0)
  | .deviceReset | .resetRelease | .secondsTick | .strokePulse _ _ | .dwellTimeExpiry _ | .revolutionPulse
  | .stopTimerExpiry | .spinupTimeExpiry | .estopAssert | .estopRelease | .selectActive _ | .headerCheck _ _
  | .linkWordSent _ | .advanceStart | .advanceStop | .setLevel _ | .ringBegin _ _ | .firstFaultRelease
  | .claimPiece _ | .withdrawPiece _ | .piecePlaced _ | .lineSuspend _ | .lineResume _ | .trainIn _ _ | .carShift
  | .trainOut | .overflowClear _ _ | .portReset _ | .silenceTimeExpiry _ | .freshLimitPassed _ | .groutSecondTick
  | .muckSecondTick | .retryTimeExpiry _ | .pieceTimerExpiry _ | .queueWaitExpiry _ => true

end Sys2Proof
end

