-- ==== Sys2Proof/Certificates/Slice0/Obligations.lean ====
section
/-! DEFINITION. The statements about the part, for the provers: what each command does, what every step keeps, and what the words of
the station links carry. A docstring names the rules it formalises. -/

open Sys2Proof Sys2Proof.Machine

/-- A step runs the queue's front command; with none, one ms of the timebase passes (that step, order and caps the model's
choice, log entries 3, 21, 27) (98_reader.md, 00_scope.md I.5, R1, R21, R32, R33, R82, R87, R93, R114, R132, R164). -/
def Obligations.StepRunsTheFrontCommand : Prop :=
  ((∀ (i : Instr) (rest : List Instr) (s : State),
    step { s with pending := i :: rest } = exec i { s with pending := rest }) ∧
  (∀ s : State, s.pending = [] →
    step s = .next s.tick ∧ (s.resetActive = true → step s = .next s))) ∧
  (∀ s : State, s.pending = [] → s.resetActive = false →
    let count (t : Option Nat) : Option Nat := t.map fun n => n - 1
    let u : State :=
      { s with
        ms := if s.ms = 999 then 0 else (s.ms + 1) % 1000
        groups := mapIx s.groups fun _ (r : Group) => { r with dwell := count r.dwell }
        adu := { s.adu with
          spinup := count s.adu.spinup, stopTimer := count s.adu.stopTimer
          sincePulse := s.adu.sincePulse.map fun n => min 327679 (n + 1) }
        rbu := { s.rbu with
          record := { s.rbu.record with pieces := mapIx s.rbu.record.pieces fun _ (r : PieceRecord) =>
            if r.timer.state = .running then { r with timer := { r.timer with left := r.timer.left - 1 } } else r }
          queue := s.rbu.queue.map fun e => { e with wait := e.wait - 1 } }
        mst := { s.mst with records := mapIx s.mst.records fun _ (r : MeasRecord) =>
          { r with age := r.age.map fun n => min 32767 (n + 1) } }
        fsv := { s.fsv with entries := s.fsv.entries.map fun e => { e with retryLeft := count e.retryLeft } }
        ports := mapIx s.ports fun _ (p : Port) => { p with silence := count p.silence } }
    let v := ([Instr.secondsTick, .groutSecondTick, .muckSecondTick] ++ allGroups.map Instr.dwellTimeExpiry
      ++ [Instr.stopTimerExpiry, .spinupTimeExpiry]).foldl State.runIfDue u
    step s = .next ((v.fsv.entries.map (fun e => Instr.retryTimeExpiry e.key) ++ allPieces.map Instr.pieceTimerExpiry
      ++ allPieces.map Instr.queueWaitExpiry ++ allMeas.map Instr.freshLimitPassed
      ++ allStations.map Instr.silenceTimeExpiry).foldl State.runIfDue v)) ∧
  (∀ (s : State) (g : GroupIx), s.calm = true → s.pending = [.strokePulse g true] → s.adu.cycle ≠ .boring →
    s.adu.cycle ≠ .paused → (s.group g).state = .returning → s.estop = false → s.inForce .claimFreeze = false →
    (s.group g).stroke < 32767 →
    ∃ u, step s = .next u ∧ u.pending = [] ∧ (u.group g).state = .returning ∧
      (u.group g).dwell =
        if (s.group g).dwellRef + 2 < (s.group g).stroke + 1 then some (s.item .contactDwell) else (s.group g).dwell)

/-- DEVICE_RESET gives every block its reset values, RESET holds them, and RESET_RELEASE lets the part run (R27, R50, R70, R94,
R115, R129, R141, R155, R168, R1, R3). -/
def Obligations.ResetTakesAndHoldsTheResetValues : Prop :=
  (∀ s : State,
    (∃ t, exec .deviceReset s = .next t ∧ t.resetActive = true ∧ t.pending = s.pending ∧ t.estop = s.estop ∧
      t.seconds = 0 ∧ t.ms = 0 ∧ (∀ i : Item, t.item i = i.dflt) ∧ (∀ g, t.group g = Group.reset) ∧
      t.adu = Advance.reset ∧ t.act = Accounts.reset ∧ t.rbu = RingBuild.reset ∧ t.gru = Grout.reset ∧
      t.mku = Muck.reset ∧ t.mst = Measurements.reset ∧ t.fsv = Faults.reset ∧ (∀ st, t.port st = Port.reset) ∧
      t.notices = []) ∧
    exec .resetRelease s = .next { s with resetActive := false }) ∧
  (∀ (i : Instr) (s : State), s.resetActive = true →
    (i ≠ .deviceReset → i ≠ .resetRelease → i ≠ .estopAssert → i ≠ .estopRelease → exec i s = .next s) ∧
    exec .estopAssert s = .next { s with estop := true } ∧ exec .estopRelease s = .next { s with estop := false })

/-- A device reset sets every group record to its reset values, and counting begins after the release (R3). -/
def Obligations.DeviceResetLocksTheGroups : Prop :=
  ∀ (s : State) (g : GroupIx),
    ∃ t, exec .deviceReset s = .next t ∧
      (∀ h, t.group h =
        { state := .locked, stroke := 0, referenced := false, saturated := false, owner := none, capture := 0,
          contactCapture := 0, contact := false, dwellRef := 0, dwell := none, strokeEndReported := false }) ∧
      (∀ h, t.valveMode h = .block) ∧
      (∀ h e, exec (.strokePulse h e) t = .next t) ∧
      ∃ u v, exec .resetRelease t = .next u ∧ exec (.strokePulse g true) u = .next v ∧ (v.group g).stroke = 1 ∧
        ∀ h, h ≠ g → (v.group h).stroke = 0

/-- The seconds count: 0 at and during a reset, one more at every second, wrapping, untouched by PORT RESET (R1). -/
def Obligations.SecondsCount : Prop :=
  ∀ s : State,
    (∃ t, exec .deviceReset s = .next t ∧ t.seconds = 0) ∧
    (s.resetActive = true → s.seconds = 0 → ∀ i t, exec i s = .next t → t.seconds = 0) ∧
    (s.resetActive = false → s.seconds ≤ 1073741823 →
      exec .secondsTick s = .next { s with seconds := if s.seconds = 1073741823 then 0 else s.seconds + 1 }) ∧
    (∀ st t, exec (.portReset st) s = .next t → t.seconds = s.seconds)

/-- The state after reset meets every invariant (R3, R27, R50, R70, R94, R115, R129, R141, R155, R168). -/
def Obligations.ResetMeetsTheInvariants : Prop :=
  State.reset.accountsBalance ∧ State.reset.faultListSound ∧ State.reset.groupsSound ∧ State.reset.configSound ∧
    State.reset.cycleSound ∧ State.reset.levelsSound ∧ State.reset.linesSound ∧ State.reset.deficitsSound ∧
    State.reset.trainSound ∧ State.reset.queueSound ∧ State.reset.recordsSound ∧ State.reset.portsSound

/-- Link words, headers and double words give back what they carry (00_scope.md I.5, 12_record_views_and_word_formats.md 12.1,
R173). -/
def Obligations.LinkWordsCarryTheirPayloads : Prop :=
  (∀ p : Payload, parityOk (linkWord p) = true ∧ payloadOf (linkWord p) = p) ∧
    (∀ (w : LinkWord) (k : Fin 16), parityOk (w ^^^ ((1#16) <<< k.val)) = !parityOk w) ∧
    (∀ (r : Bool) (id : BitVec 3) (code : BitVec 7) (rec : BitVec 4),
      let h := headerWord r id code rec
      parityOk h = true ∧ headerIsRead h = r ∧ headerId h = id.toNat ∧ headerCode h = code.toNat ∧
        headerRecord h = rec.toNat) ∧
    (∀ n, n < 2 ^ 30 → ∃ hi lo, double n = [hi, lo] ∧ (joinWords hi lo).toNat = n) ∧
    (∀ i : Int, -(2 ^ 29) ≤ i → i < 2 ^ 29 → ∃ hi lo, signedDouble i = [hi, lo] ∧ (joinWords hi lo).toInt = i)

/-- The end of the frame that spells a request is that request (the model's choice for the table's rows, log entry 13) (R156,
R157, R158, R159, R160, 12_record_views_and_word_formats.md 12.2). -/
def Obligations.FramesCarryRequests : Prop :=
  ∀ (i : Instr) (s : State) (st : Station) (code : Nat) (data : List Payload) (rec : BitVec 4) (f : FrameInProgress),
    i.wellFormed = true → requestFrame i = some (st, code, data) → (s.port st).frame = some f →
    f.header = some (requestHeader st code rec) →
    exec (.frameEnd st (data.map linkWord) 0) s = exec i s

/-- Only the stations of Table 9-3 pass the domain check, and every station may read every view (R160). -/
def Obligations.RequestsArePermittedByTable : Prop :=
  (∀ (st : Station) (code : Nat) (rec : BitVec 4) (data : List Payload),
      code ∈ requestCodes → requestLength code data = some data.length →
      judgeFrame st (some (requestHeader st code rec)) (data.map linkWord) 0 =
        if (st = .cabin ∧ code ∈ [1, 2, 3, 4, 5, 6, 7]) ∨ (st = .erector ∧ code ∈ [16, 17, 18]) ∨
            (st = .grout ∧ code ∈ [24, 25]) ∨ (st = .muck ∧ code ∈ [32, 33, 34]) ∨ code ∈ [40, 41, 42] then .request
        else .fails .refusedDomain 1 .none true) ∧
    (∀ (st : Station) (view : Nat) (rec : BitVec 4) (data : List LinkWord), view ≤ 15 →
      judgeFrame st (some (readHeader st view rec)) data 0 = .read)

/-- A pulse counts one, or saturates its group, in every group state and under every override (R5, R6). -/
def Obligations.StrokePulsesAreCounted : Prop :=
  ∀ (s : State) (g : GroupIx) (extending : Bool), s.resetActive = false →
    ∃ t, exec (.strokePulse g extending) s = .next t ∧
      t.direct = { s.direct with groups := modAt s.direct.groups g fun c =>
        if extending then
          if c.stroke < 32767 then { c with stroke := c.stroke + 1 } else { c with saturated := true }
        else if 0 < c.stroke then { c with stroke := c.stroke - 1 } else { c with saturated := true } }

/-- A clamped pulse only sets the saturated flag, which stays until REFERENCE STROKES or a device reset (R6). -/
def Obligations.ClampedPulsesSaturate : Prop :=
  ∀ (s : State) (g : GroupIx),
    (s.calm = true → (s.group g).stroke = 0 →
      exec (.strokePulse g false) s = .next (s.modGroup g fun r => { r with saturated := true })) ∧
    (s.calm = true → (s.group g).stroke = 32767 →
      exec (.strokePulse g true) s = .next (s.modGroup g fun r => { r with saturated := true })) ∧
    (∀ (i : Instr) (t : State), i ≠ .deviceReset → exec i s = .next t → (s.group g).saturated = true →
      (t.group g).saturated = true ∨
        ((t.port .cabin).slot.request = 2 ∧ (t.port .cabin).slot.outcome = .accepted)) ∧
    (∀ values : List Payload, s.ready .cabin = true → values.length = 10 → s.adu.cycle = .standstill →
      (∀ v ∈ values, v.toNat ≤ 32000) →
      (∀ h, captureInRange ((s.group h).capture + ((strokesOf values h : Int) - (s.group h).stroke)) = true) →
      ∃ t, exec (.referenceStrokes values) s = .next t ∧ ∀ h, (t.group h).saturated = false) ∧
    (∃ t, exec .deviceReset s = .next t ∧ (t.group g).saturated = false) ∧
    (s.ready .cabin = true → (s.group g).saturated = true →
      ∃ reason, reason ∈ [1, 5, 2, 3] ∧
        exec .advanceStart s = .next ((s.attended .cabin).answer .cabin 3 (.refusedState reason)))

/-- A pulse is judged by its group's state: clearance, dwell reference, contact and stroke end (R5, R7, R20, R23, R24, R22, R17,
R25, R84). -/
def Obligations.PulsesJudgeTheGroupsState : Prop :=
  (∀ (s : State) (g : GroupIx), s.calm = true → (s.group g).stroke < 32767 →
    let v := (s.group g).stroke + 1
    ((s.group g).state = .push →
      let ends := !(s.group g).strokeEndReported && decide (s.item .strokeEnd ≤ v)
      let t := s.modGroup g fun r => { r with stroke := v, strokeEndReported := r.strokeEndReported || ends }
      exec (.strokePulse g true) s =
        .next ((if ends then t.send (.strokeEnd g) else t).send .strokeChange).settled) ∧
    (s.adu.cycle ≠ .boring → s.adu.cycle ≠ .paused →
      ((s.group g).state = .locked ∨ (s.group g).state = .clear →
        exec (.strokePulse g true) s = .next (s.modGroup g fun r => { r with stroke := v })) ∧
      ((s.group g).state = .returning → s.estop = false → s.inForce .claimFreeze = false →
        exec (.strokePulse g true) s =
          .next (s.modGroup g fun r =>
            if r.dwellRef + 2 < v then { r with stroke := v, dwellRef := v, dwell := some (s.item .contactDwell) }
            else { r with stroke := v })) ∧
      ((s.group g).state = .returning → s.estop = true ∨ s.inForce .claimFreeze = true →
        exec (.strokePulse g true) s = .next (s.modGroup g fun r => { r with stroke := v })) ∧
      ((s.group g).state = .hold →
        v ≤ (s.group g).contactCapture + s.item .contactSlack ∨ (s.group g).contact = false →
        exec (.strokePulse g true) s = .next (s.modGroup g fun r => { r with stroke := v })) ∧
      ((s.group g).state = .hold → (s.group g).contact = true → (s.group g).contactCapture + s.item .contactSlack < v →
        exec (.strokePulse g true) s =
          .next (((s.modGroup g fun r => { r with stroke := v, contact := false }).raise (.contactLoss g)).send
            .strokeChange).settled))) ∧
  (∀ (s : State) (g : GroupIx) (pc : Piece), s.calm = true → s.adu.cycle ≠ .boring → s.adu.cycle ≠ .paused →
    s.rbu.queue = [] → (s.group g).state = .retract → 0 < (s.group g).stroke →
    let v := (s.group g).stroke - 1
    let others := (s.piece pc).awaited.filter fun h => h != g
    let t := s.modGroup g fun r => { r with stroke := v, state := .clear }
    (s.item .clearStroke < v → exec (.strokePulse g false) s = .next (s.modGroup g fun r => { r with stroke := v })) ∧
    (v ≤ s.item .clearStroke → (s.group g).owner = some pc → (s.piece pc).state = .retracting →
      exec (.strokePulse g false) s =
        .next (if others = [] then
          (t.modPiece pc fun r =>
            { r with state := .clear, awaited := [], timer := { state := .stopped, kind := .none, left := 0 } }).setEvent
              .pieceClear
        else t.modPiece pc fun r => { r with awaited := others })))

/-- The end of a dwell time puts the group in HOLD, its piece's awaited groups go on and the head of the claim queue is examined
(R15, R21, R25, R86, R90, R81, R77, R78, R84, R16). -/
def Obligations.DwellExpiryMakesContact : Prop :=
  (∀ (s : State) (g : GroupIx) (pc : Piece), s.calm = true → s.rbu.queue = [] →
    let t := s.modGroup g fun r =>
      { r with state := .hold, contactCapture := r.stroke, contact := true, owner := none, dwell := none }
    let others := (s.piece pc).awaited.filter fun h => h != g
    let stopped : PieceTimer := { state := .stopped, kind := .none, left := 0 }
    ((s.group g).state ≠ .returning ∨ (s.group g).dwell = none → exec (.dwellTimeExpiry g) s = .next s) ∧
    ((s.group g).state = .returning → (s.group g).dwell.isSome = true → (s.group g).owner = some pc →
      ((s.piece pc).state = .placed ∨ (s.piece pc).state = .releasing → others ≠ [] →
        exec (.dwellTimeExpiry g) s = .next (t.modPiece pc fun r => { r with awaited := others })) ∧
      ((s.piece pc).state = .placed → others = [] → (∃ q, q ≠ pc ∧ (s.piece q).state ≠ .set) →
        exec (.dwellTimeExpiry g) s =
          .next ((t.modPiece pc fun r => { r with state := .set, awaited := [], timer := stopped }).setEvent .pieceSet)) ∧
      ((s.piece pc).state = .releasing → others = [] →
        exec (.dwellTimeExpiry g) s =
          .next ((t.modPiece pc fun r =>
            { r with state := .pending, claimTime := none, awaited := [], timer := stopped }).setEvent .released)))) ∧
  (∀ (s : State) (g : GroupIx) (pc : Piece), s.calm = true → (s.group g).state = .returning → (s.group g).dwell.isSome = true →
    (s.group g).owner = some pc →
    let t := s.modGroup g fun r =>
      { r with state := .hold, contactCapture := r.stroke, contact := true, owner := none, dwell := none }
    let others := (s.piece pc).awaited.filter fun h => h != g
    let stopped : PieceTimer := { state := .stopped, kind := .none, left := 0 }
    let becomes (r : State) : Prop := ∃ v, exec (.dwellTimeExpiry g) s = .next v ∧ r.examinesTo v
    ((s.piece pc).state = .placed ∨ (s.piece pc).state = .releasing → others ≠ [] →
      becomes (t.modPiece pc fun r => { r with awaited := others })) ∧
    ((s.piece pc).state = .placed → others = [] → (∃ q, q ≠ pc ∧ (s.piece q).state ≠ .set) →
      becomes ((t.modPiece pc fun r => { r with state := .set, awaited := [], timer := stopped }).setEvent .pieceSet)) ∧
    ((s.piece pc).state = .releasing → others = [] →
      becomes ((t.modPiece pc fun r =>
        { r with state := .pending, claimTime := none, awaited := [], timer := stopped }).setEvent .released)))

/-- A revolution pulse is measured; two turning periods in SPINUP start the boring, under ADV_HALT the pause (boring start:
model's choices, log entries 8, 30) (02_the_advance_cycle.md 2.4 to 2.7, 02_the_advance_cycle.md 2.10, R14, R26, R33, R39, R58,
R97, R99, R127, R137, R145). -/
def Obligations.RevolutionPulsesAreMeasured : Prop :=
  (((∀ s : State, s.calm = true → s.adu.cycle ≠ .spinup →
    let period := s.adu.sincePulse.map fun ms => min 32767 (ms / 10)
    let due := s.adu.penetrationValid || s.adu.pulseSincePermit
    let p := s.adu.a - s.adu.advanceAtPulse
    exec .revolutionPulse s =
      .next (s.modAdu fun a =>
        { a with
          lastPeriod := period, sincePulse := some 0, revolutions := min 32767 (a.revolutions + 1)
          penetration := if due then p else a.penetration
          penetrationValid := due
          maxPenetration := if due then max a.maxPenetration p else a.maxPenetration
          pulseSincePermit := true, advanceAtPulse := a.a, stopTimer := some (10 * s.item .turnPeriod)
          cutter := if period.any (fun q => decide (q ≤ s.item .turnPeriod)) then .turning else .slow
          lPen := if due ∧ s.item .penMax < p then 8 * s.item .penMax / p else 8 }).judgeRate) ∧
  (∀ s : State, s.calm = true → s.adu.cycle = .spinup →
    let period := s.adu.sincePulse.map fun ms => min 32767 (ms / 10)
    let turning := period.any fun q => decide (q ≤ s.item .turnPeriod)
    let n := if turning then s.adu.confirmations + 1 else 0
    let u := (s.measurePulse.modAdu fun a => { a with confirmations := n }).judgePen
    (n < 2 → exec .revolutionPulse s = .next u) ∧
    (let t := ({ u with groups := mapIx u.groups fun _ (r : Group) =>
        if r.state = GroupState.hold then { r with state := .push, strokeEndReported := false } else r }.modAdu fun a =>
        { a with cycle := .boring, permitKept := false, spinup := none, thrustPermit := true }).judgeRate
     2 ≤ n → s.haltInForce = false → s.adu.ringStartPending = false → s.rbu.queue = [] →
      (∀ g, (s.group g).stroke < s.item .strokeEnd) → t.quiet = true →
      exec .revolutionPulse s = .next t))) ∧
  (∀ s : State,
    let t := s.startRing
    (∀ g, t.group g = { s.group g with capture := ((s.group g).stroke : Int) }) ∧
    t.adu = { s.adu with
      a := 0, advanceAtPulse := 0, revolutions := 0, maxPenetration := 0, ringStartPending := false
      rateLevel := t.adu.rateLevel } ∧
    (∀ p, (t.line p).carry = (s.deficit p).d ∧ (t.line p).delivered = 0 ∧
      ((t.line p).outThroughout = true ↔ (s.line p).phase = .out) ∧ (t.account p).target = 0 ∧
      ((t.account p).window = true ↔ (s.account p).window = true ∨ s.item (.windowOpen p) = 0) ∧
      (-16383 ≤ (s.deficit p).d → (s.deficit p).d ≤ 16383 → (t.deficit p).d = (s.deficit p).d) ∧
      (s.item (.windowOpen p) = 0 → (s.line p).phase = .idle → s.estop = false → t.inForce (.portHold p) = false →
        0 < s.item .primeVolume →
        (t.line p).phase = .prime ∧ (t.line p).sinceOpen = 0 ∧ (t.line p).setpoint = 1 ∧ (t.line p).valve = true)) ∧
    t.act.aAcc = 0 ∧ t.act.unassigned = 0 ∧ t.act.expected = 0 ∧ t.act.gapRaised = false ∧ t.act.pendingK = none ∧
    (t.act.kv, t.act.km) = s.act.pendingK.getD (s.act.kv, s.act.km) ∧
    t.mku = { s.mku with measured := 0, spill := 0, delayLine := [], judgment := .normal } ∧
    t.fsv.counters = Vector.replicate 12 0 ∧ t.fsv.retryCounts = Vector.replicate 55 0 ∧
    t.mst = { s.mst with maxFace := none }) ∧
  (∀ s : State, s.calm = true → s.adu.cycle = .spinup →
    let turning := (s.adu.sincePulse.map fun ms => min 32767 (ms / 10)).any fun q => decide (q ≤ s.item .turnPeriod)
    let w := s.measurePulse.modAdu fun a => { a with confirmations := s.adu.confirmations + 1, spinup := none }
    turning = true → 1 ≤ s.adu.confirmations → s.haltInForce = false →
      let b := w.enterCycle .boring
      exec .revolutionPulse s =
        .next (((if s.adu.ringStartPending = true then b.startRing else b).jguPush.modAdu fun a =>
          { a with thrustPermit := true }).judgeRate.judgePen).settled)) ∧
  (∀ s : State, s.calm = true → s.adu.cycle = .spinup →
    let period := s.adu.sincePulse.map fun ms => min 32767 (ms / 10)
    let due := s.adu.penetrationValid || s.adu.pulseSincePermit
    let p := s.adu.a - s.adu.advanceAtPulse
    let highest := if due = true then max s.adu.maxPenetration p else s.adu.maxPenetration
    (∃ t ∈ period, t ≤ s.item .turnPeriod) → 1 ≤ s.adu.confirmations →
    s.inForce .advHalt = true → s.inForce .cutHalt = false →
    exec .revolutionPulse s =
      .next (s.modAdu fun a =>
        { a with
          cycle := .paused, permitKept := true, thrustPermit := false, spinup := none, rateLevel := 0
          confirmations := a.confirmations + 1, cutter := .turning
          lastPeriod := period, sincePulse := some 0, revolutions := min 32767 (a.revolutions + 1)
          penetration := if due = true then p else a.penetration
          penetrationValid := due, maxPenetration := highest
          pulseSincePermit := true, advanceAtPulse := a.a, stopTimer := some (10 * s.item .turnPeriod)
          lPen := if due = true ∧ s.item .penMax < p then 8 * s.item .penMax / p else 8 }))

/-- In BORING and PAUSED a stroke report makes the ring advance the mean; RING_TARGET, or a stroke-end report in BORING, ends
the stroke (R37, R38, R39, R40, R53, R54, R7). -/
def Obligations.RingAdvanceIsTheMeanExtension : Prop :=
  
∀ s : State,
    let total : Int := (allGroups.map fun g => ((s.group g).stroke : Int) - (s.group g).capture).sum
    let mean : Nat := min 32767 (max total 0 / 10).toNat
    let moved : State := s.modAdu fun a => { a with a := mean }
    let ended (t : State) (c : StopCause) (e : Event) (a : Nat) : Prop :=
      t.adu.lastStop = c ∧ t.eventSet e = true ∧ t.adu.thrustPermit = false ∧ t.adu.cutterPermit = false ∧
      t.adu.spinup = none ∧ t.adu.cycle = (if s.adu.cutter = .stopped then .standstill else .rundown) ∧
      (s.adu.cutter = .stopped → t.eventSet .standstillReached = true) ∧ (s.act.aAcc ≤ a → t.act.aAcc = a) ∧
      (s.adu.cycle = .boring → ∀ g, (s.group g).state = .push → (t.group g).state = .hold)
    (s.adu.cycle ≠ .boring → s.adu.cycle ≠ .paused → s.take .strokeChange = s) ∧
    (s.adu.cycle = .paused → mean < s.item .ringTarget →
      s.take .strokeChange = s.modAdu fun a => { a with a := mean }) ∧
    (s.adu.cycle = .boring → mean < s.item .ringTarget → mean < s.act.aAcc + s.item .quantum →
      s.take .strokeChange = s.modAdu fun a => { a with a := mean }) ∧
    (s.adu.cycle = .boring ∨ s.adu.cycle = .paused → (s.take .strokeChange).adu.a = mean) ∧
    (s.adu.cycle = .boring → mean < s.item .ringTarget →
      (mean = s.adu.a → s.take .strokeChange = moved) ∧
      (mean ≠ s.adu.a → s.act.aAcc + s.item .quantum ≤ mean → s.take .strokeChange = moved.accrue mean)) ∧
    (s.adu.cycle = .boring ∨ s.adu.cycle = .paused → s.item .ringTarget ≤ mean →
      ended (s.take .strokeChange) .ringStroke .ringStroke mean) ∧
    (∀ g, (s.adu.cycle = .boring → ended (s.take (.strokeEnd g)) .strokeEnd .strokeEnd s.adu.a) ∧
      (s.adu.cycle ≠ .boring → s.take (.strokeEnd g) = s)) ∧
    (∀ g, s.calm = true → (s.group g).state = .hold → (s.group g).stroke < 32767 →
      (s.group g).contact = false ∨ (s.group g).stroke + 1 ≤ (s.group g).contactCapture + s.item .contactSlack →
      exec (.strokePulse g true) s =
        .next ((s.modGroup g fun r => { r with stroke := r.stroke + 1 }).send .strokeChange).settled)


/-- The stop timer's expiry stops the cutterhead and ends RUNDOWN, the spin-up time's fails the start (R32, R40, R33, R47, R48).
-/
def Obligations.CycleTimersRunOut : Prop :=
  (∀ s : State, s.calm = true →
    (s.adu.stopTimer = none → exec .stopTimerExpiry s = .next s) ∧
    (s.adu.stopTimer.isSome = true → s.adu.cycle ≠ .rundown →
      exec .stopTimerExpiry s = .next (s.modAdu fun a => { a with stopTimer := none, cutter := .stopped })) ∧
    (let t := (s.modAdu fun a =>
        { a with
          stopTimer := none, cutter := .stopped, cycle := .standstill, permitKept := false, rateLevel := 0 }).setEvent
        .standstillReached
     s.adu.stopTimer.isSome = true → s.adu.cycle = .rundown → s.adu.a ≤ s.act.aAcc → t.quiet = true →
      exec .stopTimerExpiry s = .next t)) ∧
  (∀ s : State, s.calm = true →
    (s.adu.cycle ≠ .spinup ∨ s.adu.spinup = none → exec .spinupTimeExpiry s = .next s) ∧
    (let t := (s.modAdu fun a =>
        { a with
          spinup := none, cutterPermit := false, lastStop := .spinupFailed, cycle := .standstill, permitKept := false
          rateLevel := 0 }).setEvent .spinupFailed
     s.adu.cycle = .spinup → s.adu.spinup.isSome = true → s.adu.a ≤ s.act.aAcc → t.quiet = true →
      exec .spinupTimeExpiry s = .next t))

/-- The assertion of emergency stop ends every cutting state and forces every output, whatever else it sets going (R13, R49,
R111, R123, R154). -/
def Obligations.EmergencyStopDropsTheCycle : Prop :=
  ∀ s : State, s.resetActive = false → s.estop = false →
    ∃ t, exec .estopAssert s = .next t ∧ t.direct = { s.direct with estop := true } ∧
      (t.adu.cycle = .standstill ∨ t.adu.cycle = .ringBuild) ∧
      t.adu.lastStop = (if s.adu.cycle.underWay then .estop else s.adu.lastStop) ∧
      t.eventSet .estop = true ∧ t.tperm = false ∧ t.lvl = 0 ∧ t.cperm = false ∧ t.bperm = false ∧
      (∀ p, t.gv p = false) ∧ ∀ g, t.valveMode g = .block

/-- Outside the cutting states the stop idles lines, its release starts them (judging L_grout: model's choice, log entry 8; no
edge, no effect: log entry 22) (R13, R22, R49, R88, R111, R123, R154, R99, R47, R112, R124, R81). -/
def Obligations.EmergencyStopAtRestAndItsRelease : Prop :=
  ((∀ s : State, s.calm = true →
    (s.estop = true → exec .estopAssert s = .next s) ∧
    (let t :=
      (({ s with
          estop := true
          groups := mapIx s.groups fun _ (r : Group) => if r.state = GroupState.returning then { r with dwell := none } else r
          gru := { s.gru with lines := mapIx s.gru.lines fun _ l =>
            if l.phase ∈ [Phase.prime, .flow, .limit, .satisfied] then
              { l with phase := .idle, valve := false, setpoint := 0 } else l } }.modRecord fun r =>
        { r with pieces := mapIx r.pieces fun _ (q : PieceRecord) =>
          if q.timer.state = TimerState.running then { q with timer := { q.timer with state := .suspended } } else q }).modMku
            fun k => { k with lMuck := 0 }).setEvent .estop
     s.estop = false → s.adu.cycle = .standstill ∨ s.adu.cycle = .ringBuild → s.mku.beltPermit = false →
      t.judgeGrout.quiet = true → exec .estopAssert s = .next t.judgeGrout)) ∧
  (∀ s : State, s.calm = true →
    (s.estop = false → exec .estopRelease s = .next s) ∧
    (let t :=
      ({ s with
          estop := false
          groups := mapIx s.groups fun _ (r : Group) =>
            if r.state = GroupState.returning then { r with dwellRef := r.stroke, dwell := some (s.item .contactDwell) } else r
          }.modRecord fun r =>
        { r with pieces := mapIx r.pieces fun _ (q : PieceRecord) =>
          if q.timer.state = TimerState.suspended then { q with timer := { q.timer with state := .running } } else q
          }).judgeGrout.judgePermit
     s.estop = true → s.inForce .claimFreeze = false → s.rbu.queue = [] →
      (∀ p, (s.line p).phase = .idle → (s.account p).window = false) → t.quiet = true →
      exec .estopRelease s = .next t))) ∧
  (∀ s : State, s.calm = true →
    let started (q : LineIx) (l : Line) : Line :=
      if l.phase ≠ .idle ∨ (s.account q).window = false then l
      else if s.inForce (.portHold q) = true then { l with phase := .held, valve := false, setpoint := 0 }
      else { l with phase := .prime, valve := true, setpoint := 1, sinceOpen := 0 }
    let t :=
      ({ s with
          estop := false
          groups := mapIx s.groups fun _ (r : Group) =>
            if r.state = GroupState.returning then { r with dwellRef := r.stroke, dwell := some (s.item .contactDwell) } else r
          gru := { s.gru with lines := mapIx s.gru.lines started } }.modRecord fun r =>
        { r with pieces := mapIx r.pieces fun _ (q : PieceRecord) =>
          if q.timer.state = TimerState.suspended then { q with timer := { q.timer with state := .running } } else q
          }).judgeGrout.judgePermit
    s.estop = true → s.inForce .claimFreeze = false → 0 < s.item .primeVolume → t.quiet = true →
      ∃ v, exec .estopRelease s = .next v ∧ t.examinesTo v)

/-- SET LEVEL takes a level of 0 to 8 in every cycle state and refuses one above 8 (R45). -/
def Obligations.SetLevelSetsTheCabinLimiter : Prop :=
  ∀ (s : State) (level : Payload),
    (s.ready .cabin = true → level.toNat ≤ 8 →
      exec (.setLevel level) s =
        .next (((s.attended .cabin).modAdu fun a =>
          { a with
            lCabin := level.toNat
            rateLevel :=
              if a.cycle = .boring ∧ s.estop = false then
                min (min level.toNat s.gru.lGrout) (min s.mku.lMuck a.lPen) else 0 }).answer .cabin 5 .accepted)) ∧
    (s.ready .cabin = true → 8 < level.toNat →
      exec (.setLevel level) s = .next ((s.attended .cabin).answer .cabin 5 (.refusedRange 10))) ∧
    (∃ t, exec .deviceReset s = .next t ∧ t.adu.lCabin = 0) ∧
    ∀ st t, exec (.portReset st) s = .next t → t.adu.lCabin = s.adu.lCabin

/-- ADVANCE START meets Table 2-3 in its order: SPINUP with the cutterhead permit, or the first failing reason (R28, R29, R30,
R31, R46, R47). -/
def Obligations.AdvanceStartEntersSpinup : Prop :=
  ∀ s : State, s.ready .cabin = true →
    let u := s.attended .cabin
    let reason : Nat :=
      if u.adu.cycle ∈ [Cycle.spinup, .boring, .paused, .rundown] then 1
      else if u.adu.cycle = .ringBuild then 5
      else if ∃ g, (u.group g).referenced = false then 2
      else if ∃ g, (u.group g).saturated = true then 3
      else if u.inForce .advHalt = true ∨ u.inForce .cutHalt = true then 6
      else if ∃ st ∈ allStations, (u.port st).present = false then 7
      else if u.estop = true then 8
      else if u.item .ringTarget ≤ u.adu.a ∧ u.adu.ringStartPending = false then 9
      else if ∃ g, u.item .strokeEnd ≤ (u.group g).stroke then 10
      else 0
    let t := u.modAdu fun a =>
      { a with
        cycle := .spinup, permitKept := false, cutterPermit := true, pulseSincePermit := false
        spinup := some (1000 * s.item .spinupTime), confirmations := 0, penetrationValid := false, lPen := 8
        rateLevel := 0 }
    (reason ≠ 0 → exec .advanceStart s = .next (u.answer .cabin 3 (.refusedState reason))) ∧
    (reason = 0 → t.quiet = true → exec .advanceStart s = .next (t.answer .cabin 3 .accepted))

/-- ADVANCE STOP ends a cutting state in RUNDOWN, in STANDSTILL with the cutterhead STOPPED, the rest accrued (order: log
entries 8, 12), or is refused (R41, R40, R14, R15, R47, R48, R53, R54, R56, R25). -/
def Obligations.AdvanceStopRunsDown : Prop :=
  (∀ s : State, s.ready .cabin = true →
    let u := s.attended .cabin
    let stopped := u.modAdu fun a =>
      { a with
        thrustPermit := false, cutterPermit := false, spinup := none, lastStop := .stopRequest, cycle := .rundown
        permitKept := false, rateLevel := 0 }
    let held := { stopped with groups := mapIx u.groups fun _ (r : Group) =>
      if r.state = GroupState.push then
        { r with state := .hold, contactCapture := r.stroke, contact := true, owner := none, dwell := none } else r }
    (u.adu.cycle = .standstill → exec .advanceStop s = .next (u.answer .cabin 4 (.refusedState 1))) ∧
    (u.adu.cycle = .ringBuild → exec .advanceStop s = .next (u.answer .cabin 4 (.refusedState 2))) ∧
    (u.adu.cycle = .rundown → exec .advanceStop s = .next (u.answer .cabin 4 .accepted)) ∧
    (u.adu.cutter ≠ .stopped → u.adu.a ≤ u.act.aAcc → stopped.quiet = true →
      (u.adu.cycle = .spinup ∨ u.adu.cycle = .paused →
        exec .advanceStop s = .next (stopped.answer .cabin 4 .accepted)) ∧
      (u.adu.cycle = .boring → u.rbu.queue = [] → (∀ g, (u.group g).state = .push → (u.group g).owner = none) →
        exec .advanceStop s = .next (held.answer .cabin 4 .accepted)))) ∧
  (∀ s : State, s.ready .cabin = true →
    let u := s.attended .cabin
    let stopped := u.modAdu fun a =>
      { a with
        thrustPermit := false, cutterPermit := false, spinup := none, lastStop := .stopRequest, cycle := .rundown
        permitKept := false, rateLevel := 0 }
    let held := { stopped with groups := mapIx u.groups fun _ (r : Group) =>
      if r.state = GroupState.push then
        { r with state := .hold, contactCapture := r.stroke, contact := true, owner := none, dwell := none } else r }
    let halted := (allGroups.filter fun g => (u.group g).state == .push).map fun g =>
      Notice.groupState g .hold none (u.group g).owner
    let told := { held with notices := halted }
    let flushed (t : State) : State := if u.act.aAcc < u.adu.a then t.accrue u.adu.a else t
    let ended (t : State) : State :=
      if u.adu.cutter = .stopped then ((flushed t).modAdu fun a => { a with cycle := .standstill }).setEvent .standstillReached
      else flushed t
    let boring : Prop := u.adu.cycle = .boring
    stopped.quiet = true → (u.adu.cycle = .spinup ∨ boring ∨ u.adu.cycle = .paused) →
      (let t := ended (if u.adu.cycle = .boring then told else stopped)
       t.unmarked = none → exec .advanceStop s = .next (t.answer .cabin 4 .accepted).settled) ∧
      (let t := ended (if u.adu.cycle = .boring then held else stopped)
       (boring → u.rbu.queue = [] ∧ ∀ g, (u.group g).state = .push → (u.group g).owner = none) →
       t.quiet = true → exec .advanceStop s = .next (t.answer .cabin 4 .accepted)))

/-- RING BEGIN meets Table 2-5 in its order: the record opened and the accounts frozen, or the first failing reason (R42, R43,
R59, R71, R73, R74, R110, R47, R112, R111, R166). -/
def Obligations.RingBeginOpensTheRecord : Prop :=
  ∀ (s : State) (number key : Payload), s.ready .cabin = true →
    let u := s.attended .cabin
    let reply : Reply :=
      if u.adu.cycle ∈ [Cycle.spinup, .boring, .paused, .rundown] then .refusedState 1
      else if u.adu.cycle = .ringBuild then .refusedState 2
      else if u.rbu.record.state = .complete ∧ u.adu.ringStartPending = true then .refusedState 3
      else if ∃ g, (u.group g).state = .locked then .refusedState 4
      else if number.toNat = 0 then .refusedRange 10
      else if ∃ n ∈ u.rbu.lastCompleted, number.toNat ≠ n + 1 then .refusedRange 11
      else if 9 < key.toNat then .refusedRange 12
      else .accepted
    let frozen : Frozen :=
      { boredLength := u.act.aAcc, revolutions := u.adu.revolutions, maxPenetration := u.adu.maxPenetration
        lines := Vector.ofFn fun p =>
          { litres := some (u.whole (u.account p).target, (u.line p).delivered), absent := (u.line p).outThroughout }
        unassigned := u.whole u.act.unassigned, expected := u.whole u.act.expected, measured := u.mku.measured
        maxFace := u.mst.maxFace }
    let record : RingRecord :=
      { state := .building, number := some number.toNat, key := some (Fin.ofNat 10 key.toNat)
        pieces := Vector.ofFn fun i =>
          { state := .pending, groups := pieceGroups (Fin.ofNat 10 key.toNat) ((Piece.ofCode i).getD .k), claimTime := none
            awaited := [], timer := { state := .stopped, kind := .none, left := 0 } }
        frozen := some frozen, buildStart := some s.seconds, buildDuration := none, claimsExpired := 0
        faultCounts := u.fsv.counters }
    let t : State :=
      { u with
        adu := { u.adu with cycle := .ringBuild, permitKept := false, rateLevel := 0 }
        act := { u.act with lines := mapIx u.act.lines fun _ l => { l with window := false } }
        rbu := { u.rbu with queue := [], record := record }
        gru :=
          { lines := mapIx u.gru.lines fun _ l =>
              if l.phase ∈ [Phase.prime, .flow, .limit, .satisfied] then
                { l with phase := .idle, valve := false, setpoint := 0 } else l
            lGrout := 8 } }
    (reply ≠ .accepted → exec (.ringBegin number key) s = .next (u.answer .cabin 6 reply)) ∧
    (reply = .accepted → t.quiet = true →
      exec (.ringBegin number key) s = .next ((t.setEvent .ringOpened).answer .cabin 6 .accepted))

/-- REFERENCE STROKES gives all ten groups their strokes at STANDSTILL, or is refused in order (R8, R9, R15, R25, R159). -/
def Obligations.ReferenceStrokesSetTheStrokes : Prop :=
  (∀ (s : State) (values : List Payload), s.ready .cabin = true → values.length = 10 →
    let u := s.attended .cabin
    (u.adu.cycle ≠ .standstill → exec (.referenceStrokes values) s = .next (u.answer .cabin 2 (.refusedState 1))) ∧
    (u.adu.cycle = .standstill → u.rbu.queue = [] → (∀ v ∈ values, v.toNat ≤ 32000) →
      (∀ g, captureInRange ((u.group g).capture + ((strokesOf values g : Int) - (u.group g).stroke)) = true) →
      (∀ g, (u.group g).state = .locked ∨ (u.group g).state = .hold → (u.group g).owner = none) →
      exec (.referenceStrokes values) s =
        .next (({ u with groups := mapIx u.groups fun (g : GroupIx) (r : Group) =>
          let v := strokesOf values g
          let moved := { r with
            capture := r.capture + ((v : Int) - r.stroke), stroke := v, referenced := true, saturated := false }
          if r.state = GroupState.locked ∨ r.state = GroupState.hold then
            { moved with state := .hold, contactCapture := v, contact := true, owner := none, dwell := none }
          else moved }).answer .cabin 2 .accepted))) ∧
  (∀ (s : State) (values : List Payload) (g : GroupIx), s.ready .cabin = true →
    let u := s.attended .cabin
    (values.length ≠ 10 →
      exec (.referenceStrokes values) s =
        .next ((u.modPort .cabin fun p => p.countError .frame).answer .cabin 2
          { outcome := .frame, reason := 2, skip := 0 })) ∧
    (values.length = 10 → u.adu.cycle = .standstill → 32000 < strokesOf values g →
      (∀ h, h < g → strokesOf values h ≤ 32000) →
      exec (.referenceStrokes values) s = .next (u.answer .cabin 2 (.refusedRange (10 + g)))) ∧
    (values.length = 10 → u.adu.cycle = .standstill → (∀ h, strokesOf values h ≤ 32000) →
      captureInRange ((u.group g).capture + ((strokesOf values g : Int) - (u.group g).stroke)) = false →
      (∀ h, h < g → captureInRange ((u.group h).capture + ((strokesOf values h : Int) - (u.group h).stroke)) = true) →
      exec (.referenceStrokes values) s = .next (u.answer .cabin 2 (.refusedRange (20 + g)))))

/-- CONFIGURE of running items puts the whole resulting set in place in every cycle state (R169, R170, R172, R68, R46, R60). -/
def Obligations.ConfigureRunningItems : Prop :=
  ∀ (s : State) (pairs : List (Payload × Payload)), s.resetActive = false →
    1 ≤ pairs.length → pairs.length ≤ 8 →
    (∀ pr ∈ pairs, ∃ i, pairItem pr = some i ∧ i.running = true ∧ i.admits pr.2.toNat = true) →
    (let cfg := resultingSet s.config pairs
     (∀ i : Item, itemValue cfg i =
        ((pairs.reverse.find? fun pr => pairItem pr == some i).map fun pr => pr.2.toNat).getD (s.item i)) ∧
     (itemValue cfg .ringOd + 20 ≤ itemValue cfg .boreDiameter →
      (∀ p, itemValue cfg (.windowOpen p) < itemValue cfg (.windowClose p)) →
      itemValue cfg .deficitLow + 8 ≤ itemValue cfg .deficitHigh →
      itemValue cfg .faceLow + 10 ≤ itemValue cfg .faceHigh →
      ∃ t, exec (.configure pairs) s = .next t ∧
        t.direct = { ((s.attended .cabin).answer .cabin 1 .accepted).direct with config := cfg }))

/-- CONFIGURE answers the first check that fails, from the form of its pairs to the state of the machine (R169, R170, R171). -/
def Obligations.ConfigureAnswersInOrder : Prop :=
  ∀ (s : State) (pairs : List (Payload × Payload)), s.ready .cabin = true →
    let u := s.attended .cabin
    let cfg := resultingSet u.config pairs
    let names (i : Item) : Prop := ∃ pr ∈ pairs, pairItem pr = some i
    let standstill : Prop := ∃ i, names i ∧ i.running = false
    let refuses (r : Reply) : Prop := exec (.configure pairs) s = .next (u.answer .cabin 1 r)
    let counted : Prop := 1 ≤ pairs.length ∧ pairs.length ≤ 8
    let assigned : Prop := ∀ pr ∈ pairs, ∃ i, pairItem pr = some i
    let inRange : Prop := ∀ pr ∈ pairs, ∀ i, pairItem pr = some i → i.admits pr.2.toNat = true
    let modes : Prop := ∀ pr ∈ pairs, ∀ c, pairItem pr = some (.faultMode c) → c = 3 ∨ c = 11 → pr.2 ≠ 3 ∧ pr.2 ≠ 7
    let form : Prop := counted ∧ assigned ∧ inRange ∧ modes
    let rings : Prop := itemValue cfg .ringOd + 20 ≤ itemValue cfg .boreDiameter
    let windows : Prop := ∀ p, itemValue cfg (.windowOpen p) < itemValue cfg (.windowClose p)
    let deficits : Prop := itemValue cfg .deficitLow + 8 ≤ itemValue cfg .deficitHigh
    let faces : Prop := itemValue cfg .faceLow + 10 ≤ itemValue cfg .faceHigh
    (¬counted → refuses (.refusedRange 10)) ∧
    (counted → ¬assigned → refuses (.refusedRange 11)) ∧
    (counted → assigned → ¬inRange → refuses (.refusedRange 12)) ∧
    (counted → assigned → inRange → ¬modes → refuses (.refusedRange 13)) ∧
    (form → ¬rings → refuses (.refusedRange 14)) ∧
    (form → rings → ¬windows → refuses (.refusedRange 15)) ∧
    (form → rings → windows → ¬deficits → refuses (.refusedRange 16)) ∧
    (form → rings → windows → deficits → ¬faces → refuses (.refusedRange 17)) ∧
    (form → rings → windows → deficits → faces → standstill →
      (u.adu.cycle ∈ [Cycle.spinup, .boring, .paused, .rundown] → refuses (.refusedState 1)) ∧
      (u.adu.cycle ∉ [Cycle.spinup, .boring, .paused, .rundown] → u.rbu.record.state = .building →
        refuses (.refusedState 2)))

/-- An accepted CONFIGURE of one item makes that item's response of Table 10-3; the coefficients, at once or pending (model's
choices: log entries 8, 15, 28) (R51, R52, R172, R64, R113, R128, R138, R149). -/
def Obligations.CoefficientsFollowTheirItems : Prop :=
  (∀ (s : State) (v : Payload), s.ready .cabin = true → 100 ≤ v.toNat → v.toNat ≤ 300 →
    let u := s.attended .cabin
    let w := { u with config := putItem u.config .muckDensity v.toNat }
    u.adu.cycle = .standstill → u.rbu.record.state ≠ .building →
    u.item .ringOd + 20 ≤ u.item .boreDiameter → (∀ p, u.item (.windowOpen p) < u.item (.windowClose p)) →
    u.item .deficitLow + 8 ≤ u.item .deficitHigh → u.item .faceLow + 10 ≤ u.item .faceHigh →
    ∃ kv km : Nat,
      (2 * kv * 10 ^ 7 ≤ 2 * ((u.item .boreDiameter ^ 2 - u.item .ringOd ^ 2) * 51472) + 10 ^ 7 ∧
        2 * ((u.item .boreDiameter ^ 2 - u.item .ringOd ^ 2) * 51472) + 10 ^ 7 < 2 * (kv + 1) * 10 ^ 7) ∧
      (2 * km * 10 ^ 10 ≤ 2 * (u.item .boreDiameter ^ 2 * 51472 * v.toNat) + 10 ^ 10 ∧
        2 * (u.item .boreDiameter ^ 2 * 51472 * v.toNat) + 10 ^ 10 < 2 * (km + 1) * 10 ^ 10) ∧
      exec (.configure [(3, v)]) s =
        .next ((w.modAct fun a =>
          if a.aAcc = 0 then { a with kv := kv, km := km, pendingK := none }
          else { a with pendingK := some (kv, km) }).answer .cabin 1 .accepted)) ∧
  (∀ (s : State) (i : Item) (x : Payload), s.ready .cabin = true →
    let u := s.attended .cabin
    let v := x.toNat
    let w := { u with config := putItem u.config i v }
    let answers (t : State) : Prop :=
      exec (.configure [(BitVec.ofNat 15 i.code, x)]) s = .next (t.answer .cabin 1 .accepted).settled
    u.mayChange i v →
    (v = u.item i → i ∉ [Item.boreDiameter, .ringOd, .muckDensity] → answers u) ∧
    (i ∈ [Item.boreDiameter, .ringOd, .muckDensity] →
      let square (j : Item) : Nat := w.item j ^ 2
      ∃ kv km : Nat,
        (2 * kv * 10 ^ 7 ≤ 2 * ((square .boreDiameter - square .ringOd) * 51472) + 10 ^ 7 ∧
          2 * ((square .boreDiameter - square .ringOd) * 51472) + 10 ^ 7 < 2 * (kv + 1) * 10 ^ 7) ∧
        (2 * km * 10 ^ 10 ≤ 2 * (square .boreDiameter * 51472 * w.item .muckDensity) + 10 ^ 10 ∧
          2 * (square .boreDiameter * 51472 * w.item .muckDensity) + 10 ^ 10 < 2 * (km + 1) * 10 ^ 10) ∧
        answers (w.modAct fun k =>
          if k.aAcc = 0 then { k with kv := kv, km := km, pendingK := none } else { k with pendingK := some (kv, km) })) ∧
    (v ≠ u.item i →
      (i ∈ [Item.quantum, .minContact, .clearStroke, .contactDwell, .contactSlack, .strokeEnd, .ringTarget, .claimWait,
          .retractTime, .returnTime, .flowMax, .pressMax, .pressHyst, .resumeDeficit, .gapLimit, .jumpGrout, .overMargin,
          .underMargin, .judgeMin, .jumpBelt, .retrySlow, .retryFast, .retryLimit, .silenceTime, .torqueLimit, .faceLow,
          .faceHigh, .penMax, .turnPeriod, .spinupTime] ∨ (∃ p, i = .weight p ∨ i = .windowOpen p ∨ i = .windowClose p) →
        answers w) ∧
      (i = .rounding → answers w.judgeDeficits.takeDeficits) ∧
      (i = .flowSpan → answers { w with gru := { w.gru with lines := mapIx w.gru.lines fun p (l : Line) =>
        if l.phase = .flow then { l with setpoint := flowSetpoint (w.deficit p) v } else l } }) ∧
      (i = .deficitLow ∨ i = .deficitHigh → answers w.judgeGrout) ∧
      (i = .primeVolume → answers (allLines.foldl (fun t p =>
        if (t.line p).phase = .prime ∧ v ≤ (t.line p).sinceOpen then t.enterFlow p else t) w)) ∧
      (i = .stallTime → answers { w with gru := { w.gru with lines := mapIx w.gru.lines fun _ (l : Line) =>
        if l.phase = .limit then { l with stallHistory := [], secondCount := 0 } else l } }) ∧
      (i = .carReserve → answers w.testCarDue) ∧ (i = .carOverfill → answers w.judgePermit) ∧
      (i = .muckLag → answers (w.modMku fun k =>
        { k with delayLine := k.delayLine.drop (k.delayLine.length - (v + 1)) })) ∧
      (∀ m, i = .freshLimit m → answers
        (if (u.meas m).state = .fresh ∧ (u.meas m).age.any (fun a => decide (v < a)) = true then w.enterStale m else w)) ∧
      (∀ m : MeasIx, i = .novalPolicy m → (u.meas m).degraded = false →
        let held : Bool := decide ((u.meas m).state = .stale ∧ m.val < 8 ∧ v = 1)
        let t := w.modMeas m fun r => { r with degraded := held }
        (held = true → ∀ p : LineIx, m.val = 2 + p.val →
          answers (t.modLine p fun l => { l with pressureWithheld := true })) ∧
        (held = false ∨ m.val < 2 ∨ 8 ≤ m.val → answers t)) ∧
      (∀ c : Fin 12, i = .faultMode c →
        (3 ≤ v ∨ (∀ e ∈ u.fsv.entries, e.key.cls = c → e.state ≠ .reported) → answers w) ∧
        ∀ e, v < 3 → (u.fsv.entries.filter fun x => x.key.cls == c) = [e] → e.state = .reported →
          answers (w.reviseReported e.key)))) ∧
  (∀ (s : State) (key : FaultKey) (e : FaultEntry), s.fsv.find key = some e → e.state = .reported →
    let mode := s.item (.faultMode key.cls)
    let t := s.reviseReported key
    mode < 3 →
    t.fsv.find key = some { e with
      mode := mode, ring := s.rbu.record.number.getD 0, aAcc := s.act.aAcc, time := s.seconds
      state := if mode = 2 ∨ s.item .retryLimit ≤ s.fsv.retryCount key then .latched else .active } ∧
    t.fsv.counters = modAt s.fsv.counters key.cls (fun n => min 32767 (n + 1)) ∧ t.eventSet .faultRaised = true ∧
    (t.fsv.entries.filter fun x => x.key != key) = (s.fsv.entries.filter fun x => x.key != key))

/-- A claim is refused by Table 4-5, granted where every grant condition holds, its cleared groups arriving (log entry 10), else
queued or QUEUE_FULL (R77, R78, R79, R80, R81, R16, R75, R76, R84, R25). -/
def Obligations.ClaimsAreRefusedGrantedOrQueued : Prop :=
  ((∀ (s : State) (pc : Piece) (code : Payload), s.ready .erector = true → code.toNat = pc.idx.val →
    let u := s.attended .erector
    let r := u.piece pc
    let lent (g : GroupIx) : Bool := [GroupState.retract, .clear, .returning].contains (u.group g).state
    let reason : Nat :=
      if ∃ g ∈ r.groups, lent g = true then 21
      else if 10 < (allGroups.filter lent).length + (r.groups.filter fun g => (u.group g).state == .hold).length
          + u.item .minContact then 22
      else if u.inForce .claimFreeze = true then 23
      else if u.estop = true then 24
      else if u.rbu.queue ≠ [] then 25
      else 0
    u.rbu.record.state = .building → r.state = .pending →
    (pc ≠ .k → (∀ q, q ≠ .k → (u.piece q).state = .pending) ∨ ∃ q ∈ pc.neighbours, (u.piece q).state ≠ .pending) →
    (pc = .k → ∀ q, q ≠ .k → (u.piece q).state = .set) →
    (reason ≠ 0 → u.rbu.queue.length < 3 →
      exec (.claimPiece code) s =
        .next (((u.modPiece pc fun r => { r with state := .queued, claimTime := some s.seconds }).modRbu fun b =>
          { b with queue := b.queue ++ [{ piece := pc, wait := 1000 * s.item .claimWait }] }).answer .erector 16
            { outcome := .queued, reason := reason, skip := 0 })) ∧
    (reason ≠ 0 → 3 ≤ u.rbu.queue.length →
      exec (.claimPiece code) s = .next (u.answer .erector 16 { outcome := .queueFull, reason := reason, skip := 0 })) ∧
    (reason = 0 → r.claimTime = none →
      (∀ g ∈ r.groups, (u.group g).state ∈ [GroupState.hold, .push] ∧ u.item .clearStroke < (u.group g).stroke) →
      exec (.claimPiece code) s =
        .next (({ u with groups := mapIx u.groups fun g q =>
            if g ∈ r.groups then { q with state := .retract, owner := some pc, contact := false } else q }.modPiece pc
          fun r =>
            { r with
              state := .retracting, claimTime := some s.seconds, awaited := r.groups
              timer := { state := .running, kind := .retract, left := 1000 * s.item .retractTime } }).setEvent
          .claimGranted |>.answer .erector 16 .accepted))) ∧
  (∀ (s : State) (code : Payload), s.ready .erector = true →
    let u := s.attended .erector
    let refuses (r : Reply) : Prop := exec (.claimPiece code) s = .next (u.answer .erector 16 r)
    (u.rbu.record.state ≠ .building → refuses (.refusedState 1)) ∧
    (u.rbu.record.state = .building → 6 < code.toNat → refuses (.refusedRange 10)) ∧
    (∀ pc : Piece, u.rbu.record.state = .building → code.toNat = pc.idx.val →
      ((u.piece pc).state ≠ .pending → refuses (.refusedState 2)) ∧
      ((u.piece pc).state = .pending → pc ≠ .k → (∃ q, q ≠ .k ∧ (u.piece q).state ≠ .pending) →
        (∀ q ∈ pc.neighbours, (u.piece q).state = .pending) → refuses (.refusedState 3)) ∧
      ((u.piece pc).state = .pending → pc = .k → (∃ q, q ≠ .k ∧ (u.piece q).state ≠ .set) →
        refuses (.refusedState 4))))) ∧
  (∀ (s : State) (pc : Piece) (code : Payload), s.ready .erector = true → code.toNat = pc.idx.val →
    let u := s.attended .erector
    let r := u.piece pc
    u.rbu.record.state = .building → r.state = .pending →
    (pc ≠ .k → (∀ q, q ≠ .k → (u.piece q).state = .pending) ∨ ∃ q ∈ pc.neighbours, (u.piece q).state ≠ .pending) →
    (pc = .k → ∀ q, q ≠ .k → (u.piece q).state = .set) →
    u.claimable pc → u.rbu.queue = [] → u.bearing pc →
    exec (.claimPiece code) s = .next ((u.granted pc).answer .erector 16 .accepted) ∧
    ((∀ g ∈ r.groups, (u.group g).stroke ≤ u.item .clearStroke) → r.claimTime = none →
      exec (.claimPiece code) s =
        .next ((({ u with groups := mapIx u.groups fun g q =>
            if g ∈ r.groups then { q with state := .clear, owner := some pc, contact := false } else q }.modPiece pc
          fun r =>
            { r with
              state := .clear, claimTime := some s.seconds, awaited := []
              timer := { state := .stopped, kind := .none, left := 0 } }).setEvent .claimGranted).setEvent .pieceClear
          |>.answer .erector 16 .accepted)))

/-- PIECE PLACED and WITHDRAW PIECE send a piece's groups back, or are refused by the piece's state (R85, R89, R19, R82, R22,
R88, R81, R77, R78, R16, R84). -/
def Obligations.PiecesAreSentBack : Prop :=
  (∀ (s : State) (pc : Piece) (code : Payload), s.ready .erector = true → code.toNat = pc.idx.val →
    let u := s.attended .erector
    let sent (st : PieceState) : State :=
      { u with groups := mapIx u.groups fun g q =>
        if g ∈ (u.piece pc).groups ∧ q.state ∈ [GroupState.retract, .clear] then
          { q with state := .returning, dwellRef := q.stroke, dwell := some (s.item .contactDwell) } else q }.modPiece pc
        fun r =>
          { r with
            state := st, awaited := r.groups
            timer := { state := .running, kind := .returning, left := 1000 * s.item .returnTime } }
    let refuses (i : Instr) (c n : Nat) : Prop := exec i s = .next (u.answer .erector c (.refusedState n))
    u.rbu.record.state = .building →
    (u.rbu.queue = [] → u.estop = false → u.inForce .claimFreeze = false →
      ((u.piece pc).state = .clear →
        exec (.piecePlaced code) s = .next ((sent .placed).answer .erector 18 .accepted)) ∧
      ((u.piece pc).state = .retracting ∨ (u.piece pc).state = .clear →
        exec (.withdrawPiece code) s = .next ((sent .releasing).answer .erector 17 .accepted))) ∧
    ((u.piece pc).state = .queued → u.rbu.queue.head?.map QueueEntry.piece ≠ some pc →
      exec (.withdrawPiece code) s =
        .next (((u.modRbu fun b => { b with queue := b.queue.filter fun e => e.piece != pc }).modPiece pc fun r =>
          { r with
            state := .pending, claimTime := none, awaited := []
            timer := { state := .stopped, kind := .none, left := 0 } }).answer .erector 17 .accepted)) ∧
    ((u.piece pc).state ≠ .clear → refuses (.piecePlaced code) 18 2) ∧
    ((u.piece pc).state = .pending → refuses (.withdrawPiece code) 17 2) ∧
    ((u.piece pc).state = .placed ∨ (u.piece pc).state = .set → refuses (.withdrawPiece code) 17 3) ∧
    ((u.piece pc).state = .releasing → refuses (.withdrawPiece code) 17 4)) ∧
  (∀ (s : State) (code : Payload), s.ready .erector = true →
    let u := s.attended .erector
    let refused (r : Reply) : Prop :=
      exec (.piecePlaced code) s = .next (u.answer .erector 18 r) ∧
      exec (.withdrawPiece code) s = .next (u.answer .erector 17 r)
    (u.rbu.record.state ≠ .building → refused (.refusedState 1)) ∧
    (u.rbu.record.state = .building → 6 < code.toNat → refused (.refusedRange 10))) ∧
  (∀ (s : State) (pc : Piece) (code : Payload), s.ready .erector = true → code.toNat = pc.idx.val →
    let u := s.attended .erector
    let forced (st : PieceState) : State :=
      { u with groups := mapIx u.groups fun g q =>
        if g ∈ (u.piece pc).groups ∧ q.state ∈ [GroupState.retract, .clear] then
          { q with state := .returning, dwellRef := q.stroke, dwell := none } else q }.modPiece pc
        fun r =>
          { r with
            state := st, awaited := r.groups
            timer := { state := .suspended, kind := .returning, left := 1000 * s.item .returnTime } }
    let taken : State := (u.modRbu fun b => { b with queue := b.queue.filter fun e => e.piece != pc }).modPiece pc fun r =>
      { r with
        state := .pending, claimTime := none, awaited := []
        timer := { state := .stopped, kind := .none, left := 0 } }
    u.rbu.record.state = .building →
    (u.estop = true ∨ u.inForce .claimFreeze = true →
      ((u.piece pc).state = .clear →
        exec (.piecePlaced code) s = .next ((forced .placed).answer .erector 18 .accepted)) ∧
      ((u.piece pc).state = .retracting ∨ (u.piece pc).state = .clear →
        exec (.withdrawPiece code) s = .next ((forced .releasing).answer .erector 17 .accepted))) ∧
    ((u.piece pc).state = .queued → u.rbu.queue.head?.map QueueEntry.piece = some pc →
      ∃ v, exec (.withdrawPiece code) s = .next v ∧ (taken.answer .erector 17 .accepted).examinesTo v))

/-- The last group's arrival in HOLD sets the last piece and completes the ring (R86, R91, R92, R44). -/
def Obligations.LastArrivalCompletesTheRing : Prop :=
  ∀ (s : State) (g : GroupIx) (pc : Piece) (began : Nat), s.rbu.queue = [] → (s.piece pc).state = .placed →
    (s.piece pc).awaited = [g] → (∀ q, q ≠ pc → (s.piece q).state = .set) → s.adu.cycle = .ringBuild →
    s.adu.a ≤ s.act.aAcc → s.rbu.record.buildStart = some began → began < 2 ^ 30 → s.seconds < 2 ^ 30 →
    let t := s.take (.groupState g .hold none (some pc))
    t.rbu.record.state = .complete ∧ (∀ q, (t.piece q).state = .set) ∧ (t.piece pc).awaited = [] ∧
      t.rbu.record.buildDuration = some (if began ≤ s.seconds then s.seconds - began else s.seconds + 2 ^ 30 - began) ∧
      t.rbu.record.faultCounts = s.fsv.counters ∧ t.rbu.lastCompleted = s.rbu.record.number ∧
      t.rbu.history.length = min 8 (s.rbu.history.length + 1) ∧ t.rbu.history.tail = s.rbu.history.take 7 ∧
      (t.rbu.history.head?.map fun e => (e.number, e.key, e.buildStart, e.claimsExpired, e.faultCounts)) =
        some (s.rbu.record.number, s.rbu.record.key, some began, s.rbu.record.claimsExpired, s.fsv.counters) ∧
      t.eventSet .pieceSet = true ∧ t.eventSet .ringComplete = true ∧ t.adu.ringStartPending = true ∧
      t.adu.cycle = .standstill ∧ t.groups = s.groups ∧ t.gru = s.gru ∧ t.act = s.act ∧ t.mku = s.mku ∧
      (s.unmarked = none →
        t.fsv.counters = s.fsv.counters ∧ ((s.port .erector).present = true → t.fsv = s.fsv))

/-- LINE SUSPEND puts a line OUT and LINE RESUME starts it again, or they are refused by its phase (R108, R112, R109, R99, R98,
R47). -/
def Obligations.LinesAreSuspendedAndResumed : Prop :=
  (∀ (s : State) (line : Payload), s.ready .grout = true →
    let u := s.attended .grout
    (5 < line.toNat → exec (.lineSuspend line) s = .next (u.answer .grout 24 (.refusedRange 10))) ∧
    ∀ p : LineIx, line.toNat = p.val →
      let t := (u.modLine p fun l => { l with phase := .out, valve := false, setpoint := 0 }).judgeGrout
      ((u.line p).phase = .blocked → exec (.lineSuspend line) s = .next (u.answer .grout 24 (.refusedState 1))) ∧
      ((u.line p).phase = .out → exec (.lineSuspend line) s = .next (u.answer .grout 24 (.refusedState 3))) ∧
      ((u.line p).phase ≠ .blocked → (u.line p).phase ≠ .out → t.quiet = true →
        exec (.lineSuspend line) s = .next (t.answer .grout 24 .accepted))) ∧
  (∀ (s : State) (line : Payload), s.ready .grout = true →
    let u := s.attended .grout
    (5 < line.toNat → exec (.lineResume line) s = .next (u.answer .grout 25 (.refusedRange 10))) ∧
    ∀ p : LineIx, line.toNat = p.val →
      let started (f : Line → Line) : State := (u.modLine p fun l => f { l with outThroughout := false }).judgeGrout
      let shut (ph : Phase) : Line → Line := fun l => { l with phase := ph, valve := false, setpoint := 0 }
      let accepts (t : State) : Prop :=
        t.quiet = true → exec (.lineResume line) s = .next (t.answer .grout 25 .accepted)
      ((u.line p).phase ≠ .out → exec (.lineResume line) s = .next (u.answer .grout 25 (.refusedState 2))) ∧
      ((u.line p).phase = .out →
        (u.inForce (.portHold p) = true → accepts (started (shut .held))) ∧
        (u.inForce (.portHold p) = false → (u.account p).window = false ∨ u.estop = true →
          accepts (started (shut .idle))) ∧
        (u.inForce (.portHold p) = false → (u.account p).window = true → u.estop = false → 0 < u.item .primeVolume →
          accepts (started fun l => { l with phase := .prime, valve := true, setpoint := 1, sinceOpen := 0 }))))

/-- TRAIN IN and CAR SHIFT bring cars under the belt, or are refused in order; the belt counter fills the FILLING one up to its
limits (R119, R120, R123, R124, R121, R116, R117, R47, R122). -/
def Obligations.TrainsComeInAndMoveOn : Prop :=
  ((∀ (s : State) (cars capacity : Payload), s.ready .muck = true →
    let u := s.attended .muck
    let permit := !u.inForce .beltHalt && !u.estop
    let t := (u.modMku fun k =>
      { k with
        cars := { state := .filling, fill := 0, dueReported := false }
          :: List.replicate (cars.toNat - 1) { state := .empty, fill := 0, dueReported := false }
        capacity := some capacity.toNat, beltPermit := permit, lMuck := if permit then 8 else 0 }).judgeRate
    let fits : Prop := 500 ≤ capacity.toNat ∧ capacity.toNat ≤ 4000
    let counted : Prop := 1 ≤ cars.toNat ∧ cars.toNat ≤ 12
    (u.mku.cars ≠ [] → exec (.trainIn cars capacity) s = .next (u.answer .muck 32 (.refusedState 1))) ∧
    (u.mku.cars = [] → ¬counted → exec (.trainIn cars capacity) s = .next (u.answer .muck 32 (.refusedRange 10))) ∧
    (u.mku.cars = [] → counted → ¬fits →
      exec (.trainIn cars capacity) s = .next (u.answer .muck 32 (.refusedRange 11))) ∧
    (u.mku.cars = [] → counted → fits → u.item .carReserve < capacity.toNat → u.mku.beltPermit = false →
      t.quiet = true → exec (.trainIn cars capacity) s = .next (t.answer .muck 32 .accepted))) ∧
  (∀ (s : State) (full more : List Car) (c d : Car), s.ready .muck = true →
    let u := s.attended .muck
    (u.mku.cars = [] → exec .carShift s = .next (u.answer .muck 33 (.refusedState 1))) ∧
    (u.mku.cars ≠ [] → (∀ x ∈ u.mku.cars, x.state = .full) →
      exec .carShift s = .next (u.answer .muck 33 (.refusedState 2))) ∧
    ((∀ x ∈ full, x.state = .full) → c.state = .filling →
      (let t := ((u.modMku fun k => { k with cars := full ++ [{ c with state := .full }] }).setEvent
          .trainFull).judgePermit
       u.mku.cars = full ++ [c] → t.quiet = true → exec .carShift s = .next (t.answer .muck 33 .accepted)) ∧
      (let t := (u.modMku fun k =>
          { k with cars := full ++ { c with state := .full } :: { d with state := .filling } :: more }).judgePermit
       u.mku.cars = full ++ c :: d :: more → d.state = .empty → d.fill = 0 →
       (∀ cap, u.mku.capacity = some cap → u.item .carReserve < cap) → t.quiet = true →
        exec .carShift s = .next (t.answer .muck 33 .accepted))))) ∧
  (∀ (s : State) (value : Payload), s.ready .muck = true → (s.attended .muck).mku.counterValid = true →
    (s.attended .muck).mku.lastCounter ≤ 32767 →
    let last := (s.attended .muck).mku.lastCounter
    let v := value.toNat
    let inc := if last ≤ v then v - last else v + 32768 - last
    let u := ((s.attended .muck).modMeas 14 fun _ =>
      { state := .fresh, value := some v, age := some 0, clamped := false, lastValid := some v, hasBeenValid := true
        degraded := false }).modMku fun k => { k with lastCounter := v }
    let answers (t : State) : Prop :=
      exec (.measure .muck [(14, value)]) s = .next ((t.settled).answer .muck 40 .accepted).settled
    (inc = 0 → answers u) ∧ (s.item .jumpBelt < inc → answers (u.raise (.measJump 6))) ∧
    (0 < inc → inc ≤ s.item .jumpBelt → answers (u.countMuck inc))) ∧
  (∀ (s : State) (full more : List Car) (c : Car) (cap n : Nat), s.mku.cars = full ++ c :: more →
    (∀ x ∈ full, x.state ≠ .filling) → c.state = .filling → (∀ x ∈ more, x.state ≠ .filling) →
    s.mku.capacity = some cap →
    let fill := min 32767 (c.fill + n)
    let due : Bool := !c.dueReported && decide (cap ≤ fill + s.item .carReserve)
    let counted := s.modMku fun k =>
      { k with
        measured := min (2 ^ 30 - 1) (k.measured + n)
        cars := full ++ { c with fill := fill, dueReported := c.dueReported || due } :: more }
    let t := s.countMuck n
    let permit : Bool := decide (fill < cap + s.item .carOverfill) && !s.inForce .beltHalt && !s.estop
    t = (if due then counted.setEvent .carDue else counted).judgePermit ∧
    t.mku = { counted.mku with beltPermit := permit, lMuck := if permit then 8 else 0 } ∧
    (due = true → t.eventSet .carDue = true) ∧
    (s.mku.beltPermit = true → permit = false → t.eventSet .beltStop = true))

/-- TRAIN OUT is accepted in every state, empties the list and sends later increments to spill (R122). -/
def Obligations.TrainOutEmptiesTheCarList : Prop :=
  ∀ s : State,
    (s.resetActive = false →
      ∃ t, exec .trainOut s = .next t ∧ t.mku.cars = [] ∧ t.mku.capacity = none ∧ t.mku.beltPermit = false ∧
        t.mku.lMuck = 0 ∧ (t.port .muck).slot.request = 34 ∧ (t.port .muck).slot.outcome = .accepted) ∧
    (let u := s.attended .muck
     let t := (u.modMku fun k => { k with cars := [], capacity := none, beltPermit := false, lMuck := 0 }).judgeRate
     let t := if u.mku.beltPermit = true then t.setEvent .beltStop else t
     s.ready .muck = true → t.quiet = true → exec .trainOut s = .next (t.answer .muck 34 .accepted)) ∧
    ∀ n, s.mku.cars = [] →
      s.countMuck n = s.modMku fun k =>
        { k with measured := min (2 ^ 30 - 1) (k.measured + n), spill := min 32767 (k.spill + n) }

/-- MEASURE takes its own pairs in order, each FRESH with the clamped value and passed on, skips the others and refuses a bad
count (R130, R131, R116, R95). -/
def Obligations.MeasureTakesItsOwnPairs : Prop :=
  ((∀ (s : State) (st : Station) (m : MeasIx) (number value : Payload), s.resetActive = false → number.toNat = m.val →
    stationOfMeas m = st →
    let v := min value.toNat (rangeTop m)
    let u := (s.attended st).modMeas m fun _ =>
      { state := .fresh, value := some v, age := some 0, clamped := decide (m.val < 8 ∧ rangeTop m < value.toNat)
        lastValid := some v, hasBeenValid := true, degraded := false }
    let w : State :=
      if m = 14 then u.modMku fun k => { k with lastCounter := v, counterValid := true }
      else if h : 8 ≤ m.val ∧ m.val < 14 then
        u.modLine ⟨m.val - 8, by omega⟩ fun l => { l with lastCounter := v, counterValid := true }
      else u
    ∃ t, exec (.measure st [(number, value)]) s = .next t ∧
      t.direct = { (w.answer st 40 .accepted).direct with cars := t.mku.cars } ∧
      (m ≠ 14 → t.mku.cars = s.mku.cars)) ∧
  (∀ (s : State) (st : Station) (number value : Payload) (pairs : List (Payload × Payload)), s.ready st = true →
    let u := s.attended st
    (14 < number.toNat →
      exec (.measure st [(number, value)]) s =
        .next (u.answer st 40 { outcome := .partialTaken, reason := 21, skip := 1 })) ∧
    (∀ m : MeasIx, number.toNat = m.val → stationOfMeas m ≠ st →
      exec (.measure st [(number, value)]) s =
        .next (u.answer st 40 { outcome := .partialTaken, reason := 20, skip := 1 })) ∧
    (pairs.length = 0 ∨ 8 < pairs.length → exec (.measure st pairs) s = .next (u.answer st 40 (.refusedRange 10))))) ∧
  (∀ (s : State) (st : Station) (pairs : List (Payload × Payload)), s.resetActive = false → 1 ≤ pairs.length →
    pairs.length ≤ 8 →
    let skip (pr : Payload × Payload) : Option Nat :=
      match measOf pr.1.toNat with
      | none => some 21
      | some m => if stationOfMeas m = st then none else some 20
    let skips := pairs.filterMap skip
    let reply : Reply :=
      match skips with
      | [] => .accepted
      | r :: _ => { outcome := .partialTaken, reason := r, skip := skips.length }
    let take (u : State) (pr : Payload × Payload) : State :=
      match measOf pr.1.toNat with
      | none => u
      | some m => if stationOfMeas m = st then (u.takeReport m pr.2.toNat).settled else u
    exec (.measure st pairs) s =
      .next ((pairs.foldl take (s.attended st).settled).answer st 40 reply).settled ∧
    ∃ t, exec (.measure st pairs) s = .next t ∧
      (t.port st).slot =
        { request := 40, outcome := reply.outcome, reason := reply.reason, skip := reply.skip, shown := false } ∧
      ∀ m : MeasIx, t.meas m =
        match pairs.reverse.find? fun pr => decide (pr.1.toNat = m.val) && decide (stationOfMeas m = st) with
        | none => s.meas m
        | some pr =>
          let v := min pr.2.toNat (rangeTop m)
          { state := .fresh, value := some v, age := some 0, clamped := decide (m.val < 8 ∧ rangeTop m < pr.2.toNat)
            lastValid := some v, hasBeenValid := true, degraded := false }) ∧
  (∀ (s : State) (m : MeasIx) (x : Nat),
    let v := min x (rangeTop m)
    let r := s.modMeas m fun _ =>
      { state := .fresh, value := some v, age := some 0, clamped := decide (m.val < 8 ∧ rangeTop m < x)
        lastValid := some v, hasBeenValid := true, degraded := false }
    (m = 0 → s.takeReport m x = { r with mst := { r.mst with maxFace := some (max v (s.mst.maxFace.getD 0)) } }) ∧
    (m = 1 → s.takeReport m x = r) ∧
    (∀ p : LineIx, m.val = 2 + p.val → s.takeReport m x = r.takePressure p) ∧
    (∀ p : LineIx, m.val = 8 + p.val → s.takeReport m x = r.takeLineCounter p v) ∧
    (m = 14 → s.takeReport m x = r.takeBeltCounter v))

/-- A line counter re-bases, counts modulo 32,768 or jumps, and a delivery judges the line (model's choices: log entries 6, 9,
26) (R95, R96, R65, R131, R100, R101, R102, R104, R112, R113). -/
def Obligations.LineCountersAreMetered : Prop :=
  ((∀ (s : State) (p : LineIx) (v n : Nat), v ≤ 32767 → (s.line p).lastCounter ≤ 32767 →
    let last := (s.line p).lastCounter
    let inc := if last ≤ v then v - last else v + 32768 - last
    let t := s.modLine p fun l => { l with lastCounter := v, counterValid := true }
    ((s.line p).counterValid = false → s.takeLineCounter p v = t) ∧
    ((s.line p).counterValid = true →
      (v = last → s.takeLineCounter p v = t) ∧
      (v ≠ last → s.item .jumpGrout < inc → s.takeLineCounter p v = t.raise (.measJump ⟨p.val, by omega⟩)) ∧
      (v ≠ last → inc ≤ s.item .jumpGrout → s.takeLineCounter p v = t.deliver p inc)) ∧
    ((s.line p).phase ∈ [Phase.idle, .blocked, .held, .out, .limit] →
      s.deliver p n =
        ((s.modLine p fun l =>
          { l with
            delivered := min (2 ^ 30 - 1) (l.delivered + n), sinceOpen := min 32767 (l.sinceOpen + n)
            secondCount := if l.phase = .limit then min 32767 (l.secondCount + n) else l.secondCount
            resumeDeficit := s.item .resumeDeficit }).judgeDeficit
          p).judgeGrout)) ∧
  (∀ (s : State) (p : LineIx) (number value : Payload), s.ready .grout = true → number.toNat = 8 + p.val →
    let u := (s.attended .grout).modMeas ⟨8 + p.val, by omega⟩ fun _ =>
      { state := .fresh, value := some value.toNat, age := some 0, clamped := false, lastValid := some value.toNat
        hasBeenValid := true, degraded := false }
    exec (.measure .grout [(number, value)]) s =
      .next (((u.takeLineCounter p value.toNat).settled).answer .grout 40 .accepted).settled)) ∧
  (∀ (s : State) (p : LineIx) (n : Nat),
    let l := s.line p
    let w : State := (s.modLine p fun l =>
      { l with
        delivered := min (2 ^ 30 - 1) (l.delivered + n), sinceOpen := min 32767 (l.sinceOpen + n)
        secondCount := if l.phase = .limit then min 32767 (l.secondCount + n) else l.secondCount
        resumeDeficit := s.item .resumeDeficit }).judgeDeficit p
    let d := w.deficit p
    let span := s.item .flowSpan
    let level : Nat := if d.z = true ∨ d.n = true then 0 else min 8 ((8 * d.d.toNat + span - 1) / span)
    let flowing : State := w.modLine p fun r => { r with phase := .flow, valve := !s.estop, setpoint := level }
    let satisfied : State := w.modLine p fun r => { r with phase := .satisfied, valve := false, setpoint := 0 }
    let limited : State := w.modLine p fun r =>
      { r with phase := .limit, valve := !s.estop, setpoint := level, stallHistory := [], secondCount := 0 }
    let supplied := s.supply ⟨2 + p.val, by omega⟩
    let high : Prop := l.pressureWithheld = false ∧ ∃ v ∈ supplied, l.pressMax ≤ v
    let owed : Prop := d.n = true ∧ d.d ≤ -(s.item .resumeDeficit : Int)
    let resumes : Prop := (s.item .resumeDeficit : Int) ≤ d.d ∧ (s.account p).window = true ∧ l.pressureWithheld = false ∧
      ∃ v ∈ supplied, l.pressHyst < l.pressMax ∧ v + l.pressHyst ≤ l.pressMax
    s.deliver p n = ((w.testPrimed p).takeDeficit p).judgeGrout ∧
    (l.phase = .flow → ¬owed →
      s.deliver p n = (w.modLine p fun r => { r with setpoint := level }).judgeGrout) ∧
    (l.phase = .flow → owed → satisfied.unmarked = none →
      s.deliver p n = (satisfied.setEvent .lineSatisfied).judgeGrout) ∧
    (l.phase = .prime → (w.line p).sinceOpen < s.item .primeVolume → s.deliver p n = w.judgeGrout) ∧
    (l.phase = .prime → s.item .primeVolume ≤ (w.line p).sinceOpen → flowing.unmarked = none →
      (¬high → ¬owed → s.deliver p n = flowing.judgeGrout) ∧
      (¬high → owed → satisfied.unmarked = none → s.deliver p n = (satisfied.setEvent .lineSatisfied).judgeGrout) ∧
      (high → s.deliver p n = limited.judgeGrout)) ∧
    (l.phase = .satisfied → 0 < l.pressHyst → flowing.unmarked = none →
      (resumes → s.deliver p n = flowing.judgeGrout) ∧ (¬resumes → s.deliver p n = w.judgeGrout)))

/-- A judgment of a line's deficit publishes the saturated sum and the four flags, and touches nothing else (R63, R65, R66). -/
def Obligations.DeficitsAndFlagsArePublished : Prop :=
  ∀ (s : State) (p : LineIx),
    let x := (s.account p).target
    let whole := if s.item .rounding = 1 then x / 65536 + (if 32768 ≤ x % 65536 then 1 else 0) else x / 65536
    let sum : Int := whole + (s.line p).carry - (s.line p).delivered
    let d : Deficit := ((s.judgeDeficit p).account p).deficit
    (-16383 ≤ sum → sum ≤ 16383 → d.d = sum) ∧ (16383 < sum → d.d = 16383) ∧ (sum < -16383 → d.d = -16383) ∧
      (d.z = true ↔ d.d = 0) ∧ (d.n = true ↔ d.d < 0) ∧ (d.v = true ↔ sum < -16383 ∨ 16383 < sum) ∧
      (d.c = true ↔ s.item .rounding = 1 ∧ 32768 ≤ x % 65536) ∧
      s.judgeDeficit p = s.modAccount p fun l => { l with deficit := d }

/-- An accrual moves the windows, places the whole volume by weight or in U, and publishes six deficits, then notices (order of
the rest: log entry 8) (R56, R57, R60, R61, R63, R65, R66, R101, R104, R112). -/
def Obligations.AccrualsPlaceTheWholeVolume : Prop :=
  ((∀ (s : State) (new : Nat), s.act.aAcc ≤ new →
    let t := s.accrueSteps new
    let v := (new - s.act.aAcc) * s.act.kv
    let member (p : LineIx) : Bool :=
      (t.account p).window && decide (0 < s.item (.weight p)) && (s.line p).phase != .out
    let total := ((allLines.filter member).map fun p => s.item (.weight p)).sum
    (∀ p, (t.account p).window = true ↔
      ¬(s.act.aAcc < s.item (.windowClose p) ∧ s.item (.windowClose p) ≤ new) ∧
      ((s.account p).window = true ∨ (s.act.aAcc < s.item (.windowOpen p) ∧ s.item (.windowOpen p) ≤ new))) ∧
    t.act.aAcc = new ∧ t.act.expected = s.act.expected + (new - s.act.aAcc) * s.act.km ∧
    (∀ p, member p = false → (t.account p).target = (s.account p).target) ∧
    (∀ p, member p = true → (s.account p).target + v * s.item (.weight p) / total ≤ (t.account p).target) ∧
    (allLines.map fun p => (t.account p).target).sum + t.act.unassigned =
      (allLines.map fun p => (s.account p).target).sum + s.act.unassigned + v ∧
    (t.act.unassigned = if total = 0 then s.act.unassigned + v else s.act.unassigned) ∧
    t.gru = s.gru ∧ t.groups = s.groups ∧ t.fsv = s.fsv) ∧
  (∀ (s : State) (new : Nat), s.act.aAcc ≤ new →
    let t := s.accrueSteps new
    let v := (new - s.act.aAcc) * s.act.kv
    let weight (p : LineIx) : Nat := s.item (.weight p)
    let member (p : LineIx) : Bool := (t.account p).window && decide (0 < weight p) && (s.line p).phase != .out
    let members := allLines.filter member
    let total := (members.map weight).sum
    let shares := (members.map fun p => v * weight p / total).sum
    let first (p : LineIx) : Prop :=
      member p = true ∧ ∀ q, member q = true → weight q < weight p ∨ (weight q = weight p ∧ p ≤ q)
    (∀ p, member p = true →
      (first p → (t.account p).target = (s.account p).target + v * weight p / total + (v - shares)) ∧
      (¬first p → (t.account p).target = (s.account p).target + v * weight p / total)) ∧
    (let found : Prop := s.act.gapRaised = false ∧ s.item .gapLimit * 65536 < t.act.unassigned
     let r := s.accrue new
     (r.act.gapRaised = true ↔ s.act.gapRaised = true ∨ found) ∧ r.act.unassigned = t.act.unassigned ∧ r.act.aAcc = new ∧
     r.act.expected = t.act.expected ∧ (∀ p, (r.account p).target = (t.account p).target) ∧
     (found → r.fsv.counters[(6 : Fin 12)] = min 32767 (s.fsv.counters[(6 : Fin 12)] + 1)) ∧
     (¬found → r.fsv.counters[(6 : Fin 12)] = s.fsv.counters[(6 : Fin 12)]) ∧
     (∀ p, s.act.aAcc < s.item (.windowOpen p) → s.item (.windowOpen p) ≤ new → s.act.aAcc < s.item (.windowClose p) →
       s.item (.windowClose p) ≤ new → r.eventSet .windowSkipped = true)))) ∧
  (∀ (s : State) (new : Nat), s.act.aAcc ≤ new →
    let t := s.accrueSteps new
    let cross (x : Nat) : Bool := decide (s.act.aAcc < x) && decide (x ≤ new)
    (∀ p,
      let x := (t.account p).target
      let whole := if s.item .rounding = 1 then x / 65536 + (if 32768 ≤ x % 65536 then 1 else 0) else x / 65536
      let sum : Int := whole + (s.line p).carry - (s.line p).delivered
      let d := (t.account p).deficit
      d.d = max (-16383) (min 16383 sum) ∧ (d.z = true ↔ d.d = 0) ∧ (d.n = true ↔ d.d < 0) ∧
      (d.v = true ↔ sum < -16383 ∨ 16383 < sum) ∧ (d.c = true ↔ s.item .rounding = 1 ∧ 32768 ≤ x % 65536) ∧
      ((s.accrue new).account p).deficit = d) ∧
    (let published := (allLines.foldl State.takeDeficit t).judgeGrout
     let noticed := allLines.foldl (fun u p => u.windowNotice (s.account p).window (t.account p).window p) published
     let skipped := allLines.foldl (fun u p =>
       if cross (s.item (.windowOpen p)) && cross (s.item (.windowClose p)) then u.setEvent .windowSkipped else u) noticed
     s.accrue new = if s.act.gapRaised = false ∧ t.act.gapRaised = true then skipped.raise .groutGap else skipped))

/-- L_grout is 8, 0 or the floor of the proportion, by the largest deficit of the open lines that are not OUT (R112). -/
def Obligations.GroutLevelFollowsTheLargestDeficit : Prop :=
  ∀ s : State, s.item .deficitLow < s.item .deficitHigh →
    let level := s.judgeGrout.gru.lGrout
    let counts (p : LineIx) : Prop := (s.account p).window = true ∧ (s.line p).phase ≠ .out
    let span : Int := (s.item .deficitHigh : Int) - s.item .deficitLow
    ((∀ p, ¬counts p) → level = 8) ∧
    (∀ p, counts p → (∀ q, counts q → (s.deficit q).d ≤ (s.deficit p).d) →
      let d := (s.deficit p).d
      (d ≤ s.item .deficitLow → level = 8) ∧ ((s.item .deficitHigh : Int) ≤ d → level = 0) ∧
      ((s.item .deficitLow : Int) < d → d < s.item .deficitHigh →
        (level : Int) * span ≤ 8 * ((s.item .deficitHigh : Int) - d) ∧
        8 * ((s.item .deficitHigh : Int) - d) < ((level : Int) + 1) * span)) ∧
    s.judgeGrout = { s with gru := { s.gru with lGrout := level } }.judgeRate

/-- A tail line moves by deficit, pressure, window notices and PORT_HOLD (limits in use elsewhere, L_grout at a hold: model's
choice, log entries 26, 8) (R99, R100, R101, R102, R104, R105, R107, R113, R133, R112, R98). -/
def Obligations.TailLinesFollowDeficitPressureAndHolds : Prop :=
  ∀ (s : State) (p : LineIx),
    let l := s.line p
    let d := s.deficit p
    let level (span : Nat) : Nat := if d.z = true ∨ d.n = true then 0 else min 8 ((8 * d.d.toNat + span - 1) / span)
    let shut (t : State) (ph : Phase) : State :=
      t.modLine p fun r => { r with phase := ph, valve := false, setpoint := 0 }
    let flowing (t : State) : State :=
      t.modLine p fun r => { r with phase := .flow, valve := !s.estop, setpoint := level (s.item .flowSpan) }
    let primed : State :=
      s.modLine p fun r => { r with phase := .prime, valve := true, setpoint := 1, sinceOpen := 0 }
    let limited (t : State) : State :=
      t.modLine p fun r => { r with phase := .limit, valve := !s.estop, stallHistory := [], secondCount := 0 }
    let published := s.modLine p fun r => { r with resumeDeficit := s.item .resumeDeficit }
    let pressed := s.modLine p fun r =>
      { r with pressMax := s.item .pressMax, pressHyst := s.item .pressHyst, pressureWithheld := false }
    let supplied := s.supply ⟨2 + p.val, by omega⟩
    let fallen (hyst top : Nat) (o : Option Nat) : Prop := ∃ v ∈ o, hyst < top ∧ v + hyst ≤ top
    let owed : Prop := d.n = true ∧ d.d ≤ -(s.item .resumeDeficit : Int)
    (l.phase ≠ .flow → l.phase ≠ .satisfied → s.takeDeficit p = published) ∧
    (l.phase = .flow → ¬owed →
      s.takeDeficit p = published.modLine p fun r => { r with setpoint := level (s.item .flowSpan) }) ∧
    (l.phase = .flow → owed → s.deficitsSound → (shut published .satisfied).unmarked = none →
      s.takeDeficit p = (shut published .satisfied).setEvent .lineSatisfied) ∧
    (l.phase = .satisfied → 0 < l.pressHyst → (flowing published).unmarked = none →
      let resumes : Prop := (s.item .resumeDeficit : Int) ≤ d.d ∧ (s.account p).window = true ∧
        l.pressureWithheld = false ∧ fallen l.pressHyst l.pressMax supplied
      (resumes → s.takeDeficit p = flowing published) ∧ (¬resumes → s.takeDeficit p = published)) ∧
    (l.phase ≠ .flow → l.phase ≠ .limit → l.phase ≠ .satisfied → s.takePressure p = pressed) ∧
    (l.phase = .flow →
      ((∃ v ∈ supplied, s.item .pressMax ≤ v) → (limited pressed).unmarked = none → s.takePressure p = limited pressed) ∧
      ((∀ v ∈ supplied, v < s.item .pressMax) → s.takePressure p = pressed)) ∧
    (l.phase = .limit →
      (fallen (s.item .pressHyst) (s.item .pressMax) supplied → 0 < s.item .pressHyst →
        ¬(d.n = true ∧ d.d ≤ -(l.resumeDeficit : Int)) → (flowing pressed).unmarked = none →
        s.takePressure p = flowing pressed) ∧
      (¬fallen (s.item .pressHyst) (s.item .pressMax) supplied → s.takePressure p = pressed)) ∧
    (l.phase = .satisfied → 0 < s.item .pressHyst → (flowing pressed).unmarked = none →
      let resumes : Prop := (l.resumeDeficit : Int) ≤ d.d ∧ (s.account p).window = true ∧
        fallen (s.item .pressHyst) (s.item .pressMax) supplied
      (resumes → s.takePressure p = flowing pressed) ∧ (¬resumes → s.takePressure p = pressed)) ∧
    (l.phase = .idle → s.inForce (.portHold p) = false → (s.account p).window = true → s.estop = false →
      0 < s.item .primeVolume → primed.unmarked = none → s.windowNotice false true p = primed.judgeGrout) ∧
    (l.phase ≠ .idle → s.windowNotice false true p = s.judgeGrout) ∧
    (l.phase ∈ [Phase.prime, .flow, .limit, .satisfied] → (shut s .idle).unmarked = none →
      s.windowNotice true false p = (shut s .idle).judgeGrout) ∧
    (l.phase ∉ [Phase.prime, .flow, .limit, .satisfied] → s.windowNotice true false p = s.judgeGrout) ∧
    (l.phase ≠ .out → (shut s .held).unmarked = none → s.take (.actionEnters (.portHold p)) = (shut s .held).judgeGrout) ∧
    (l.phase = .out → s.take (.actionEnters (.portHold p)) = s.judgeGrout) ∧
    (s.rbu.queue = [] →
      (l.phase ≠ .held → s.take (.actionLeaves (.portHold p)) = s.judgeGrout) ∧
      (l.phase = .held → s.inForce (.portHold p) = false →
        ((s.account p).window = true → s.estop = false → 0 < s.item .primeVolume → primed.unmarked = none →
          s.take (.actionLeaves (.portHold p)) = primed.judgeGrout) ∧
        ((s.account p).window = false ∨ s.estop = true → (shut s .idle).unmarked = none →
          s.take (.actionLeaves (.portHold p)) = (shut s .idle).judgeGrout))) ∧
    (l.phase = .prime → (flowing s).unmarked = none →
      (l.sinceOpen < s.item .primeVolume → s.testPrimed p = s) ∧
      (s.item .primeVolume ≤ l.sinceOpen → ¬(d.n = true ∧ d.d ≤ -(l.resumeDeficit : Int)) →
        (∀ v ∈ supplied, v < l.pressMax) → s.testPrimed p = flowing s))

/-- A grout second tick closes each line's second; a stalled line is SATISFIED or BLOCKED (RESUME_DEFICIT in use of a line in
LIMIT: model's choice, log entry 26) (R93, R102, R103, R104, R106, R113, R133). -/
def Obligations.GroutTicksJudgeTheStall : Prop :=
  ((∀ s : State, s.calm = true →
    let moved (l : Line) : List Nat :=
      (l.stallHistory ++ [l.secondCount]).drop (l.stallHistory.length + 1 - s.item .stallTime)
    (∀ p, (s.line p).phase = .limit → (moved (s.line p)).length = s.item .stallTime →
      s.item .stallTime * s.item .flowMax ≤ (moved (s.line p)).sum * 960) →
    exec .groutSecondTick s =
      .next { s with gru := { s.gru with lines := mapIx s.gru.lines fun _ l =>
        if l.phase = .limit then { l with stallHistory := moved l, secondCount := 0 } else { l with secondCount := 0 } } }) ∧
  (∀ (s : State) (p : LineIx), (s.line p).phase = .limit →
    let total := (s.line p).stallHistory.sum
    let stays : Prop := (s.deficit p).d < (s.line p).resumeDeficit ∨ (s.account p).window = false ∨
      (s.line p).pressureWithheld = true ∨ ∀ v ∈ s.supply ⟨2 + p.val, by omega⟩,
        ¬((s.line p).pressHyst < (s.line p).pressMax ∧ v + (s.line p).pressHyst ≤ (s.line p).pressMax)
    let shut (ph : Phase) : State := s.modLine p fun l => { l with phase := ph, valve := false, setpoint := 0 }
    (s.item .stallTime * s.item .flowMax ≤ total * 960 → s.testStall p = s) ∧
    (total * 960 < s.item .stallTime * s.item .flowMax →
      ((s.deficit p).d ≤ s.item .deficitLow → stays → (shut .satisfied).unmarked = none →
        s.testStall p = (shut .satisfied).setEvent .lineSatisfied) ∧
      ((s.item .deficitLow : Int) < (s.deficit p).d → (shut .blocked).unmarked = none →
        s.testStall p = ((shut .blocked).setEvent .lineBlocked).raise (.groutBlocked p))))) ∧
  (∀ (s : State) (p : LineIx), s.calm = true → (s.line p).phase = .limit →
    (∀ q, q ≠ p → (s.line q).phase ≠ .limit) →
    let stays : Prop := (s.deficit p).d < (s.line p).resumeDeficit ∨ (s.account p).window = false ∨
      (s.line p).pressureWithheld = true ∨ ∀ v ∈ s.supply ⟨2 + p.val, by omega⟩,
        ¬((s.line p).pressHyst < (s.line p).pressMax ∧ v + (s.line p).pressHyst ≤ (s.line p).pressMax)
    let history := ((s.line p).stallHistory ++ [(s.line p).secondCount]).drop
      ((s.line p).stallHistory.length + 1 - s.item .stallTime)
    let t : State := { s with gru := { s.gru with lines := mapIx s.gru.lines fun q l =>
      if q = p then { l with stallHistory := history, secondCount := 0, valve := false, setpoint := 0 }
      else { l with secondCount := 0 } } }
    let at_ (ph : Phase) : State := t.modLine p fun l => { l with phase := ph }
    history.length = s.item .stallTime → history.sum * 960 < s.item .stallTime * s.item .flowMax →
    ((s.deficit p).d ≤ s.item .deficitLow → stays →
      (at_ .satisfied).quiet = true →
      exec .groutSecondTick s = .next ((at_ .satisfied).setEvent .lineSatisfied)) ∧
    ((s.item .deficitLow : Int) < (s.deficit p).d → (at_ .blocked).quiet = true →
      exec .groutSecondTick s = .next (((at_ .blocked).setEvent .lineBlocked).raise (.groutBlocked p)).settled))

/-- A muck second tick pushes int(E) and judges M against the oldest entry of a full delay line (R125, R126). -/
def Obligations.MuckTicksJudgeTheExcavation : Prop :=
  ∀ s : State, s.calm = true →
    let keep := s.item .muckLag + 1
    let line := (s.mku.delayLine ++ [s.whole s.act.expected]).drop (s.mku.delayLine.length + 1 - keep)
    let t := s.modMku fun k => { k with delayLine := line }
    let runs : Prop :=
      (s.adu.cycle = .boring ∨ s.adu.cycle = .paused ∨ s.adu.cycle = .rundown) ∧ s.adu.ringStartPending = false
    let judged (e : Nat) : Prop :=
      s.mku.judgment = .normal ∧ line.length = keep ∧ line.head? = some e ∧ s.item .judgeMin ≤ e
    (¬runs → exec .muckSecondTick s = .next s) ∧
    (runs → s.mku.judgment ≠ .normal ∨ line.length ≠ keep ∨ (∀ e ∈ line.head?, e < s.item .judgeMin) →
      exec .muckSecondTick s = .next t) ∧
    (∀ e, runs → judged e →
      (e * (100 + s.item .overMargin) < s.mku.measured * 100 →
        exec .muckSecondTick s = .next ((t.modMku fun k => { k with judgment := .over }).raise .overexc).settled) ∧
      (s.mku.measured * 100 ≤ e * (100 + s.item .overMargin) →
        s.mku.measured * 100 < e * (100 - s.item .underMargin) →
        exec .muckSecondTick s = .next ((t.modMku fun k => { k with judgment := .under }).raise .underexc).settled) ∧
      (s.mku.measured * 100 ≤ e * (100 + s.item .overMargin) →
        e * (100 - s.item .underMargin) ≤ s.mku.measured * 100 → exec .muckSecondTick s = .next t))

/-- A passed freshness limit makes its record STALE, and an expired silence time its station absent (R132, R133, R95, R116,
R164, R165). -/
def Obligations.RecordsGoStaleAndStationsAbsent : Prop :=
  (∀ (s : State) (m : MeasIx), s.resetActive = false →
    let u := s.modMeas m fun r =>
      { r with
        state := .stale, value := none, age := some (max (s.item (.freshLimit m) + 1) (r.age.getD 0))
        degraded := decide (m.val < 8 ∧ s.item (.novalPolicy m) = 1) }
    let w : State :=
      if m = 14 then u.modMku fun k => { k with counterValid := false }
      else if h : 8 ≤ m.val ∧ m.val < 14 then u.modLine ⟨m.val - 8, by omega⟩ fun l => { l with counterValid := false }
      else u
    ∃ t, exec (.freshLimitPassed m) s = .next t ∧
      t.direct = if (s.meas m).state = .fresh then w.direct else s.direct) ∧
  (∀ (s : State) (st : Station), s.resetActive = false →
    let u := s.modPort st fun p => { p with present := false, silence := none }
    (∃ t, exec (.silenceTimeExpiry st) s = .next t ∧
      t.direct = if (s.port st).silence.isSome = true then u.direct else s.direct) ∧
    (s.calm = true → (s.port st).silence.isSome = true → (s.port st).present = true → s.obliged st = false →
      exec (.silenceTimeExpiry st) s = .next u))

/-- A raise is handled by its class's mode, type, retry count and the list's room, or updates its entry (mode 7: log entry 16);
a clearance, by the entry (R139, R140, R142, R148, R150, R151, R143, R144). -/
def Obligations.RaisesFollowTheClassMode : Prop :=
  (∀ (s : State) (key : FaultKey), s.fsv.find key = none →
    let mode := s.item (.faultMode key.cls)
    let t := s.raise key
    let est : Option (EntryState × Option Nat) :=
      if mode = 2 then some (.latched, none)
      else if mode = 3 then (if key.measured = true then some (.reported, none) else none)
      else if mode = 0 ∨ mode = 1 then
        if s.item .retryLimit ≤ s.fsv.retryCount key then some (.latched, none)
        else if key.measured = true then some (.active, none)
        else some (.retrying, some (1000 * s.item (if mode = 0 then .retrySlow else .retryFast)))
      else none
    let record : FirstFault :=
      { key := key, ring := s.rbu.record.number.getD 0, a := s.adu.a, cycle := s.adu.cycle, time := s.seconds, later := 0 }
    s.item (.faultMode key.cls) ∈ [0, 1, 2, 3, 7] →
    t.fsv.counters = modAt s.fsv.counters key.cls (fun n => min 32767 (n + 1)) ∧
    (t.fsv.marks = if key.measured = true then modAt s.fsv.marks key.idx fun _ => true else s.fsv.marks) ∧
    t.fsv.retryCounts = s.fsv.retryCounts ∧
    (mode = 7 → t.fsv.entries = s.fsv.entries ∧ t.fsv.overflow = s.fsv.overflow ∧ t.fsv.first = s.fsv.first ∧
      t.ports = s.ports) ∧
    (mode ≠ 7 →
      t.fsv.first = some (match s.fsv.first with
        | none => record
        | some r => { r with later := min 32767 (r.later + 1) }) ∧
      t.eventSet .faultRaised = true ∧
      (key.domain = .erector → t.eventSet .erectorFault = true) ∧ (key.domain = .grout → t.eventSet .groutFault = true) ∧
      (key.domain = .muck → t.eventSet .muckFault = true) ∧ (s.fsv.first = none → t.eventSet .firstFault = true)) ∧
    (est = none → t.fsv.entries = s.fsv.entries ∧ t.fsv.overflow = s.fsv.overflow) ∧
    (∀ est' left, est = some (est', left) →
      (s.fsv.entries.length < 16 →
        t.fsv.overflow = s.fsv.overflow ∧
        t.fsv.entries = s.fsv.entries ++
          [{ key := key, mode := mode, state := est', retryLeft := left, ring := s.rbu.record.number.getD 0
             aAcc := s.act.aAcc, time := s.seconds }]) ∧
      (16 ≤ s.fsv.entries.length → t.fsv.overflow = true ∧ t.fsv.entries = s.fsv.entries))) ∧
  (∀ (s : State) (key : FaultKey) (e : FaultEntry), s.fsv.find key = some e →
    let t := s.raise key
    let record : FirstFault :=
      { key := key, ring := s.rbu.record.number.getD 0, a := s.adu.a, cycle := s.adu.cycle, time := s.seconds, later := 0 }
    t.fsv.find key =
      some { e with
        ring := s.rbu.record.number.getD 0, aAcc := s.act.aAcc, time := s.seconds
        state := if e.state = .retrying ∧ key.measured = true then .active else e.state
        retryLeft :=
          if e.state = .retrying then
            (if key.measured = true then none
             else some (1000 * s.item (if e.mode = 0 then .retrySlow else .retryFast)))
          else e.retryLeft } ∧
    t.fsv.entries.map FaultEntry.key = s.fsv.entries.map FaultEntry.key ∧
    (t.fsv.entries.filter fun x => x.key != key) = (s.fsv.entries.filter fun x => x.key != key) ∧
    t.fsv.overflow = s.fsv.overflow ∧ t.fsv.retryCounts = s.fsv.retryCounts ∧
    t.fsv.counters = modAt s.fsv.counters key.cls (fun n => min 32767 (n + 1)) ∧
    (t.fsv.marks = if key.measured = true then modAt s.fsv.marks key.idx fun _ => true else s.fsv.marks) ∧
    t.fsv.first = some (match s.fsv.first with
      | none => record
      | some r => { r with later := min 32767 (r.later + 1) }) ∧
    t.eventSet .faultRaised = true ∧ (key.domain = .erector → t.eventSet .erectorFault = true) ∧
    (key.domain = .grout → t.eventSet .groutFault = true) ∧ (key.domain = .muck → t.eventSet .muckFault = true)) ∧
  (∀ (s : State) (key : FaultKey),
    let t := s.clearCondition key
    t.fsv.marks = modAt s.fsv.marks key.idx (fun _ => false) ∧ t.fsv.counters = s.fsv.counters ∧
    t.fsv.retryCounts = s.fsv.retryCounts ∧ t.fsv.first = s.fsv.first ∧ t.fsv.overflow = s.fsv.overflow ∧
    t.ports = s.ports ∧
    (t.fsv.entries.filter fun x => x.key != key) = (s.fsv.entries.filter fun x => x.key != key) ∧
    (s.fsv.find key = none → t.fsv.entries = s.fsv.entries) ∧
    ∀ e, s.fsv.find key = some e →
      (e.state = .active → s.fsv.retryCount key < s.item .retryLimit →
        t.fsv.find key = some { e with
          state := .retrying, retryLeft := some (1000 * s.item (if e.mode = 0 then .retrySlow else .retryFast)) }) ∧
      (e.state = .active → s.item .retryLimit ≤ s.fsv.retryCount key →
        t.fsv.find key = some { e with state := .latched }) ∧
      (e.state = .latched ∨ e.state = .retrying → t.fsv.find key = some e) ∧
      (e.state = .reported → (s.fsv.entries.map FaultEntry.key).Nodup → t.fsv.find key = none))

/-- The action set, fault output and forced outputs follow the fault list, OVERFLOW and the stop; the halts pause the boring and
their lift resumes it (R152, R154, R11, R12, R13, R14, R15, R34, R35, R38, R39, 02_the_advance_cycle.md 2.10). -/
def Obligations.ActionSetIsTheUnion : Prop :=
  (∀ (s : State) (a : Action),
    (s.inForce a = true ↔ (∃ e ∈ s.fsv.entries, e.state ≠ .reported ∧ a ∈ actionsOf e.key) ∨
      (s.fsv.overflow = true ∧ a = .advHalt)) ∧
    (s.faultLine = true ↔ s.fsv.entries ≠ [] ∨ s.fsv.overflow = true) ∧
    (∀ key, let t := s.removeEntry key
      (t.inForce a = true ↔ (∃ e ∈ s.fsv.entries, e.key ≠ key ∧ e.state ≠ .reported ∧ a ∈ actionsOf e.key) ∨
        (s.fsv.overflow = true ∧ a = .advHalt)) ∧
      (Notice.actionLeaves a ∈ t.notices ↔
        Notice.actionLeaves a ∈ s.notices ∨ (s.inForce a = true ∧ t.inForce a = false)) ∧
      (Notice.actionEnters a ∈ t.notices ↔ Notice.actionEnters a ∈ s.notices)) ∧
    ∀ g, s.valveMode g =
      if s.estop = true then .block
      else
        match (s.group g).state with
        | .locked | .clear => .block
        | .hold => .hold
        | .push => .extend
        | .retract => if s.inForce .claimFreeze = true then .block else .retract
        | .returning => if s.inForce .claimFreeze = true then .block else .hold) ∧
  (∀ s : State,
    (s.estop = true → s.tperm = false ∧ s.lvl = 0 ∧ s.cperm = false ∧ s.bperm = false ∧ (∀ p, s.gv p = false) ∧
      ∀ g, s.valveMode g = .block) ∧
    (s.estop = false → s.tperm = s.adu.thrustPermit ∧ s.lvl = BitVec.ofNat 4 s.adu.rateLevel ∧ s.cperm = s.adu.cutterPermit ∧
      s.bperm = s.mku.beltPermit ∧ ∀ p, s.gv p = (s.line p).valve)) ∧
  (∀ (s : State) (a : Action), a = .advHalt ∨ a = .cutHalt →
    let cut := s.inForce .cutHalt
    let t := s.take (.actionEnters a)
    (s.adu.cycle ∈ [Cycle.standstill, .rundown, .ringBuild] → t = s) ∧
    (s.adu.cycle = .spinup ∨ s.adu.cycle = .paused → cut = false → t = s) ∧
    (s.adu.cycle = .paused → cut = true → t = s.modAdu fun r => { r with cutterPermit := false, permitKept := false }) ∧
    (s.adu.cycle = .spinup → cut = true → s.unmarked = none →
      t = s.modAdu fun r =>
        { r with cycle := .paused, thrustPermit := false, cutterPermit := false, permitKept := false, spinup := none, rateLevel := 0 }) ∧
    (s.adu.cycle = .boring →
      t.adu = { s.adu with
        cycle := .paused, thrustPermit := false, cutterPermit := !cut && s.adu.cutterPermit, permitKept := !cut
        spinup := none, rateLevel := 0 } ∧
      (∀ g, t.group g =
        if (s.group g).state = .push then
          { s.group g with
            state := .hold, contactCapture := (s.group g).stroke, contact := true, owner := none, dwell := none }
        else s.group g) ∧
      t.act = s.act ∧ t.gru = s.gru ∧ t.mku = s.mku ∧ t.rbu = s.rbu)) ∧
  (∀ (s : State) (a : Action), a = .advHalt ∨ a = .cutHalt → s.rbu.queue = [] →
    let t := s.take (.actionLeaves a)
    (s.adu.cycle ≠ .paused ∨ s.inForce .advHalt = true ∨ s.inForce .cutHalt = true → t = s) ∧
    (s.adu.cycle = .paused → s.inForce .advHalt = false → s.inForce .cutHalt = false →
      (s.adu.permitKept = false → s.unmarked = none →
        t = s.modAdu fun r =>
          { r with
            cycle := .spinup, permitKept := false, cutterPermit := true, pulseSincePermit := false
            spinup := some (1000 * s.item .spinupTime), confirmations := 0, penetrationValid := false, lPen := 8
            rateLevel := 0 }) ∧
      (let b := { s with groups := mapIx s.groups fun _ (r : Group) =>
          if r.state = GroupState.hold then { r with state := .push, strokeEndReported := false } else r }.modAdu fun r =>
        { r with cycle := .boring, permitKept := false, spinup := none, thrustPermit := true }
       s.adu.permitKept = true → s.adu.ringStartPending = false → (∀ g, (s.group g).stroke < s.item .strokeEnd) →
        b.unmarked = none →
        { t with notices := [] } = { b.judgeRate with notices := [] })))

/-- FAULT CLEAR meets Table 8-7 in its order, and removes a cleared entry, its actions and its line's blockage (R147, R140,
R152, R153, R106, R99, R98, R112). -/
def Obligations.FaultClearMeetsItsChecks : Prop :=
  ∀ (s : State) (st : Station) (cls src : Payload), s.ready st = true → cls ≠ 0 →
    let u := s.attended st
    let answers (t : State) (r : Reply) : Prop := exec (.faultClear st cls src) s = .next (t.answer st 41 r)
    (12 < cls.toNat → answers u (.refusedRange 10)) ∧
    (cls.toNat ≤ 12 → (∀ k : FaultKey, k.classCode ≠ cls.toNat ∨ k.sourceCode ≠ src.toNat) →
      answers u (.refusedRange 11)) ∧
    ∀ key : FaultKey, key.classCode = cls.toNat → key.sourceCode = src.toNat →
      (key.domain ≠ st → answers u (.refusedDomain 1)) ∧
      (key.domain = st → u.fsv.find key = none → answers u (.refusedState 2)) ∧
      ∀ e, key.domain = st → u.fsv.find key = some e →
        let still : Prop :=
          e.state = .active ∨ e.state = .reported ∨ (e.state = .latched ∧ u.fsv.marks[key.idx] = true)
        let t := u.modFsv fun f => { f with entries := f.entries.filter fun x => x.key != key }
        (still → answers u { outcome := .stillPresent, reason := 3, skip := 0 }) ∧
        let left : List Notice := (allActions.filter fun a => u.inForce a && !t.inForce a).map .actionLeaves
        let told : List Notice := match key with
          | .groutBlocked p => [.blockedRemoved p]
          | _ => []
        (¬still →
          exec (.faultClear st cls src) s = .next (({ t with notices := left ++ told } : State).answer st 41 .accepted).settled ∧
          ∃ v, exec (.faultClear st cls src) s = .next v ∧
            v.direct = ((s.attended st).answer st 41 .accepted).direct ∧
            (v.port st).slot = { request := 41, outcome := .accepted, reason := 0, skip := 0, shown := false }) ∧
        (∀ p, key = .groutBlocked p → ¬still →
          let lit := (t.modLine p fun l => { l with phase := .prime, valve := true, setpoint := 1, sinceOpen := 0 }).judgeGrout
          ((u.line p).phase ≠ .blocked → answers t.judgeGrout .accepted) ∧
          ((u.line p).phase = .blocked → (u.account p).window = true → u.estop = false →
            u.inForce (.portHold p) = false → 0 < u.item .primeVolume → lit.quiet = true → answers lit .accepted)) ∧
        (¬still → (∀ l, key ≠ .groutBlocked l) → (∀ a ∈ allActions, t.inForce a = u.inForce a) → answers t .accepted)

/-- The clear of OVERFLOW and FIRST FAULT RELEASE meet their checks in order (the order by line of the GRU's notices: model's
choice, log entry 8) (R148, R152, R153, R150). -/
def Obligations.CabinClearsOverflowAndTheFirstFault : Prop :=
  ((∀ (s : State) (st : Station) (src : Payload), s.ready st = true →
    let u := s.attended st
    let t := u.modFsv fun f => { f with overflow := false }
    (src ≠ 0 → exec (.overflowClear st src) s = .next (u.answer st 41 (.refusedRange 11))) ∧
    (src = 0 → st ≠ .cabin → exec (.overflowClear st src) s = .next (u.answer st 41 (.refusedDomain 1))) ∧
    (src = 0 → st = .cabin → u.fsv.overflow = false →
      exec (.overflowClear st src) s = .next (u.answer st 41 (.refusedState 5))) ∧
    (src = 0 → st = .cabin → u.fsv.overflow = true → 16 ≤ u.fsv.entries.length →
      exec (.overflowClear st src) s = .next (u.answer st 41 (.refusedState 6))) ∧
    (src = 0 → st = .cabin → u.fsv.overflow = true → u.fsv.entries.length < 16 →
      exec (.overflowClear st src) s = .next ((u.clearOverflow.answer st 41 .accepted).settled) ∧
      (∃ v, exec (.overflowClear st src) s = .next v ∧ v.direct = (u.answer st 41 .accepted).direct ∧
        (v.port st).slot = { request := 41, outcome := .accepted, reason := 0, skip := 0, shown := false })) ∧
    (src = 0 → st = .cabin → u.fsv.overflow = true → u.fsv.entries.length < 16 → s.levelsSound →
      (∀ k ∈ measuredKeys, u.fsv.marked k = true → (u.fsv.find k).isSome = true) →
      (u.adu.cycle ≠ .paused ∨ ∃ e ∈ u.fsv.entries, e.state ≠ .reported ∧ .advHalt ∈ actionsOf e.key) →
      u.rbu.queue = [] →
      (∀ p, (u.line p).phase = .blocked → (u.fsv.find (.groutBlocked p)).isSome = true) →
      exec (.overflowClear st src) s = .next (t.answer st 41 .accepted))) ∧
  (∀ s : State, s.ready .cabin = true →
    exec .firstFaultRelease s =
      .next (if s.fsv.first = none then (s.attended .cabin).answer .cabin 7 (.refusedState 1)
        else ((s.attended .cabin).modFsv fun f => { f with first := none }).answer .cabin 7 .accepted))) ∧
  (∀ s : State, s.fsv.overflow = true →
    let t := s.clearOverflow
    let free := (allLines.filter fun p => (s.fsv.find (.groutBlocked p)).isNone).map Notice.blockedRemoved
    let brought : Bool := s.fsv.entries.any fun e => e.state != .reported && (actionsOf e.key).contains .advHalt
    ((∀ k ∈ measuredKeys, s.fsv.marked k = true → (s.fsv.find k).isSome = true) →
      t = { s with
        fsv := { s.fsv with overflow := false }
        notices := s.notices ++ free ++ if brought then [] else [.actionLeaves .advHalt] }) ∧
    s.fsv.entries <+: t.fsv.entries ∧ t.fsv.marks = s.fsv.marks ∧ t.fsv.retryCounts = s.fsv.retryCounts ∧
    (∀ k ∈ measuredKeys, s.fsv.marked k = true → s.item (.faultMode k.cls) ∈ [0, 1, 2, 3] →
      (t.fsv.find k).isSome = true ∨ t.fsv.overflow = true) ∧
    (∀ k ∈ measuredKeys, s.fsv.marked k = false → t.fsv.find k = s.fsv.find k) ∧
    (s.notices = [] → t.notices = (t.notices.filter fun n => match n with
        | .actionEnters _ => true
        | _ => false) ++ free ++ if t.inForce .advHalt then [] else [.actionLeaves .advHalt]))

/-- The end of a retry time removes its entry, its actions and its line's blockage, and counts the retry; no time running, no
effect (log entry 7) (R145, R152, R153, R106, R99, R98, R112). -/
def Obligations.RetryExpiryRemovesTheEntry : Prop :=
  ∀ (s : State) (key : FaultKey), s.calm = true →
    let t := s.modFsv fun f =>
      { f with
        entries := f.entries.filter fun x => x.key != key
        retryCounts := modAt f.retryCounts key.idx fun n => min 7 (n + 1) }
    ((∀ e, s.fsv.find key = some e → e.state ≠ .retrying ∨ e.retryLeft = none) →
      exec (.retryTimeExpiry key) s = .next s) ∧
    (∀ e, s.fsv.find key = some e → e.state = .retrying → e.retryLeft.isSome = true →
      let left : List Notice := (allActions.filter fun a => s.inForce a && !t.inForce a).map .actionLeaves
      let told : List Notice := match key with
        | .groutBlocked p => [.blockedRemoved p]
        | _ => []
      exec (.retryTimeExpiry key) s = .next ({ t with notices := left ++ told } : State).settled ∧
      (∃ v, exec (.retryTimeExpiry key) s = .next v ∧ v.direct = s.direct) ∧
      (∀ p, key = .groutBlocked p →
        let lit := (t.modLine p fun l => { l with phase := .prime, valve := true, setpoint := 1, sinceOpen := 0 }).judgeGrout
        ((s.line p).phase ≠ .blocked → exec (.retryTimeExpiry key) s = .next t.judgeGrout) ∧
        ((s.line p).phase = .blocked → (s.account p).window = true → s.estop = false →
          s.inForce (.portHold p) = false → 0 < s.item .primeVolume → lit.quiet = true →
          exec (.retryTimeExpiry key) s = .next lit))) ∧
    (∀ e, s.fsv.find key = some e → e.state = .retrying → e.retryLeft.isSome = true →
      (∀ l, key ≠ .groutBlocked l) → (∀ a ∈ allActions, t.inForce a = s.inForce a) →
      exec (.retryTimeExpiry key) s = .next t)

/-- A piece timer's end raises CLAIM_TIMEOUT and freezes the build; a claim's wait's end returns it to PENDING, and the new head
is examined (R87, R88, R22, R142, R152, R82, R80, R81, R77, R78, R16, R84). -/
def Obligations.BuildTimersRunOut : Prop :=
  ((∀ (s : State) (pc : Piece), s.calm = true →
    let key := FaultKey.claimTimeout pc
    let entry : FaultEntry :=
      { key := key, mode := 2, state := .latched, retryLeft := none, ring := s.rbu.record.number.getD 0, aAcc := s.act.aAcc
        time := s.seconds }
    let first : FirstFault :=
      match s.fsv.first with
      | none =>
        { key := key, ring := s.rbu.record.number.getD 0, a := s.adu.a, cycle := s.adu.cycle, time := s.seconds, later := 0 }
      | some r => { r with later := min 32767 (r.later + 1) }
    let t := ({ s with
        fsv := { s.fsv with
          entries := s.fsv.entries ++ [entry], first := some first
          counters := modAt s.fsv.counters 4 fun n => min 32767 (n + 1) }
        groups := mapIx s.groups fun _ (r : Group) => if r.state = GroupState.returning then { r with dwell := none } else r }.modRecord
        fun r =>
          { r with pieces := mapIx r.pieces fun i (q : PieceRecord) =>
            if i = pc.idx then { q with timer := { q.timer with state := .expired, left := 0 } }
            else if q.timer.state = TimerState.running then { q with timer := { q.timer with state := .suspended } } else q })
    let t := (t.setEvent .faultRaised).setEvent .erectorFault
    ((s.piece pc).timer.state ≠ .running → exec (.pieceTimerExpiry pc) s = .next s) ∧
    ((s.piece pc).timer.state = .running → s.item (.faultMode 4) = 2 → s.fsv.find key = none →
      s.fsv.entries.length < 16 → s.inForce .claimFreeze = false →
      exec (.pieceTimerExpiry pc) s = .next (if s.fsv.first = none then t.setEvent .firstFault else t))) ∧
  (∀ (s : State) (pc : Piece), s.calm = true →
    let rest := s.rbu.queue.filter fun e => e.piece != pc
    let t := (((s.modRbu fun b => { b with queue := rest }).modPiece pc fun r =>
        { r with
          state := .pending, claimTime := none, awaited := []
          timer := { state := .stopped, kind := .none, left := 0 } }).modRecord fun r =>
        { r with claimsExpired := min 32767 (r.claimsExpired + 1) }).setEvent .claimExpired
    ((∀ e ∈ s.rbu.queue, e.piece ≠ pc) → exec (.queueWaitExpiry pc) s = .next s) ∧
    ((∃ e ∈ s.rbu.queue, e.piece = pc) → s.rbu.queue.head?.map QueueEntry.piece ≠ some pc ∨ rest = [] →
      exec (.queueWaitExpiry pc) s = .next t))) ∧
  (∀ s : State,
    let stopped : State :=
      { s with groups := mapIx s.groups fun _ (r : Group) =>
        if r.state = GroupState.returning then { r with dwell := none } else r }.modRecord fun r =>
      { r with pieces := mapIx r.pieces fun _ (q : PieceRecord) =>
        if q.timer.state = TimerState.running then { q with timer := { q.timer with state := .suspended } } else q }
    let restarted : State :=
      { s with groups := mapIx s.groups fun _ (r : Group) =>
        if r.state = GroupState.returning then { r with dwellRef := r.stroke, dwell := some (s.item .contactDwell) } else r
        }.modRecord fun r =>
      { r with pieces := mapIx r.pieces fun _ (q : PieceRecord) =>
        if q.timer.state = TimerState.suspended then { q with timer := { q.timer with state := .running } } else q }
    s.take (.actionEnters .claimFreeze) = stopped ∧
    s.take (.actionLeaves .claimFreeze) =
      (if s.inForce .claimFreeze = true ∨ s.estop = true then s else restarted).examineHead) ∧
  (∀ (s : State) (e : QueueEntry) (rest : List QueueEntry), s.rbu.queue = e :: rest →
    let pc := e.piece
    let above (g : GroupIx) : Bool := decide (s.item .clearStroke < (s.group g).stroke)
    (¬s.claimable pc → s.examineHead = s) ∧
    (s.claimable pc → s.bearing pc →
      s.examineHead =
        (({ s with
            groups := mapIx s.groups fun g r =>
              if g ∈ (s.piece pc).groups then
                { r with state := if above g = true then .retract else .clear, owner := some pc, contact := false }
              else r
            rbu := { s.rbu with queue := rest }
            notices := s.notices ++ (allGroups.filter fun g => decide (g ∈ (s.piece pc).groups)).map fun g =>
              if above g = true then Notice.groupState g .retract (some pc) none else Notice.groupState g .clear (some pc) (some pc)
            }.modPiece pc fun r =>
          { r with
            state := .retracting, claimTime := some (r.claimTime.getD s.seconds), awaited := r.groups
            timer := { state := .running, kind := .retract, left := 1000 * s.item .retractTime } }).setEvent
          .claimGranted))) ∧
  (∀ s : State, s.rbu.queue = [] → s.examineHead = s) ∧
  (∀ (s : State) (pc : Piece), s.calm = true → s.rbu.queue.head?.map QueueEntry.piece = some pc →
    let t := (((s.modRbu fun b => { b with queue := b.queue.filter fun e => e.piece != pc }).modPiece pc fun r =>
        { r with
          state := .pending, claimTime := none, awaited := []
          timer := { state := .stopped, kind := .none, left := 0 } }).modRecord fun r =>
        { r with claimsExpired := min 32767 (r.claimsExpired + 1) }).setEvent .claimExpired
    ∃ v, exec (.queueWaitExpiry pc) s = .next v ∧ t.examinesTo v)

/-- Select, header and word events move only their own port, and the event word clears the flags it showed (R156, R157, R162,
R163, R175, R166). -/
def Obligations.PortEventsMoveOnlyTheirPort : Prop :=
  (∀ (s : State) (st : Station) (h : LinkWord), s.resetActive = false →
    let p := s.port st
    let status := statusWord p.slot.outcome p.slot.reason (decide (∃ i : Fin 8, p.flags[i] = true)) s.faultLine
    (exec (.selectActive st) s =
      .next (if p.frame = none then
        s.modPort st fun q => { q with frame := some { status := status, statusSent := false, header := none } }
      else s)) ∧
    (∀ f, p.frame = some f →
      (f.header ≠ none → exec (.headerCheck st h) s = .next s) ∧
      (f.header = none → headerIgnored st h = true ∨ headerIsRead h = false →
        exec (.headerCheck st h) s = .next (s.modPort st fun q => { q with frame := some { f with header := some h } })) ∧
      (f.header = none → headerIgnored st h = false → headerIsRead h = true →
        ∃ q, exec (.headerCheck st h) s = .next (s.modPort st fun _ => q) ∧
          q.frame = some { f with header := some h } ∧ q.slot = p.slot ∧ q.flags = p.flags) ∧
      (f.statusSent = false →
        exec (.linkWordSent st) s =
          .next (s.modPort st fun q =>
            { q with slot := { q.slot with shown := true }, frame := some { f with statusSent := true } })) ∧
      (f.statusSent = true → f.header = none ∨ (∃ g, f.header = some g ∧ headerIgnored st g = true) →
        exec (.linkWordSent st) s = .next s) ∧
      (∀ g, f.statusSent = true → f.header = some g → headerIgnored st g = false →
        ∃ q, exec (.linkWordSent st) s = .next (s.modPort st fun _ => q) ∧
          q.frame = p.frame ∧ q.slot = p.slot ∧ q.snapshot = p.snapshot)) ∧
    (p.frame = none → exec (.headerCheck st h) s = .next s ∧ exec (.linkWordSent st) s = .next s)) ∧
  (∀ (s : State) (st : Station) (word : Payload) (f : FrameInProgress) (g : LinkWord), s.resetActive = false →
    (s.port st).frame = some f → f.statusSent = true → f.header = some g → headerIgnored st g = false →
    (s.port st).snapshot = some { view := 12, first := 0, records := [[word]] } →
    (s.port st).cursor = some { view := 12, record := 0, word := 0 } →
    (∃ t, exec (.linkWordSent st) s = .next t ∧
      (∀ i : Fin 8, (t.port st).flags[i] =
        ((s.port st).flags[i] && !(word.getLsbD i.val && !(s.port st).repeats[i]))) ∧
      (t.port st).cursor = some { view := 12, record := 1, word := 0 } ∧ (t.port st).wordAt = none ∧
      ∀ other, other ≠ st → t.port other = s.port other) ∧
    ∀ e : Event, (s.setEvent e).eventSet e = true ∧ ((s.setEvent e).port e.bit.1).repeats[e.bit.2] = true)

/-- A read or a CONTINUE returns the status word, then the words that Table 12-6 gives the view, then zero words (log entries 5,
17, 18, 29) (R156, R157, R162, R163, R174, R173, 12_record_views_and_word_formats.md 12.3, R51, R125). -/
def Obligations.ReadsStreamTheView : Prop :=
  (∀ (s : State) (st : Station) (view n : Nat) (rec : BitVec 4), s.resetActive = false → (s.port st).frame = none →
    view < 16 →
    let first := if view ∈ [0, 5, 8, 11, 12, 13, 14, 15] then 0 else rec.toNat
    let records := (s.viewRecords st view).drop first
    records ≠ [] → (∀ r ∈ s.viewRecords st view, r ≠ []) →
    ∃ t u, execAll [.selectActive st, .headerCheck st (readHeader st view rec)] s = .next t ∧
      (t.port st).returned st =
        statusWord (s.port st).slot.outcome (s.port st).slot.reason ((s.port st).flags.toList.any id) s.faultLine ∧
      execAll (.linkWordSent st :: List.replicate n (.linkWordSent st)) t = .next u ∧
      (u.port st).returned st = ((records.flatten[n]?).map linkWord).getD zeroWord) ∧
  (∀ (s : State) (st : Station) (view n : Nat) (rec : BitVec 4), s.resetActive = false → (s.port st).frame = none →
    let p := s.port st
    let status := statusWord p.slot.outcome p.slot.reason (p.flags.toList.any id) s.faultLine
    let reads (header : LinkWord) (at_ : Option Cursor) (words : List Payload) : Prop :=
      ∃ t u, execAll [.selectActive st, .headerCheck st header] s = .next t ∧ (t.port st).returned st = status ∧
        (t.port st).cursor = at_ ∧
        execAll (.linkWordSent st :: List.replicate n (.linkWordSent st)) t = .next u ∧
        (u.port st).returned st = ((words[n]?).map linkWord).getD zeroWord ∧ (words = [] → (u.port st).cursor = at_)
    (view < 16 → view ∉ [0, 5, 8, 11, 12, 13, 14, 15] → (s.viewRecords st view).length ≤ rec.toNat →
      reads (readHeader st view rec) (some { view := view, record := (s.viewRecords st view).length, word := 0 }) []) ∧
    (p.cursor = none → reads (readHeader st 127 rec) none []) ∧
    (∀ c, p.cursor = some c →
      let records := s.viewRecords st c.view
      (records.length ≤ c.record →
        reads (readHeader st 127 rec) (some { view := c.view, record := records.length, word := 0 }) []) ∧
      (∀ r, records[c.record]? = some r → c.word < r.length → (∀ x ∈ records, x ≠ []) →
        reads (readHeader st 127 rec) (some c) ((records.drop c.record).flatten.drop c.word)))) ∧
  (∀ s : State, ∀ st : Station,
    let one (n : Nat) : List Payload := [single n]
    let opt (o : Option Nat) : List Payload := [(o.map single).getD absentWord]
    let two (o : Option Nat) : List Payload := (o.map double).getD [absentWord, absentWord]
    let q16 (x : Nat) : List Payload := double (x / 65536) ++ [single (x % 65536 / 2)]
    let yes (b : Bool) : List Payload := [if b = true then 1 else 0]
    let states : List GroupState := [.locked, .hold, .push, .retract, .clear, .returning]
    let cycles : List Cycle := [.standstill, .spinup, .boring, .paused, .rundown, .ringBuild]
    let cutters : List CutterCondition := [.turning, .slow, .stopped]
    let causes : List StopCause := [.none, .ringStroke, .strokeEnd, .stopRequest, .spinupFailed, .estop]
    let rings : List RingState := [.none, .building, .complete]
    let pieces : List PieceState := [.pending, .queued, .retracting, .clear, .placed, .set, .releasing]
    let timers : List TimerState := [.stopped, .running, .suspended, .expired]
    let kinds : List TimerKind := [.none, .retract, .returning]
    let phases : List Phase := [.idle, .prime, .flow, .limit, .satisfied, .blocked, .held, .out]
    let judgments : List Judgment := [.normal, .over, .under]
    let cars : List CarState := [.empty, .filling, .full]
    let values : List MeasState := [.noval, .fresh, .stale]
    let entries : List EntryState := [.active, .retrying, .latched, .reported]
    let outcomes : List OutcomeCode := [.none, .accepted, .queued, .refusedState, .refusedDomain, .refusedRange, .queueFull,
      .stillPresent, .parity, .frame, .unknown, .partialTaken, .wrongId]
    let ring (state : RingState) (h : HistoryEntry) : List Payload :=
      one (rings.idxOf state) ++ opt h.number ++ opt (h.key.map fun k => k.val) ++ two h.buildStart ++ two h.buildDuration
      ++ one h.claimsExpired ++ opt (h.frozen.map Frozen.boredLength) ++ opt (h.frozen.map Frozen.revolutions)
      ++ opt (h.frozen.map Frozen.maxPenetration) ++ two (h.frozen.map Frozen.unassigned)
      ++ two (h.frozen.map Frozen.expected) ++ two (h.frozen.map Frozen.measured) ++ opt (h.frozen.bind Frozen.maxFace)
      ++ (allLines.flatMap fun p =>
        two (h.frozen.bind fun f => f.lines[p].litres.map Prod.fst) ++ two (h.frozen.bind fun f => f.lines[p].litres.map Prod.snd)
        ++ opt (h.frozen.map fun f => if f.lines[p].absent = true then 1 else 0))
      ++ (List.finRange 12).flatMap fun c => one h.faultCounts[c]
    s.viewRecords st 0 =
      [one (cycles.idxOf s.adu.cycle) ++ one s.adu.a ++ one s.act.aAcc ++ one s.adu.lCabin ++ one s.gru.lGrout
        ++ one s.mku.lMuck ++ one s.adu.lPen ++ one s.adu.rateLevel
        ++ [flagWord [s.adu.thrustPermit, s.adu.cutterPermit, s.mku.beltPermit, s.estop, s.adu.ringStartPending, s.fsv.overflow],
          flagWord [(s.port .cabin).present, (s.port .erector).present, (s.port .grout).present, (s.port .muck).present],
          flagWord [s.inForce .advHalt, s.inForce .cutHalt, s.inForce .beltHalt, s.inForce .claimFreeze],
          flagWord (allLines.map fun p => s.inForce (.portHold p))]
        ++ one s.fsv.entries.length ++ one (rings.idxOf s.rbu.record.state) ++ double s.seconds] ∧
    s.viewRecords st 1 = (allGroups.map fun g =>
      let r := s.group g
      one (states.idxOf r.state) ++ one r.stroke ++ [flagWord [r.referenced, r.saturated, r.contact, r.strokeEndReported]]
      ++ opt (r.owner.map fun pc => pc.idx.val) ++ signedDouble r.capture ++ one r.contactCapture ++ one r.dwellRef
      ++ opt r.dwell) ∧
    s.viewRecords st 2 =
      ring s.rbu.record.state
        { number := s.rbu.record.number, key := s.rbu.record.key, frozen := s.rbu.record.frozen
          buildStart := s.rbu.record.buildStart, buildDuration := s.rbu.record.buildDuration
          claimsExpired := s.rbu.record.claimsExpired, faultCounts := s.rbu.record.faultCounts }
      :: (allPieces.map fun pc =>
        let r := s.piece pc
        one (pieces.idxOf r.state) ++ opt (r.groups[0]?.map fun g => g.val) ++ opt (r.groups[1]?.map fun g => g.val)
        ++ two r.claimTime ++ [flagWord (allGroups.map fun g => decide (g ∈ r.awaited))]
        ++ one (timers.idxOf r.timer.state) ++ one (kinds.idxOf r.timer.kind)
        ++ if r.timer.state = .stopped then splitWords Config.stoppedTimeLeft else double r.timer.left) ∧
    s.viewRecords st 3 = (s.rbu.queue.map fun e => one e.piece.idx.val ++ double e.wait) ∧
    s.viewRecords st 4 = (allLines.map fun p =>
      let l := s.line p
      let k := s.account p
      one (phases.idxOf l.phase) ++ one l.setpoint
      ++ [flagWord [l.valve, k.window, k.deficit.z, k.deficit.n, k.deficit.v, k.deficit.c, l.counterValid, l.outThroughout]]
      ++ double l.delivered ++ [signedSingle l.carry, signedSingle k.deficit.d] ++ q16 k.target ++ one l.lastCounter
      ++ one l.sinceOpen ++ one l.secondCount ++ one l.stallHistory.length ++ one l.stallHistory.sum
      ++ one (s.item (.weight p)) ++ one (s.item (.windowOpen p)) ++ one (s.item (.windowClose p))
      ++ one (s.item .primeVolume) ++ one (s.item .flowMax) ++ one (s.item .pressMax) ++ one (s.item .pressHyst)
      ++ one (s.item .flowSpan) ++ one (s.item .resumeDeficit) ++ one (s.item .stallTime)) ∧
    s.viewRecords st 5 =
      [one s.act.aAcc ++ (allLines.flatMap fun p => q16 (s.account p).target) ++ q16 s.act.unassigned ++ yes s.act.gapRaised] ∧
    s.viewRecords st 6 =
      (double s.mku.measured ++ one s.mku.spill ++ q16 s.act.expected
        ++ two (if s.mku.delayLine.length = s.item .muckLag + 1 then s.mku.delayLine.head? else none)
        ++ one s.mku.delayLine.length ++ one (judgments.idxOf s.mku.judgment) ++ one ([true, false].idxOf s.mku.beltPermit)
        ++ one s.mku.lMuck ++ one s.mku.lastCounter ++ yes s.mku.counterValid ++ opt s.mku.capacity ++ one s.mku.cars.length)
      :: (s.mku.cars.mapIdx fun i r =>
        one (i + 1) ++ one (cars.idxOf r.state) ++ one r.fill ++ yes r.dueReported) ∧
    s.viewRecords st 7 = (s.fsv.entries.map fun e =>
      one e.key.classCode ++ one e.key.sourceCode ++ one e.mode ++ one (entries.idxOf e.state)
      ++ (if e.key.measured = true then one ([true, false].idxOf s.fsv.marks[e.key.idx]) else [absentWord])
      ++ one s.fsv.retryCounts[e.key.idx] ++ two e.retryLeft ++ one e.ring ++ one e.aAcc ++ double e.time) ∧
    s.viewRecords st 8 =
      [yes s.fsv.first.isSome ++ opt (s.fsv.first.map fun r => r.key.classCode) ++ opt (s.fsv.first.map fun r => r.key.sourceCode)
        ++ opt (s.fsv.first.map FirstFault.ring) ++ opt (s.fsv.first.map FirstFault.a)
        ++ opt (s.fsv.first.map fun r => cycles.idxOf r.cycle) ++ two (s.fsv.first.map FirstFault.time)
        ++ opt (s.fsv.first.map FirstFault.later)] ∧
    s.viewRecords st 9 = s.rbu.history.map (ring .complete) ∧
    s.viewRecords st 10 = (allMeas.map fun m =>
      let r := s.meas m
      one (values.idxOf r.state) ++ opt r.value ++ opt r.age
      ++ [flagWord [r.clamped, r.hasBeenValid, r.degraded, s.needed m, s.needed m && (s.supply m).isNone]]
      ++ opt r.lastValid ++ one (s.item (.freshLimit m)) ++ one (s.item (.novalPolicy m))
      ++ opt (if m = 0 then s.mst.maxFace else none)) ∧
    s.viewRecords st 11 =
      [(allItems.map fun i => single (s.item i)) ++ double s.act.kv ++ double s.act.km ++ two (s.act.pendingK.map Prod.fst)
        ++ two (s.act.pendingK.map Prod.snd)] ∧
    s.viewRecords st 12 = [[flagWord (s.port st).flags.toList]] ∧
    (let p := s.port st
     s.viewRecords st 13 =
      [one p.slot.request ++ one (outcomes.idxOf p.slot.outcome) ++ one p.slot.reason ++ one p.slot.skip ++ yes p.slot.shown
        ++ one p.framesTaken ++ one p.parityErrors ++ one p.idErrors ++ one p.frameErrors ++ yes p.present ++ opt p.silence
        ++ yes p.heard]) ∧
    s.viewRecords st 14 =
      [one (cutters.idxOf s.adu.cutter) ++ yes s.adu.lastPeriod.isSome ++ opt s.adu.lastPeriod ++ one s.adu.revolutions
        ++ one s.adu.penetration ++ yes s.adu.penetrationValid ++ one s.adu.maxPenetration ++ one s.adu.advanceAtPulse
        ++ opt (s.adu.spinup.map fun t => (t + 999) / 1000) ++ one s.adu.confirmations ++ yes s.adu.permitKept
        ++ one (causes.idxOf s.adu.lastStop)] ∧
    s.viewRecords st 15 = [one 8610 ++ one 1]) ∧
  (allItems.length = 102 ∧ (∀ i : Item, i ∈ allItems) ∧ (allItems.map Item.code).Pairwise (· < ·)) ∧
  ((∀ n, n < 2 ^ 15 → (single n).toNat = n) ∧ absentWord = 0x7FFF#15 ∧ linkWord absentWord = 0xFFFF#16 ∧
    (∀ (flags : List Bool) (i : Nat), flags.length ≤ 15 → i < 15 → (flagWord flags).getLsbD i = (flags[i]?).getD false) ∧
    (∀ i : Int, -16384 ≤ i → i < 16384 → (signedSingle i).toInt = i) ∧
    ∀ x, x < 2 ^ 46 → ∃ hi lo rem, double (x / 65536) ++ [single (x % 65536 / 2)] = [hi, lo, rem] ∧
      (joinWords hi lo).toNat = x / 65536 ∧ rem.toNat = x % 65536 / 2)

/-- A frame's end is judged by the first failing row of Table 9-2; with no frame in progress it does nothing (the model's
choice, log entry 13) (R158, R161, R164, R159, R160). -/
def Obligations.FrameEndsAreJudged : Prop :=
  (∀ (s : State) (st : Station) (data : List LinkWord) (extra : Nat),
    let fails (code : Nat) (o : OutcomeCode) (reason : Nat) (c : ErrorCounter) : Prop :=
      exec (.frameEnd st data extra) s =
        .next (((s.endFrame st).modPort st fun p => p.countError c).answer st code
          { outcome := o, reason := reason, skip := 0 })
    (s.resetActive = false → (s.port st).frame = none → exec (.frameEnd st data extra) s = .next s) ∧
    ∀ f, (s.port st).frame = some f →
      (s.calm = true → f.header = none → fails 0 .frame 1 .frame) ∧
      ∀ h, f.header = some h →
        let code := if headerIsRead h = true then 0 else headerCode h
        (s.calm = true → parityOk h = false → fails code .parity 1 .parity) ∧
        (s.calm = true → parityOk h = true → headerId h ≠ st.id → fails code .wrongId (8 + headerId h) .id) ∧
        (s.calm = true → parityOk h = true → headerId h = st.id → extra ≠ 0 → fails code .frame 1 .frame) ∧
        (s.ready st = true → parityOk h = true → headerId h = st.id → extra = 0 → headerIsRead h = true →
          (headerCode h < 16 ∨ headerCode h = 127 → exec (.frameEnd st data extra) s = .next (s.attended st)) ∧
          (16 ≤ headerCode h → headerCode h ≠ 127 →
            exec (.frameEnd st data extra) s =
              .next (((s.attended st).modPort st fun p => p.countError .frame).answer st 0
                { outcome := .unknown, reason := 2, skip := 0 })))) ∧
  (∀ (s : State) (st : Station) (code : Nat) (rec : BitVec 4) (data : List LinkWord) (f : FrameInProgress),
    s.ready st = true → code < 128 → (s.port st).frame = some f → f.header = some (requestHeader st code rec) →
    let fails (o : OutcomeCode) (reason : Nat) (c : ErrorCounter) : Prop :=
      exec (.frameEnd st data 0) s =
        .next (((s.attended st).modPort st fun p => p.countError c).answer st code
          { outcome := o, reason := reason, skip := 0 })
    let sound : Prop := ∀ w ∈ data, parityOk w = true
    let fits : Prop := requestLength code (data.map payloadOf) = some data.length
    (code ∉ requestCodes → fails .unknown 1 .frame) ∧
    (code ∈ requestCodes → ¬sound → fails .parity 2 .parity) ∧
    (code ∈ requestCodes → sound → ¬fits → fails .frame 2 .frame) ∧
    (code ∈ requestCodes → sound → fits → permitted st code = false → fails .refusedDomain 1 .none))

/-- PORT RESET empties its port's reading, counters and event flags, and leaves the rest of the part (R167, R4, R166). -/
def Obligations.PortResetRestoresThePort : Prop :=
  ∀ (s : State) (st : Station), s.ready st = true →
    exec (.portReset st) s =
      .next (s.modPort st fun _ =>
        { cursor := none, snapshot := none
          slot := { request := 42, outcome := .accepted, reason := 0, skip := 0, shown := false }
          framesTaken := 0, parityErrors := 0, idErrors := 0, frameErrors := 0, present := true
          silence := some (s.item .silenceTime), heard := true, flags := Vector.replicate 8 false
          repeats := Vector.replicate 8 false, frame := none })

/-- Every step keeps the targets and U at K_v, and E at K_m, for each count accrued (R56, R58, R60, R52). -/
def Obligations.AccountsStayBalanced : Prop :=
  ∀ s t : State, s.accountsBalance → step s = .next t → t.accountsBalance

/-- Every step keeps the fault list at sixteen entries and one for each key (R140, R145, R148). -/
def Obligations.FaultListStaysSound : Prop :=
  ∀ s t : State, s.faultListSound → step s = .next t → t.faultListSound

/-- Every step keeps each stroke in range, the owners to the lent groups and the dwell times to RETURN (R2, R6, R15, R22). -/
def Obligations.GroupsStaySound : Prop :=
  ∀ s t : State, s.groupsSound → step s = .next t → t.groupsSound

/-- Every step keeps every item in its range and the cross checks of the set (R168, R169, R170, R139). -/
def Obligations.ConfigurationStaysSound : Prop :=
  ∀ s t : State, s.configSound → step s = .next t → t.configSound

/-- Every step keeps the permits and the spin-up time to their cycle states and the stop out of the cutting states (R30, R35,
R39, R43, R44, R48, R49). -/
def Obligations.PermitsFollowTheCycle : Prop :=
  ∀ s t : State, s.cycleSound → step s = .next t → t.cycleSound

/-- Every step keeps L_grout, L_muck and the rate level as the state gives them (R46, R47, R112, R124). -/
def Obligations.LevelsStayJudged : Prop :=
  ∀ s t : State, s.levelsSound → step s = .next t → t.levelsSound

/-- Every step keeps the valves, setpoints, windows and deficits of the tail lines as their rules allow (R98, R99, R105, R110,
R111, R65, R66, R97). -/
def Obligations.LinesStaySafe : Prop :=
  ∀ s t : State, s.linesSound ∧ s.deficitsSound → step s = .next t → t.linesSound ∧ t.deficitsSound

/-- Every step keeps the cars in their order and the claim queue to the QUEUED pieces (R119, R121, R122, R123, R80, R81, R82,
R92). -/
def Obligations.TrainsAndClaimsStayInOrder : Prop :=
  ∀ s t : State, s.trainSound ∧ s.queueSound → step s = .next t → t.trainSound ∧ t.queueSound

/-- Every step keeps the measurement records and the port contexts as their rules allow (R131, R132, R133, R155, R158, R164). -/
def Obligations.RecordsAndPortsStaySound : Prop :=
  ∀ s t : State, s.recordsSound ∧ s.portsSound → step s = .next t → t.recordsSound ∧ t.portsSound

/-- Strokes, configuration, cars, measurements, L_cabin, the seconds count and the stop's level change only by their own
commands (R4, R5, R9, R45, R119, R121, R122, R131, R132, R168, R1, R49). -/
def Obligations.OnlyTheirCommandsChangeThem : Prop :=
  ∀ (i : Instr) (s t : State), exec i s = .next t → i ≠ .deviceReset →
    (∀ st data extra, i ≠ .frameEnd st data extra) →
    ((∀ g e, i ≠ .strokePulse g e) → (∀ v, i ≠ .referenceStrokes v) → ∀ g, (t.group g).stroke = (s.group g).stroke) ∧
    ((∀ pairs, i ≠ .configure pairs) → t.config = s.config) ∧
    ((∀ v, i ≠ .setLevel v) → t.adu.lCabin = s.adu.lCabin) ∧
    (i ≠ .secondsTick → t.seconds = s.seconds) ∧
    (i ≠ .estopAssert → i ≠ .estopRelease → t.estop = s.estop) ∧
    ((∀ n c, i ≠ .trainIn n c) → i ≠ .carShift → i ≠ .trainOut → (∀ st pairs, i ≠ .measure st pairs) →
      (∀ pairs, i ≠ .configure pairs) → t.mku.cars = s.mku.cars) ∧
    ((∀ st pairs, i ≠ .measure st pairs) → (∀ m, i ≠ .freshLimitPassed m) → (∀ pairs, i ≠ .configure pairs) →
      ∀ m, t.meas m = s.meas m)
end

