-- ==== Sys2Proof/Laws/Basic.lean ====
section
/-! SUPPORT. The tables of like records: reading after an update. -/

namespace Sys2Proof.Machine

@[simp] theorem modAt_getElem_self {α : Type} {n : Nat} (t : Vector α n) (i : Fin n) (f : α → α) :
    (modAt t i f)[i] = f t[i] := by simp [modAt]

@[simp] theorem modAt_getElem_val {α : Type} {n : Nat} (t : Vector α n) (i : Fin n) (f : α → α) :
    (modAt t i f)[i.val] = f t[i.val] := by simp [modAt]

theorem modAt_getElem_ne {α : Type} {n : Nat} (t : Vector α n) {i j : Fin n} (f : α → α) (h : i ≠ j) :
    (modAt t i f)[j] = t[j] := by
  have : i.val ≠ j.val := fun e => h (Fin.ext e)
  simp [modAt, this]

theorem modAt_getElem {α : Type} {n : Nat} (t : Vector α n) (i j : Fin n) (f : α → α) :
    (modAt t i f)[j] = if i = j then f t[j] else t[j] := by
  split
  · subst_vars; exact modAt_getElem_self ..
  · rename_i h; exact modAt_getElem_ne t f h

@[simp] theorem mapIx_getElem {α β : Type} {n : Nat} (t : Vector α n) (f : Fin n → α → β) (i : Fin n) :
    (mapIx t f)[i] = f i t[i] := by simp [mapIx]

@[simp] theorem mapIx_getElem_val {α β : Type} {n : Nat} (t : Vector α n) (f : Fin n → α → β) (i : Fin n) :
    (mapIx t f)[i.val] = f i t[i.val] := by simp [mapIx]

/-- A table changed at one place keeps every view of its entries that the change keeps. -/
theorem map_modAt {α β : Type} {n : Nat} (t : Vector α n) (i : Fin n) (f : α → α) (v : α → β) (h : ∀ a, v (f a) = v a) :
    (modAt t i f).map v = t.map v := by
  ext j hj
  have := modAt_getElem t i ⟨j, hj⟩ f
  simp only [Fin.getElem_fin] at this
  simp only [Vector.getElem_map, this]
  split <;> simp [h]

/-- A table changed everywhere keeps every view of its entries that the changes keep. -/
theorem map_mapIx {α β : Type} {n : Nat} (t : Vector α n) (f : Fin n → α → α) (v : α → β) (h : ∀ i a, v (f i a) = v a) :
    (mapIx t f).map v = t.map v := by
  ext j hj
  simp [mapIx, h]

end Sys2Proof.Machine
end

