-- ==== Sys2Proof/Laws/Direct.lean ====
section
/-! SUPPORT. What a command sets going leaves `State.direct` as it is: one lemma per operation of the blocks, up to `settled`. -/

namespace Sys2Proof.Machine

variable (s : State)

/-! ## Updates of one record -/

theorem direct_modGroup (g : GroupIx) (f : Group → Group) (h : ∀ r, (f r).counted = r.counted) :
    (s.modGroup g f).direct = s.direct := by
  simp [State.direct, State.modGroup, map_modAt _ _ _ _ h]

theorem direct_groups (f : GroupIx → Group → Group) (h : ∀ g r, (f g r).counted = r.counted) :
    ({ s with groups := mapIx s.groups f } : State).direct = s.direct := by
  simp [State.direct, map_mapIx _ _ _ h]

theorem direct_modAdu (f : Advance → Advance) (h : ∀ a, (f a).revolution = a.revolution) :
    (s.modAdu f).direct = s.direct := by
  simp [State.direct, State.modAdu, h]

@[simp] theorem direct_modAct (f : Accounts → Accounts) : (s.modAct f).direct = s.direct := rfl

@[simp] theorem direct_modAccount (p : LineIx) (f : LineAccount → LineAccount) : (s.modAccount p f).direct = s.direct := rfl

theorem direct_modRbu (f : RingBuild → RingBuild) (h : ∀ b, (f b).record.head = b.record.head) :
    (s.modRbu f).direct = s.direct := by
  simp [State.direct, State.modRbu, h]

theorem direct_modRecord (f : RingRecord → RingRecord) (h : ∀ r, (f r).head = r.head) :
    (s.modRecord f).direct = s.direct := by
  simp [State.direct, State.modRecord, h]

@[simp] theorem direct_modPiece (pc : Piece) (f : PieceRecord → PieceRecord) : (s.modPiece pc f).direct = s.direct := rfl

theorem direct_modLine (p : LineIx) (f : Line → Line) (h : ∀ l, (f l).meter = l.meter) :
    (s.modLine p f).direct = s.direct := by
  simp [State.direct, State.modLine, map_modAt _ _ _ _ h]

theorem direct_lines (f : LineIx → Line → Line) (h : ∀ p l, (f p l).meter = l.meter) :
    ({ s with gru := { s.gru with lines := mapIx s.gru.lines f } } : State).direct = s.direct := by
  simp [State.direct, map_mapIx _ _ _ h]

@[simp] theorem direct_lGrout (n : Nat) : ({ s with gru := { s.gru with lGrout := n } } : State).direct = s.direct := rfl

theorem direct_modMku (f : Muck → Muck)
    (h : ∀ k, (f k).cars = k.cars ∧ (f k).capacity = k.capacity ∧ (f k).meter = k.meter) :
    (s.modMku f).direct = s.direct := by
  simp [State.direct, State.modMku, h]

@[simp] theorem direct_maxFace (v : Option Nat) : ({ s with mst := { s.mst with maxFace := v } } : State).direct = s.direct := rfl

@[simp] theorem direct_modFsv (f : Faults → Faults) : (s.modFsv f).direct = s.direct := rfl

@[simp] theorem direct_fsv (f : Faults) : ({ s with fsv := f } : State).direct = s.direct := rfl

@[simp] theorem direct_notices (l : List Notice) : ({ s with notices := l } : State).direct = s.direct := rfl

theorem direct_modPort (st : Station) (f : Port → Port) (h : ∀ p, (f p).link = p.link) :
    (s.modPort st f).direct = s.direct := by
  simp [State.direct, State.modPort, map_modAt _ _ _ _ h]

@[simp] theorem direct_send (n : Notice) : (s.send n).direct = s.direct := rfl

@[simp] theorem direct_setEvent (e : Event) : (s.setEvent e).direct = s.direct := direct_modPort _ _ _ fun _ => rfl

/-- A fold of operations that each leave `direct` leaves it. -/
theorem direct_foldl {α : Type} (f : State → α → State) (h : ∀ t a, (f t a).direct = t.direct) (l : List α) :
    (l.foldl f s).direct = s.direct := by
  induction l generalizing s with
  | nil => rfl
  | cons a l ih => simp [ih, h]

theorem ite_direct {c : Prop} [Decidable c] (a b : State) :
    (if c then a else b).direct = if c then a.direct else b.direct := by split <;> rfl

/-! ## The FSV -/

@[simp] theorem direct_judgeRate : s.judgeRate.direct = s.direct := direct_modAdu _ _ fun _ => rfl

@[simp] theorem direct_announceEntering (before : Faults) : (s.announceEntering before).direct = s.direct := by
  refine direct_foldl _ _ (fun t a => ?_) _
  split <;> simp

@[simp] theorem direct_announceLeaving (before : Faults) : (s.announceLeaving before).direct = s.direct := by
  refine direct_foldl _ _ (fun t a => ?_) _
  split <;> simp

@[simp] theorem direct_announce (before : Faults) : (s.announce before).direct = s.direct := by simp [State.announce]

@[simp] theorem direct_offerFirst (key : FaultKey) : (s.offerFirst key).direct = s.direct := by
  unfold State.offerFirst; split <;> simp

@[simp] theorem direct_setDomainEvent (key : FaultKey) : (s.setDomainEvent key).direct = s.direct := by
  unfold State.setDomainEvent; split <;> simp

@[simp] theorem direct_countRaise (key : FaultKey) : (s.countRaise key).direct = s.direct := rfl

@[simp] theorem direct_raiseUnder (key : FaultKey) (mode : Nat) : (s.raiseUnder key mode).direct = s.direct := by
  unfold State.raiseUnder; dsimp only; split <;> simp

@[simp] theorem direct_answerBlocked (key : FaultKey) : (s.answerBlocked key).direct = s.direct := by
  unfold State.answerBlocked; split
  · split <;> simp
  · rfl

@[simp] theorem direct_raise (key : FaultKey) : (s.raise key).direct = s.direct := by simp [State.raise]

@[simp] theorem direct_clearCondition (key : FaultKey) : (s.clearCondition key).direct = s.direct := by
  simp [State.clearCondition]

@[simp] theorem direct_report (key : FaultKey) : (s.report key).direct = s.direct := by
  unfold State.report; split <;> simp

@[simp] theorem direct_judgeKeys (keys : List FaultKey) : (s.judgeKeys keys).direct = s.direct := by
  refine direct_foldl _ _ (fun t k => ?_) _
  split <;> simp

@[simp] theorem direct_noticeRemoval (key : FaultKey) : (s.noticeRemoval key).direct = s.direct := by
  unfold State.noticeRemoval; split <;> simp

@[simp] theorem direct_removeEntry (key : FaultKey) : (s.removeEntry key).direct = s.direct := by simp [State.removeEntry]

@[simp] theorem direct_expireRetry (key : FaultKey) : (s.expireRetry key).direct = s.direct := by
  unfold State.expireRetry; split
  · split <;> simp
  · rfl

@[simp] theorem direct_resetRingCounts : s.resetRingCounts.direct = s.direct := rfl

@[simp] theorem direct_raiseAfresh : s.raiseAfresh.direct = s.direct := by
  refine direct_foldl _ _ (fun t a => ?_) _
  split <;> simp

@[simp] theorem direct_noticeUnblocked : s.noticeUnblocked.direct = s.direct := by
  refine direct_foldl _ _ (fun t p => ?_) _
  split <;> simp

@[simp] theorem direct_clearOverflow : s.clearOverflow.direct = s.direct := by simp [State.clearOverflow]

@[simp] theorem direct_reviseReported (key : FaultKey) : (s.reviseReported key).direct = s.direct := by
  unfold State.reviseReported; dsimp only; split
  · split <;> simp
  · rfl

/-! ## The JGU -/

theorem direct_changeGroups (f : GroupIx → Group → Group) (h : ∀ g r, (f g r).counted = r.counted) :
    (s.changeGroups f).direct = s.direct := by
  unfold State.changeGroups
  refine (direct_foldl _ _ (fun t a => ?_) _).trans (direct_groups s f h)
  split <;> simp

@[simp] theorem direct_jguPush : s.jguPush.direct = s.direct := by
  unfold State.jguPush
  refine (direct_foldl _ _ (fun t a => ?_) _).trans (direct_changeGroups _ _ fun g r => ?_)
  · dsimp only; split <;> simp
  · dsimp only; split <;> rfl

@[simp] theorem direct_jguHold : s.jguHold.direct = s.direct := by
  refine direct_changeGroups _ _ fun g r => ?_
  split <;> rfl

@[simp] theorem counted_retractFor (c : Nat) (pc : Piece) (r : Group) : (r.retractFor c pc).counted = r.counted := by
  unfold Group.retractFor; split <;> rfl

@[simp] theorem direct_jguRetract (pc : Piece) (gs : List GroupIx) : (s.jguRetract pc gs).direct = s.direct := by
  refine direct_changeGroups _ _ fun g r => ?_
  split <;> simp

@[simp] theorem counted_returnFor (b : Bool) (d : Nat) (r : Group) : (r.returnFor b d).counted = r.counted := by
  unfold Group.returnFor; split <;> rfl

@[simp] theorem direct_jguReturn (gs : List GroupIx) : (s.jguReturn gs).direct = s.direct := by
  refine direct_changeGroups _ _ fun g r => ?_
  split <;> simp

@[simp] theorem direct_stopDwells : s.stopDwells.direct = s.direct := by
  refine direct_groups _ _ fun g r => ?_
  split <;> rfl

@[simp] theorem direct_restartDwells : s.restartDwells.direct = s.direct := by
  unfold State.restartDwells; split
  · rfl
  · refine direct_groups _ _ fun g r => ?_
    split <;> rfl

@[simp] theorem direct_captureStrokes : s.captureStrokes.direct = s.direct := direct_groups _ _ fun _ _ => rfl

@[simp] theorem direct_expireDwell (g : GroupIx) : (s.expireDwell g).direct = s.direct := by
  unfold State.expireDwell; dsimp only; split
  · refine direct_changeGroups _ _ fun g r => ?_
    split <;> rfl
  · rfl

/-! ## Deficits and the GRU -/

@[simp] theorem direct_judgeDeficit (p : LineIx) : (s.judgeDeficit p).direct = s.direct := rfl

@[simp] theorem direct_judgeDeficits : s.judgeDeficits.direct = s.direct :=
  direct_foldl s State.judgeDeficit (fun _ _ => rfl) _

@[simp] theorem direct_judgeSetpoint (p : LineIx) : (s.judgeSetpoint p).direct = s.direct := by
  unfold State.judgeSetpoint; split
  · exact direct_modLine _ _ _ fun _ => rfl
  · rfl

@[simp] theorem direct_noteDeficit (p : LineIx) : (s.noteDeficit p).direct = s.direct := direct_modLine _ _ _ fun _ => rfl

@[simp] theorem direct_notePressure (p : LineIx) : (s.notePressure p).direct = s.direct := direct_modLine _ _ _ fun _ => rfl

@[simp] theorem direct_enterPhase (p : LineIx) (ph : Phase) : (s.enterPhase p ph).direct = s.direct := by
  unfold State.enterPhase
  rw [direct_judgeKeys]
  exact direct_modLine _ _ _ fun _ => rfl

@[simp] theorem direct_enterLimit (p : LineIx) : (s.enterLimit p).direct = s.direct := by
  unfold State.enterLimit
  rw [direct_modLine, direct_enterPhase]
  exact fun _ => rfl

@[simp] theorem direct_testLimit (p : LineIx) : (s.testLimit p).direct = s.direct := by
  unfold State.testLimit; split <;> simp

@[simp] theorem direct_testResume (p : LineIx) : (s.testResume p).direct = s.direct := by
  unfold State.testResume; split <;> simp

@[simp] theorem direct_enterSatisfied (p : LineIx) : (s.enterSatisfied p).direct = s.direct := by
  simp [State.enterSatisfied]

@[simp] theorem direct_testSatisfied (p : LineIx) : (s.testSatisfied p).direct = s.direct := by
  unfold State.testSatisfied; split <;> simp

@[simp] theorem direct_enterFlow (p : LineIx) : (s.enterFlow p).direct = s.direct := by simp [State.enterFlow]

@[simp] theorem direct_testPrimed (p : LineIx) : (s.testPrimed p).direct = s.direct := by
  unfold State.testPrimed; split <;> simp

@[simp] theorem direct_startLine (p : LineIx) : (s.startLine p).direct = s.direct := by
  unfold State.startLine; split
  · simp
  · split
    · simp
    · rw [direct_testPrimed, direct_enterPhase]
      exact direct_modLine _ _ _ fun _ => rfl

@[simp] theorem direct_judgeGrout : s.judgeGrout.direct = s.direct := by
  unfold State.judgeGrout; rw [direct_judgeRate]; rfl

@[simp] theorem direct_takeDeficit (p : LineIx) : (s.takeDeficit p).direct = s.direct := by simp [State.takeDeficit]

@[simp] theorem direct_takeDeficits : s.takeDeficits.direct = s.direct := by
  unfold State.takeDeficits
  rw [direct_judgeGrout]
  exact direct_foldl _ _ (fun t p => direct_takeDeficit t p) _

@[simp] theorem direct_takeOpening (p : LineIx) : (s.takeOpening p).direct = s.direct := by
  unfold State.takeOpening; split <;> simp

@[simp] theorem direct_idleLine (p : LineIx) : (s.idleLine p).direct = s.direct := by
  unfold State.idleLine; split <;> simp

@[simp] theorem direct_idleLines : s.idleLines.direct = s.direct := direct_foldl _ _ (fun t p => direct_idleLine t p) _

@[simp] theorem direct_startIdleLines : s.startIdleLines.direct = s.direct := by
  refine direct_foldl _ _ (fun t p => ?_) _
  split <;> simp

@[simp] theorem direct_holdLine (p : LineIx) : (s.holdLine p).direct = s.direct := by
  unfold State.holdLine; split <;> simp

@[simp] theorem direct_releaseLine (p : LineIx) : (s.releaseLine p).direct = s.direct := by
  unfold State.releaseLine; split <;> simp

@[simp] theorem direct_unblockLine (p : LineIx) : (s.unblockLine p).direct = s.direct := by
  unfold State.unblockLine; split <;> simp

@[simp] theorem direct_testStall (p : LineIx) : (s.testStall p).direct = s.direct := by
  unfold State.testStall; split
  · split <;> simp
  · rfl

@[simp] theorem direct_tickLine (p : LineIx) : (s.tickLine p).direct = s.direct := by
  have h0 : (s.modLine p fun l => { l with secondCount := 0 }).direct = s.direct := direct_modLine _ _ _ fun _ => rfl
  have h1 (t : State) (n m : Nat) : (t.modLine p fun r => { r with stallHistory := lastOf n (r.stallHistory ++ [m]) }).direct = t.direct :=
    direct_modLine _ _ _ fun _ => rfl
  unfold State.tickLine; dsimp only; split
  · split <;> simp [h0, h1]
  · exact h0

@[simp] theorem direct_groutTick : s.groutTick.direct = s.direct := direct_foldl _ _ (fun t p => direct_tickLine t p) _

@[simp] theorem direct_rollCarries : s.rollCarries.direct = s.direct := direct_lines _ _ fun _ _ => rfl

/-! ## The MKU -/

@[simp] theorem direct_judgePermit : s.judgePermit.direct = s.direct := by
  have h : ∀ (a : Bool) (b : Nat), (s.modMku fun k => { k with beltPermit := a, lMuck := b }).direct = s.direct :=
    fun a b => direct_modMku _ _ fun _ => ⟨rfl, rfl, rfl⟩
  unfold State.judgePermit; dsimp only; rw [direct_judgeKeys]; split <;> simp [h]

@[simp] theorem direct_judgeExcavation : s.judgeExcavation.direct = s.direct := by
  have h : ∀ j : Judgment, (s.modMku fun k => { k with judgment := j }).direct = s.direct :=
    fun j => direct_modMku _ _ fun _ => ⟨rfl, rfl, rfl⟩
  unfold State.judgeExcavation; split
  · repeat' split
    all_goals simp [h]
  · rfl

@[simp] theorem direct_muckTick : s.muckTick.direct = s.direct := by
  unfold State.muckTick; split
  · rw [direct_judgeExcavation]
    exact direct_modMku _ _ fun _ => ⟨rfl, rfl, rfl⟩
  · rfl

@[simp] theorem direct_startMuckRing : s.startMuckRing.direct = s.direct := direct_modMku _ _ fun _ => ⟨rfl, rfl, rfl⟩

/-! ## The ACT -/

@[simp] theorem direct_distribute (v : Nat) : (s.distribute v).direct = s.direct := by
  unfold State.distribute; split <;> simp

@[simp] theorem direct_accrueSteps (new : Nat) : (s.accrueSteps new).direct = s.direct := by simp [State.accrueSteps]

@[simp] theorem direct_windowNotice (was now : Bool) (p : LineIx) : (s.windowNotice was now p).direct = s.direct := by
  unfold State.windowNotice; split <;> simp

@[simp] theorem direct_accrue (new : Nat) : (s.accrue new).direct = s.direct := by
  unfold State.accrue
  extract_lets old t t1 t2
  have h1 : t1.direct = s.direct := (direct_foldl _ _ (fun u p => by simp) _).trans (by simp [t])
  have h2 : t2.direct = s.direct := by
    refine (direct_foldl _ _ (fun u p => ?_) _).trans h1
    dsimp only; split <;> simp
  split
  · simp [h2]
  · exact h2

@[simp] theorem direct_takeChange : s.takeChange.direct = s.direct := by unfold State.takeChange; split <;> simp

@[simp] theorem direct_flush : s.flush.direct = s.direct := by unfold State.flush; split <;> simp

@[simp] theorem direct_restartAccounts : s.restartAccounts.direct = s.direct := by simp [State.restartAccounts]

@[simp] theorem direct_startAccountRing : s.startAccountRing.direct = s.direct := by
  unfold State.startAccountRing
  refine (direct_foldl _ _ (fun u p => ?_) _).trans (by simp)
  split <;> simp

@[simp] theorem direct_shutWindows : s.shutWindows.direct = s.direct := rfl

@[simp] theorem direct_recomputeCoefficients : s.recomputeCoefficients.direct = s.direct := rfl

/-! ## The ADU -/

@[simp] theorem direct_enterCycle (c : Cycle) : (s.enterCycle c).direct = s.direct := by
  unfold State.enterCycle
  rw [direct_judgeKeys, direct_judgeRate]
  exact direct_modAdu _ _ fun _ => rfl

@[simp] theorem direct_judgePen : s.judgePen.direct = s.direct := by
  unfold State.judgePen
  rw [direct_judgeRate]
  exact direct_modAdu _ _ fun _ => rfl

@[simp] theorem direct_enterStandstill : s.enterStandstill.direct = s.direct := by simp [State.enterStandstill]

@[simp] theorem direct_holdIfBoring : s.holdIfBoring.direct = s.direct := by unfold State.holdIfBoring; split <;> simp

@[simp] theorem direct_setCause (c : StopCause) : (s.setCause c).direct = s.direct := direct_modAdu _ _ fun _ => rfl

@[simp] theorem direct_enterRundown : s.enterRundown.direct = s.direct := by
  have h : (s.holdIfBoring.modAdu fun a => { a with thrustPermit := false, cutterPermit := false, spinup := none }).direct
      = s.direct := (direct_modAdu _ _ fun _ => rfl).trans (by simp)
  unfold State.enterRundown; dsimp only; split <;> simp [h]

@[simp] theorem direct_enterPaused (kept : Bool) : (s.enterPaused kept).direct = s.direct := by
  unfold State.enterPaused
  dsimp only
  rw [direct_modAdu, direct_enterCycle, direct_modAdu, direct_holdIfBoring] <;> exact fun _ => rfl

@[simp] theorem direct_enterSpinup : s.enterSpinup.direct = s.direct := by
  unfold State.enterSpinup
  dsimp only
  rw [direct_judgePen, direct_enterCycle]
  exact direct_modAdu _ _ fun _ => rfl

@[simp] theorem direct_startRing : s.startRing.direct = s.direct := by
  unfold State.startRing
  dsimp only
  rw [direct_maxFace, direct_modAdu, direct_resetRingCounts, direct_startMuckRing, direct_startAccountRing, direct_rollCarries,
    direct_modAdu, direct_captureStrokes] <;> exact fun _ => rfl

@[simp] theorem direct_enterBoring : s.enterBoring.direct = s.direct := by
  unfold State.enterBoring
  dsimp only
  rw [direct_judgeRate, direct_modAdu, direct_jguPush]
  case h => exact fun _ => rfl
  have h : ((s.modAdu fun a => { a with spinup := none }).enterCycle .boring).direct = s.direct := by
    rw [direct_enterCycle]; exact direct_modAdu _ _ fun _ => rfl
  split <;> simp [h]

@[simp] theorem direct_testTarget : s.testTarget.direct = s.direct := by unfold State.testTarget; split <;> simp

@[simp] theorem direct_takeStrokeChange : s.takeStrokeChange.direct = s.direct := by
  have h : (s.modAdu fun a => { a with a := meanAdvance s.groups }).direct = s.direct := direct_modAdu _ _ fun _ => rfl
  unfold State.takeStrokeChange; dsimp only; split
  · split <;> simp [h]
  · simp [h]
  · rfl

@[simp] theorem direct_takeStrokeEnd : s.takeStrokeEnd.direct = s.direct := by
  unfold State.takeStrokeEnd; split <;> simp

@[simp] theorem direct_takeHalt : s.takeHalt.direct = s.direct := by
  unfold State.takeHalt; dsimp only; split
  · simp
  · split <;> simp
  · split
    · exact direct_modAdu _ _ fun _ => rfl
    · rfl
  · rfl

@[simp] theorem direct_takeHaltLift : s.takeHaltLift.direct = s.direct := by
  unfold State.takeHaltLift; split
  · split <;> simp
  · rfl

@[simp] theorem direct_takeCompletion : s.takeCompletion.direct = s.direct := by
  have h : (s.modAdu fun a => { a with ringStartPending := true }).direct = s.direct := direct_modAdu _ _ fun _ => rfl
  unfold State.takeCompletion; dsimp only; split <;> simp [h]

@[simp] theorem direct_expireSpinup : s.expireSpinup.direct = s.direct := by
  unfold State.expireSpinup; split
  · rw [direct_enterStandstill, direct_setEvent]
    exact direct_modAdu _ _ fun _ => rfl
  · rfl

@[simp] theorem direct_dropCycle : s.dropCycle.direct = s.direct := by
  unfold State.dropCycle; dsimp only; split
  · rw [direct_enterStandstill]
    exact (direct_modAdu _ _ fun _ => rfl).trans (by simp)
  · simp

@[simp] theorem direct_confirmSpinup : s.confirmSpinup.direct = s.direct := by
  unfold State.confirmSpinup; split <;> simp

@[simp] theorem direct_judgeConfirmation : s.judgeConfirmation.direct = s.direct := by
  have h : ∀ n, (s.modAdu fun a => { a with confirmations := n }).direct = s.direct := fun n => direct_modAdu _ _ fun _ => rfl
  unfold State.judgeConfirmation; dsimp only; split
  · generalize (if s.turningPeriod = true then s.adu.confirmations + 1 else 0) = n
    split <;> simp [h]
  · rfl

/-! ## The RBU -/

@[simp] theorem direct_grant (pc : Piece) : (s.grant pc).direct = s.direct := by simp [State.grant]

@[simp] theorem direct_examineHead : s.examineHead.direct = s.direct := by
  unfold State.examineHead; split
  · rfl
  · split
    · rfl
    · rw [direct_grant]; exact direct_modRbu _ _ fun _ => rfl

@[simp] theorem direct_completeRing : s.completeRing.direct = s.direct := by
  unfold State.completeRing
  dsimp only
  rw [direct_takeCompletion, direct_setEvent, direct_judgeKeys, direct_modRbu, direct_modRecord] <;> exact fun _ => rfl

@[simp] theorem direct_arriveClear (g : GroupIx) (pc : Piece) : (s.arriveClear g pc).direct = s.direct := by
  unfold State.arriveClear; dsimp only; split
  · rfl
  · split <;> simp

@[simp] theorem direct_arriveHold (g : GroupIx) (pc : Piece) : (s.arriveHold g pc).direct = s.direct := by
  unfold State.arriveHold; dsimp only; split
  · split
    · split <;> simp
    · simp
  · split <;> simp
  · rfl

@[simp] theorem direct_takeGroupState (g : GroupIx) (st : GroupState) (o : Option Piece) :
    (s.takeGroupState g st o).direct = s.direct := by
  unfold State.takeGroupState
  rw [direct_examineHead]
  split <;> simp

@[simp] theorem direct_suspendTimers : s.suspendTimers.direct = s.direct := direct_modRecord _ _ fun _ => rfl

@[simp] theorem direct_resumeTimers : s.resumeTimers.direct = s.direct := by
  unfold State.resumeTimers; split
  · rfl
  · exact direct_modRecord _ _ fun _ => rfl

@[simp] theorem direct_expirePieceTimer (pc : Piece) : (s.expirePieceTimer pc).direct = s.direct := by
  unfold State.expirePieceTimer; split <;> simp

@[simp] theorem direct_dequeue (pc : Piece) : (s.dequeue pc).direct = s.direct := by
  unfold State.dequeue; rw [direct_modPiece]; exact direct_modRbu _ _ fun _ => rfl

/-! ## What a command sets going -/

@[simp] theorem direct_takeEntering (a : Action) : (s.takeEntering a).direct = s.direct := by
  unfold State.takeEntering; split <;> simp

@[simp] theorem direct_takeLeaving (a : Action) : (s.takeLeaving a).direct = s.direct := by
  unfold State.takeLeaving; rw [direct_examineHead]; split <;> simp

@[simp] theorem direct_take (n : Notice) : (s.take n).direct = s.direct := by
  cases n <;> simp [State.take]

theorem direct_micro {s t : State} (h : s.micro = some t) : t.direct = s.direct := by
  unfold State.micro at h
  split at h
  · cases h; simp
  · split at h
    · cases h
    · cases h; simp

theorem direct_settle (n : Nat) : (settle n s).direct = s.direct := by
  induction n generalizing s with
  | zero => rfl
  | succ n ih =>
    unfold settle
    split
    · rfl
    · rename_i t h; rw [ih, direct_micro h]

/-- What a command sets going leaves `direct` as it is. -/
@[simp] theorem direct_settled : s.settled.direct = s.direct := direct_settle _ _

end Sys2Proof.Machine
end

