-- ==== Sys2Proof/Laws/PerInstr.lean ====
section
/-! SUPPORT. What holds of every command as a term: the frame that a well-formed request stands for passes the checks of its header's
code, its length and its sender (rows 6, 8 and 9 of Table 9-2). -/

namespace Sys2Proof.Laws.CheckedFields

open Sys2Proof.Machine

/-- The frame of a well-formed request carries an assigned code that its station may send and exactly the data words that the code
asks for (R158, R159, R160). -/
def Statement (i : Instr) : Prop :=
  i.wellFormed = true → ∀ st code data, requestFrame i = some (st, code, data) →
    requestCodes.contains code = true ∧ permitted st code = true ∧ requestLength code data = some data.length

/-- The count word of a request of pairs gives its length (R159). -/
theorem countedPairs_length (pairs : List (Payload × Payload)) (h : pairsFit pairs = true) :
    (countedPairs pairs).head?.map (fun c => 1 + 2 * c.toNat) = some (countedPairs pairs).length := by
  have hp : pairs.length < 2 ^ 15 := by simpa [pairsFit] using h
  have hl : (pairs.flatMap fun pr => [pr.1, pr.2]).length = 2 * pairs.length := by
    clear h hp
    induction pairs with
    | nil => rfl
    | cons p ps ih => simp only [List.flatMap_cons, List.length_append, List.length_cons, List.length_nil, ih]; omega
  simp only [countedPairs, List.head?_cons, Option.map_some, List.length_cons, hl, BitVec.toNat_ofNat,
    Nat.mod_eq_of_lt hp]
  congr 1
  omega

theorem deviceReset : Statement .deviceReset := by
  intro _ _ _ _ e
  cases e

theorem resetRelease : Statement .resetRelease := by
  intro _ _ _ _ e
  cases e

theorem secondsTick : Statement .secondsTick := by
  intro _ _ _ _ e
  cases e

theorem strokePulse (g : GroupIx) (e : Bool) : Statement (.strokePulse g e) := by
  intro _ _ _ _ e
  cases e

theorem dwellTimeExpiry (g : GroupIx) : Statement (.dwellTimeExpiry g) := by
  intro _ _ _ _ e
  cases e

theorem revolutionPulse : Statement .revolutionPulse := by
  intro _ _ _ _ e
  cases e

theorem stopTimerExpiry : Statement .stopTimerExpiry := by
  intro _ _ _ _ e
  cases e

theorem spinupTimeExpiry : Statement .spinupTimeExpiry := by
  intro _ _ _ _ e
  cases e

theorem estopAssert : Statement .estopAssert := by
  intro _ _ _ _ e
  cases e

theorem estopRelease : Statement .estopRelease := by
  intro _ _ _ _ e
  cases e

theorem selectActive (st : Station) : Statement (.selectActive st) := by
  intro _ _ _ _ e
  cases e

theorem headerCheck (st : Station) (h : LinkWord) : Statement (.headerCheck st h) := by
  intro _ _ _ _ e
  cases e

theorem linkWordSent (st : Station) : Statement (.linkWordSent st) := by
  intro _ _ _ _ e
  cases e

theorem frameEnd (st : Station) (d : List LinkWord) (x : Nat) : Statement (.frameEnd st d x) := by
  intro _ _ _ _ e
  cases e

theorem configure (pairs : List (Payload × Payload)) : Statement (.configure pairs) := by
  intro h st code data e
  cases e
  exact ⟨by decide, by decide, countedPairs_length pairs h⟩

theorem referenceStrokes (values : List Payload) : Statement (.referenceStrokes values) := by
  intro h st code data e
  cases e
  have hl : values.length = 10 := by simpa [Instr.wellFormed] using h
  exact ⟨by decide, by decide, by rw [hl]; rfl⟩

theorem advanceStart : Statement .advanceStart := by
  intro _ st code data e
  cases e
  exact ⟨by decide, by decide, rfl⟩

theorem advanceStop : Statement .advanceStop := by
  intro _ st code data e
  cases e
  exact ⟨by decide, by decide, rfl⟩

theorem setLevel (level : Payload) : Statement (.setLevel level) := by
  intro _ st code data e
  cases e
  exact ⟨by decide, by decide, rfl⟩

theorem ringBegin (number key : Payload) : Statement (.ringBegin number key) := by
  intro _ st code data e
  cases e
  exact ⟨by decide, by decide, rfl⟩

theorem firstFaultRelease : Statement .firstFaultRelease := by
  intro _ st code data e
  cases e
  exact ⟨by decide, by decide, rfl⟩

theorem claimPiece (code : Payload) : Statement (.claimPiece code) := by
  intro _ st code data e
  cases e
  exact ⟨by decide, by decide, rfl⟩

theorem withdrawPiece (code : Payload) : Statement (.withdrawPiece code) := by
  intro _ st code data e
  cases e
  exact ⟨by decide, by decide, rfl⟩

theorem piecePlaced (code : Payload) : Statement (.piecePlaced code) := by
  intro _ st code data e
  cases e
  exact ⟨by decide, by decide, rfl⟩

theorem lineSuspend (line : Payload) : Statement (.lineSuspend line) := by
  intro _ st code data e
  cases e
  exact ⟨by decide, by decide, rfl⟩

theorem lineResume (line : Payload) : Statement (.lineResume line) := by
  intro _ st code data e
  cases e
  exact ⟨by decide, by decide, rfl⟩

theorem trainIn (cars capacity : Payload) : Statement (.trainIn cars capacity) := by
  intro _ st code data e
  cases e
  exact ⟨by decide, by decide, rfl⟩

theorem carShift : Statement .carShift := by
  intro _ st code data e
  cases e
  exact ⟨by decide, by decide, rfl⟩

theorem trainOut : Statement .trainOut := by
  intro _ st code data e
  cases e
  exact ⟨by decide, by decide, rfl⟩

theorem measure (st : Station) (pairs : List (Payload × Payload)) : Statement (.measure st pairs) := by
  intro h st' code data e
  cases e
  exact ⟨by decide, by cases st <;> decide, countedPairs_length pairs h⟩

theorem faultClear (st : Station) (cls src : Payload) : Statement (.faultClear st cls src) := by
  intro _ st' code data e
  cases e
  exact ⟨by decide, by cases st <;> decide, rfl⟩

theorem overflowClear (st : Station) (src : Payload) : Statement (.overflowClear st src) := by
  intro _ st' code data e
  cases e
  exact ⟨by decide, by cases st <;> decide, rfl⟩

theorem portReset (st : Station) : Statement (.portReset st) := by
  intro _ st' code data e
  cases e
  exact ⟨by decide, by cases st <;> decide, rfl⟩

theorem silenceTimeExpiry (st : Station) : Statement (.silenceTimeExpiry st) := by
  intro _ _ _ _ e
  cases e

theorem freshLimitPassed (m : MeasIx) : Statement (.freshLimitPassed m) := by
  intro _ _ _ _ e
  cases e

theorem groutSecondTick : Statement .groutSecondTick := by
  intro _ _ _ _ e
  cases e

theorem muckSecondTick : Statement .muckSecondTick := by
  intro _ _ _ _ e
  cases e

theorem retryTimeExpiry (key : FaultKey) : Statement (.retryTimeExpiry key) := by
  intro _ _ _ _ e
  cases e

theorem pieceTimerExpiry (pc : Piece) : Statement (.pieceTimerExpiry pc) := by
  intro _ _ _ _ e
  cases e

theorem queueWaitExpiry (pc : Piece) : Statement (.queueWaitExpiry pc) := by
  intro _ _ _ _ e
  cases e

end Sys2Proof.Laws.CheckedFields
end

