-- ==== Sys2Proof/Laws/State.lean ====
section
/-! SUPPORT. Every component of the state after every update of one record: one lemma each, true by `rfl`. -/

namespace Sys2Proof.Machine

@[simp] theorem modGroup_pending (s : State) (g : GroupIx) (f : Group → Group) :
    (s.modGroup g f).pending = s.pending := rfl
@[simp] theorem modGroup_resetActive (s : State) (g : GroupIx) (f : Group → Group) :
    (s.modGroup g f).resetActive = s.resetActive := rfl
@[simp] theorem modGroup_estop (s : State) (g : GroupIx) (f : Group → Group) :
    (s.modGroup g f).estop = s.estop := rfl
@[simp] theorem modGroup_seconds (s : State) (g : GroupIx) (f : Group → Group) :
    (s.modGroup g f).seconds = s.seconds := rfl
@[simp] theorem modGroup_ms (s : State) (g : GroupIx) (f : Group → Group) :
    (s.modGroup g f).ms = s.ms := rfl
@[simp] theorem modGroup_config (s : State) (g : GroupIx) (f : Group → Group) :
    (s.modGroup g f).config = s.config := rfl
@[simp] theorem modGroup_groups (s : State) (g : GroupIx) (f : Group → Group) :
    (s.modGroup g f).groups = modAt s.groups g f := rfl
@[simp] theorem modGroup_adu (s : State) (g : GroupIx) (f : Group → Group) :
    (s.modGroup g f).adu = s.adu := rfl
@[simp] theorem modGroup_act (s : State) (g : GroupIx) (f : Group → Group) :
    (s.modGroup g f).act = s.act := rfl
@[simp] theorem modGroup_rbu (s : State) (g : GroupIx) (f : Group → Group) :
    (s.modGroup g f).rbu = s.rbu := rfl
@[simp] theorem modGroup_gru (s : State) (g : GroupIx) (f : Group → Group) :
    (s.modGroup g f).gru = s.gru := rfl
@[simp] theorem modGroup_mku (s : State) (g : GroupIx) (f : Group → Group) :
    (s.modGroup g f).mku = s.mku := rfl
@[simp] theorem modGroup_mst (s : State) (g : GroupIx) (f : Group → Group) :
    (s.modGroup g f).mst = s.mst := rfl
@[simp] theorem modGroup_fsv (s : State) (g : GroupIx) (f : Group → Group) :
    (s.modGroup g f).fsv = s.fsv := rfl
@[simp] theorem modGroup_ports (s : State) (g : GroupIx) (f : Group → Group) :
    (s.modGroup g f).ports = s.ports := rfl
@[simp] theorem modGroup_notices (s : State) (g : GroupIx) (f : Group → Group) :
    (s.modGroup g f).notices = s.notices := rfl

@[simp] theorem modAdu_pending (s : State) (f : Advance → Advance) :
    (s.modAdu f).pending = s.pending := rfl
@[simp] theorem modAdu_resetActive (s : State) (f : Advance → Advance) :
    (s.modAdu f).resetActive = s.resetActive := rfl
@[simp] theorem modAdu_estop (s : State) (f : Advance → Advance) :
    (s.modAdu f).estop = s.estop := rfl
@[simp] theorem modAdu_seconds (s : State) (f : Advance → Advance) :
    (s.modAdu f).seconds = s.seconds := rfl
@[simp] theorem modAdu_ms (s : State) (f : Advance → Advance) :
    (s.modAdu f).ms = s.ms := rfl
@[simp] theorem modAdu_config (s : State) (f : Advance → Advance) :
    (s.modAdu f).config = s.config := rfl
@[simp] theorem modAdu_groups (s : State) (f : Advance → Advance) :
    (s.modAdu f).groups = s.groups := rfl
@[simp] theorem modAdu_adu (s : State) (f : Advance → Advance) :
    (s.modAdu f).adu = f s.adu := rfl
@[simp] theorem modAdu_act (s : State) (f : Advance → Advance) :
    (s.modAdu f).act = s.act := rfl
@[simp] theorem modAdu_rbu (s : State) (f : Advance → Advance) :
    (s.modAdu f).rbu = s.rbu := rfl
@[simp] theorem modAdu_gru (s : State) (f : Advance → Advance) :
    (s.modAdu f).gru = s.gru := rfl
@[simp] theorem modAdu_mku (s : State) (f : Advance → Advance) :
    (s.modAdu f).mku = s.mku := rfl
@[simp] theorem modAdu_mst (s : State) (f : Advance → Advance) :
    (s.modAdu f).mst = s.mst := rfl
@[simp] theorem modAdu_fsv (s : State) (f : Advance → Advance) :
    (s.modAdu f).fsv = s.fsv := rfl
@[simp] theorem modAdu_ports (s : State) (f : Advance → Advance) :
    (s.modAdu f).ports = s.ports := rfl
@[simp] theorem modAdu_notices (s : State) (f : Advance → Advance) :
    (s.modAdu f).notices = s.notices := rfl

@[simp] theorem modAct_pending (s : State) (f : Accounts → Accounts) :
    (s.modAct f).pending = s.pending := rfl
@[simp] theorem modAct_resetActive (s : State) (f : Accounts → Accounts) :
    (s.modAct f).resetActive = s.resetActive := rfl
@[simp] theorem modAct_estop (s : State) (f : Accounts → Accounts) :
    (s.modAct f).estop = s.estop := rfl
@[simp] theorem modAct_seconds (s : State) (f : Accounts → Accounts) :
    (s.modAct f).seconds = s.seconds := rfl
@[simp] theorem modAct_ms (s : State) (f : Accounts → Accounts) :
    (s.modAct f).ms = s.ms := rfl
@[simp] theorem modAct_config (s : State) (f : Accounts → Accounts) :
    (s.modAct f).config = s.config := rfl
@[simp] theorem modAct_groups (s : State) (f : Accounts → Accounts) :
    (s.modAct f).groups = s.groups := rfl
@[simp] theorem modAct_adu (s : State) (f : Accounts → Accounts) :
    (s.modAct f).adu = s.adu := rfl
@[simp] theorem modAct_act (s : State) (f : Accounts → Accounts) :
    (s.modAct f).act = f s.act := rfl
@[simp] theorem modAct_rbu (s : State) (f : Accounts → Accounts) :
    (s.modAct f).rbu = s.rbu := rfl
@[simp] theorem modAct_gru (s : State) (f : Accounts → Accounts) :
    (s.modAct f).gru = s.gru := rfl
@[simp] theorem modAct_mku (s : State) (f : Accounts → Accounts) :
    (s.modAct f).mku = s.mku := rfl
@[simp] theorem modAct_mst (s : State) (f : Accounts → Accounts) :
    (s.modAct f).mst = s.mst := rfl
@[simp] theorem modAct_fsv (s : State) (f : Accounts → Accounts) :
    (s.modAct f).fsv = s.fsv := rfl
@[simp] theorem modAct_ports (s : State) (f : Accounts → Accounts) :
    (s.modAct f).ports = s.ports := rfl
@[simp] theorem modAct_notices (s : State) (f : Accounts → Accounts) :
    (s.modAct f).notices = s.notices := rfl

@[simp] theorem modAccount_pending (s : State) (p : LineIx) (f : LineAccount → LineAccount) :
    (s.modAccount p f).pending = s.pending := rfl
@[simp] theorem modAccount_resetActive (s : State) (p : LineIx) (f : LineAccount → LineAccount) :
    (s.modAccount p f).resetActive = s.resetActive := rfl
@[simp] theorem modAccount_estop (s : State) (p : LineIx) (f : LineAccount → LineAccount) :
    (s.modAccount p f).estop = s.estop := rfl
@[simp] theorem modAccount_seconds (s : State) (p : LineIx) (f : LineAccount → LineAccount) :
    (s.modAccount p f).seconds = s.seconds := rfl
@[simp] theorem modAccount_ms (s : State) (p : LineIx) (f : LineAccount → LineAccount) :
    (s.modAccount p f).ms = s.ms := rfl
@[simp] theorem modAccount_config (s : State) (p : LineIx) (f : LineAccount → LineAccount) :
    (s.modAccount p f).config = s.config := rfl
@[simp] theorem modAccount_groups (s : State) (p : LineIx) (f : LineAccount → LineAccount) :
    (s.modAccount p f).groups = s.groups := rfl
@[simp] theorem modAccount_adu (s : State) (p : LineIx) (f : LineAccount → LineAccount) :
    (s.modAccount p f).adu = s.adu := rfl
@[simp] theorem modAccount_act (s : State) (p : LineIx) (f : LineAccount → LineAccount) :
    (s.modAccount p f).act = { s.act with lines := modAt s.act.lines p f } := rfl
@[simp] theorem modAccount_rbu (s : State) (p : LineIx) (f : LineAccount → LineAccount) :
    (s.modAccount p f).rbu = s.rbu := rfl
@[simp] theorem modAccount_gru (s : State) (p : LineIx) (f : LineAccount → LineAccount) :
    (s.modAccount p f).gru = s.gru := rfl
@[simp] theorem modAccount_mku (s : State) (p : LineIx) (f : LineAccount → LineAccount) :
    (s.modAccount p f).mku = s.mku := rfl
@[simp] theorem modAccount_mst (s : State) (p : LineIx) (f : LineAccount → LineAccount) :
    (s.modAccount p f).mst = s.mst := rfl
@[simp] theorem modAccount_fsv (s : State) (p : LineIx) (f : LineAccount → LineAccount) :
    (s.modAccount p f).fsv = s.fsv := rfl
@[simp] theorem modAccount_ports (s : State) (p : LineIx) (f : LineAccount → LineAccount) :
    (s.modAccount p f).ports = s.ports := rfl
@[simp] theorem modAccount_notices (s : State) (p : LineIx) (f : LineAccount → LineAccount) :
    (s.modAccount p f).notices = s.notices := rfl

@[simp] theorem modRbu_pending (s : State) (f : RingBuild → RingBuild) :
    (s.modRbu f).pending = s.pending := rfl
@[simp] theorem modRbu_resetActive (s : State) (f : RingBuild → RingBuild) :
    (s.modRbu f).resetActive = s.resetActive := rfl
@[simp] theorem modRbu_estop (s : State) (f : RingBuild → RingBuild) :
    (s.modRbu f).estop = s.estop := rfl
@[simp] theorem modRbu_seconds (s : State) (f : RingBuild → RingBuild) :
    (s.modRbu f).seconds = s.seconds := rfl
@[simp] theorem modRbu_ms (s : State) (f : RingBuild → RingBuild) :
    (s.modRbu f).ms = s.ms := rfl
@[simp] theorem modRbu_config (s : State) (f : RingBuild → RingBuild) :
    (s.modRbu f).config = s.config := rfl
@[simp] theorem modRbu_groups (s : State) (f : RingBuild → RingBuild) :
    (s.modRbu f).groups = s.groups := rfl
@[simp] theorem modRbu_adu (s : State) (f : RingBuild → RingBuild) :
    (s.modRbu f).adu = s.adu := rfl
@[simp] theorem modRbu_act (s : State) (f : RingBuild → RingBuild) :
    (s.modRbu f).act = s.act := rfl
@[simp] theorem modRbu_rbu (s : State) (f : RingBuild → RingBuild) :
    (s.modRbu f).rbu = f s.rbu := rfl
@[simp] theorem modRbu_gru (s : State) (f : RingBuild → RingBuild) :
    (s.modRbu f).gru = s.gru := rfl
@[simp] theorem modRbu_mku (s : State) (f : RingBuild → RingBuild) :
    (s.modRbu f).mku = s.mku := rfl
@[simp] theorem modRbu_mst (s : State) (f : RingBuild → RingBuild) :
    (s.modRbu f).mst = s.mst := rfl
@[simp] theorem modRbu_fsv (s : State) (f : RingBuild → RingBuild) :
    (s.modRbu f).fsv = s.fsv := rfl
@[simp] theorem modRbu_ports (s : State) (f : RingBuild → RingBuild) :
    (s.modRbu f).ports = s.ports := rfl
@[simp] theorem modRbu_notices (s : State) (f : RingBuild → RingBuild) :
    (s.modRbu f).notices = s.notices := rfl

@[simp] theorem modRecord_pending (s : State) (f : RingRecord → RingRecord) :
    (s.modRecord f).pending = s.pending := rfl
@[simp] theorem modRecord_resetActive (s : State) (f : RingRecord → RingRecord) :
    (s.modRecord f).resetActive = s.resetActive := rfl
@[simp] theorem modRecord_estop (s : State) (f : RingRecord → RingRecord) :
    (s.modRecord f).estop = s.estop := rfl
@[simp] theorem modRecord_seconds (s : State) (f : RingRecord → RingRecord) :
    (s.modRecord f).seconds = s.seconds := rfl
@[simp] theorem modRecord_ms (s : State) (f : RingRecord → RingRecord) :
    (s.modRecord f).ms = s.ms := rfl
@[simp] theorem modRecord_config (s : State) (f : RingRecord → RingRecord) :
    (s.modRecord f).config = s.config := rfl
@[simp] theorem modRecord_groups (s : State) (f : RingRecord → RingRecord) :
    (s.modRecord f).groups = s.groups := rfl
@[simp] theorem modRecord_adu (s : State) (f : RingRecord → RingRecord) :
    (s.modRecord f).adu = s.adu := rfl
@[simp] theorem modRecord_act (s : State) (f : RingRecord → RingRecord) :
    (s.modRecord f).act = s.act := rfl
@[simp] theorem modRecord_rbu (s : State) (f : RingRecord → RingRecord) :
    (s.modRecord f).rbu = { s.rbu with record := f s.rbu.record } := rfl
@[simp] theorem modRecord_gru (s : State) (f : RingRecord → RingRecord) :
    (s.modRecord f).gru = s.gru := rfl
@[simp] theorem modRecord_mku (s : State) (f : RingRecord → RingRecord) :
    (s.modRecord f).mku = s.mku := rfl
@[simp] theorem modRecord_mst (s : State) (f : RingRecord → RingRecord) :
    (s.modRecord f).mst = s.mst := rfl
@[simp] theorem modRecord_fsv (s : State) (f : RingRecord → RingRecord) :
    (s.modRecord f).fsv = s.fsv := rfl
@[simp] theorem modRecord_ports (s : State) (f : RingRecord → RingRecord) :
    (s.modRecord f).ports = s.ports := rfl
@[simp] theorem modRecord_notices (s : State) (f : RingRecord → RingRecord) :
    (s.modRecord f).notices = s.notices := rfl

@[simp] theorem modPiece_pending (s : State) (pc : Piece) (f : PieceRecord → PieceRecord) :
    (s.modPiece pc f).pending = s.pending := rfl
@[simp] theorem modPiece_resetActive (s : State) (pc : Piece) (f : PieceRecord → PieceRecord) :
    (s.modPiece pc f).resetActive = s.resetActive := rfl
@[simp] theorem modPiece_estop (s : State) (pc : Piece) (f : PieceRecord → PieceRecord) :
    (s.modPiece pc f).estop = s.estop := rfl
@[simp] theorem modPiece_seconds (s : State) (pc : Piece) (f : PieceRecord → PieceRecord) :
    (s.modPiece pc f).seconds = s.seconds := rfl
@[simp] theorem modPiece_ms (s : State) (pc : Piece) (f : PieceRecord → PieceRecord) :
    (s.modPiece pc f).ms = s.ms := rfl
@[simp] theorem modPiece_config (s : State) (pc : Piece) (f : PieceRecord → PieceRecord) :
    (s.modPiece pc f).config = s.config := rfl
@[simp] theorem modPiece_groups (s : State) (pc : Piece) (f : PieceRecord → PieceRecord) :
    (s.modPiece pc f).groups = s.groups := rfl
@[simp] theorem modPiece_adu (s : State) (pc : Piece) (f : PieceRecord → PieceRecord) :
    (s.modPiece pc f).adu = s.adu := rfl
@[simp] theorem modPiece_act (s : State) (pc : Piece) (f : PieceRecord → PieceRecord) :
    (s.modPiece pc f).act = s.act := rfl
@[simp] theorem modPiece_rbu (s : State) (pc : Piece) (f : PieceRecord → PieceRecord) :
    (s.modPiece pc f).rbu = { s.rbu with record := { s.rbu.record with pieces := modAt s.rbu.record.pieces pc.idx f } } := rfl
@[simp] theorem modPiece_gru (s : State) (pc : Piece) (f : PieceRecord → PieceRecord) :
    (s.modPiece pc f).gru = s.gru := rfl
@[simp] theorem modPiece_mku (s : State) (pc : Piece) (f : PieceRecord → PieceRecord) :
    (s.modPiece pc f).mku = s.mku := rfl
@[simp] theorem modPiece_mst (s : State) (pc : Piece) (f : PieceRecord → PieceRecord) :
    (s.modPiece pc f).mst = s.mst := rfl
@[simp] theorem modPiece_fsv (s : State) (pc : Piece) (f : PieceRecord → PieceRecord) :
    (s.modPiece pc f).fsv = s.fsv := rfl
@[simp] theorem modPiece_ports (s : State) (pc : Piece) (f : PieceRecord → PieceRecord) :
    (s.modPiece pc f).ports = s.ports := rfl
@[simp] theorem modPiece_notices (s : State) (pc : Piece) (f : PieceRecord → PieceRecord) :
    (s.modPiece pc f).notices = s.notices := rfl

@[simp] theorem modLine_pending (s : State) (p : LineIx) (f : Line → Line) :
    (s.modLine p f).pending = s.pending := rfl
@[simp] theorem modLine_resetActive (s : State) (p : LineIx) (f : Line → Line) :
    (s.modLine p f).resetActive = s.resetActive := rfl
@[simp] theorem modLine_estop (s : State) (p : LineIx) (f : Line → Line) :
    (s.modLine p f).estop = s.estop := rfl
@[simp] theorem modLine_seconds (s : State) (p : LineIx) (f : Line → Line) :
    (s.modLine p f).seconds = s.seconds := rfl
@[simp] theorem modLine_ms (s : State) (p : LineIx) (f : Line → Line) :
    (s.modLine p f).ms = s.ms := rfl
@[simp] theorem modLine_config (s : State) (p : LineIx) (f : Line → Line) :
    (s.modLine p f).config = s.config := rfl
@[simp] theorem modLine_groups (s : State) (p : LineIx) (f : Line → Line) :
    (s.modLine p f).groups = s.groups := rfl
@[simp] theorem modLine_adu (s : State) (p : LineIx) (f : Line → Line) :
    (s.modLine p f).adu = s.adu := rfl
@[simp] theorem modLine_act (s : State) (p : LineIx) (f : Line → Line) :
    (s.modLine p f).act = s.act := rfl
@[simp] theorem modLine_rbu (s : State) (p : LineIx) (f : Line → Line) :
    (s.modLine p f).rbu = s.rbu := rfl
@[simp] theorem modLine_gru (s : State) (p : LineIx) (f : Line → Line) :
    (s.modLine p f).gru = { s.gru with lines := modAt s.gru.lines p f } := rfl
@[simp] theorem modLine_mku (s : State) (p : LineIx) (f : Line → Line) :
    (s.modLine p f).mku = s.mku := rfl
@[simp] theorem modLine_mst (s : State) (p : LineIx) (f : Line → Line) :
    (s.modLine p f).mst = s.mst := rfl
@[simp] theorem modLine_fsv (s : State) (p : LineIx) (f : Line → Line) :
    (s.modLine p f).fsv = s.fsv := rfl
@[simp] theorem modLine_ports (s : State) (p : LineIx) (f : Line → Line) :
    (s.modLine p f).ports = s.ports := rfl
@[simp] theorem modLine_notices (s : State) (p : LineIx) (f : Line → Line) :
    (s.modLine p f).notices = s.notices := rfl

@[simp] theorem modMku_pending (s : State) (f : Muck → Muck) :
    (s.modMku f).pending = s.pending := rfl
@[simp] theorem modMku_resetActive (s : State) (f : Muck → Muck) :
    (s.modMku f).resetActive = s.resetActive := rfl
@[simp] theorem modMku_estop (s : State) (f : Muck → Muck) :
    (s.modMku f).estop = s.estop := rfl
@[simp] theorem modMku_seconds (s : State) (f : Muck → Muck) :
    (s.modMku f).seconds = s.seconds := rfl
@[simp] theorem modMku_ms (s : State) (f : Muck → Muck) :
    (s.modMku f).ms = s.ms := rfl
@[simp] theorem modMku_config (s : State) (f : Muck → Muck) :
    (s.modMku f).config = s.config := rfl
@[simp] theorem modMku_groups (s : State) (f : Muck → Muck) :
    (s.modMku f).groups = s.groups := rfl
@[simp] theorem modMku_adu (s : State) (f : Muck → Muck) :
    (s.modMku f).adu = s.adu := rfl
@[simp] theorem modMku_act (s : State) (f : Muck → Muck) :
    (s.modMku f).act = s.act := rfl
@[simp] theorem modMku_rbu (s : State) (f : Muck → Muck) :
    (s.modMku f).rbu = s.rbu := rfl
@[simp] theorem modMku_gru (s : State) (f : Muck → Muck) :
    (s.modMku f).gru = s.gru := rfl
@[simp] theorem modMku_mku (s : State) (f : Muck → Muck) :
    (s.modMku f).mku = f s.mku := rfl
@[simp] theorem modMku_mst (s : State) (f : Muck → Muck) :
    (s.modMku f).mst = s.mst := rfl
@[simp] theorem modMku_fsv (s : State) (f : Muck → Muck) :
    (s.modMku f).fsv = s.fsv := rfl
@[simp] theorem modMku_ports (s : State) (f : Muck → Muck) :
    (s.modMku f).ports = s.ports := rfl
@[simp] theorem modMku_notices (s : State) (f : Muck → Muck) :
    (s.modMku f).notices = s.notices := rfl

@[simp] theorem modMeas_pending (s : State) (m : MeasIx) (f : MeasRecord → MeasRecord) :
    (s.modMeas m f).pending = s.pending := rfl
@[simp] theorem modMeas_resetActive (s : State) (m : MeasIx) (f : MeasRecord → MeasRecord) :
    (s.modMeas m f).resetActive = s.resetActive := rfl
@[simp] theorem modMeas_estop (s : State) (m : MeasIx) (f : MeasRecord → MeasRecord) :
    (s.modMeas m f).estop = s.estop := rfl
@[simp] theorem modMeas_seconds (s : State) (m : MeasIx) (f : MeasRecord → MeasRecord) :
    (s.modMeas m f).seconds = s.seconds := rfl
@[simp] theorem modMeas_ms (s : State) (m : MeasIx) (f : MeasRecord → MeasRecord) :
    (s.modMeas m f).ms = s.ms := rfl
@[simp] theorem modMeas_config (s : State) (m : MeasIx) (f : MeasRecord → MeasRecord) :
    (s.modMeas m f).config = s.config := rfl
@[simp] theorem modMeas_groups (s : State) (m : MeasIx) (f : MeasRecord → MeasRecord) :
    (s.modMeas m f).groups = s.groups := rfl
@[simp] theorem modMeas_adu (s : State) (m : MeasIx) (f : MeasRecord → MeasRecord) :
    (s.modMeas m f).adu = s.adu := rfl
@[simp] theorem modMeas_act (s : State) (m : MeasIx) (f : MeasRecord → MeasRecord) :
    (s.modMeas m f).act = s.act := rfl
@[simp] theorem modMeas_rbu (s : State) (m : MeasIx) (f : MeasRecord → MeasRecord) :
    (s.modMeas m f).rbu = s.rbu := rfl
@[simp] theorem modMeas_gru (s : State) (m : MeasIx) (f : MeasRecord → MeasRecord) :
    (s.modMeas m f).gru = s.gru := rfl
@[simp] theorem modMeas_mku (s : State) (m : MeasIx) (f : MeasRecord → MeasRecord) :
    (s.modMeas m f).mku = s.mku := rfl
@[simp] theorem modMeas_mst (s : State) (m : MeasIx) (f : MeasRecord → MeasRecord) :
    (s.modMeas m f).mst = { s.mst with records := modAt s.mst.records m f } := rfl
@[simp] theorem modMeas_fsv (s : State) (m : MeasIx) (f : MeasRecord → MeasRecord) :
    (s.modMeas m f).fsv = s.fsv := rfl
@[simp] theorem modMeas_ports (s : State) (m : MeasIx) (f : MeasRecord → MeasRecord) :
    (s.modMeas m f).ports = s.ports := rfl
@[simp] theorem modMeas_notices (s : State) (m : MeasIx) (f : MeasRecord → MeasRecord) :
    (s.modMeas m f).notices = s.notices := rfl

@[simp] theorem modFsv_pending (s : State) (f : Faults → Faults) :
    (s.modFsv f).pending = s.pending := rfl
@[simp] theorem modFsv_resetActive (s : State) (f : Faults → Faults) :
    (s.modFsv f).resetActive = s.resetActive := rfl
@[simp] theorem modFsv_estop (s : State) (f : Faults → Faults) :
    (s.modFsv f).estop = s.estop := rfl
@[simp] theorem modFsv_seconds (s : State) (f : Faults → Faults) :
    (s.modFsv f).seconds = s.seconds := rfl
@[simp] theorem modFsv_ms (s : State) (f : Faults → Faults) :
    (s.modFsv f).ms = s.ms := rfl
@[simp] theorem modFsv_config (s : State) (f : Faults → Faults) :
    (s.modFsv f).config = s.config := rfl
@[simp] theorem modFsv_groups (s : State) (f : Faults → Faults) :
    (s.modFsv f).groups = s.groups := rfl
@[simp] theorem modFsv_adu (s : State) (f : Faults → Faults) :
    (s.modFsv f).adu = s.adu := rfl
@[simp] theorem modFsv_act (s : State) (f : Faults → Faults) :
    (s.modFsv f).act = s.act := rfl
@[simp] theorem modFsv_rbu (s : State) (f : Faults → Faults) :
    (s.modFsv f).rbu = s.rbu := rfl
@[simp] theorem modFsv_gru (s : State) (f : Faults → Faults) :
    (s.modFsv f).gru = s.gru := rfl
@[simp] theorem modFsv_mku (s : State) (f : Faults → Faults) :
    (s.modFsv f).mku = s.mku := rfl
@[simp] theorem modFsv_mst (s : State) (f : Faults → Faults) :
    (s.modFsv f).mst = s.mst := rfl
@[simp] theorem modFsv_fsv (s : State) (f : Faults → Faults) :
    (s.modFsv f).fsv = f s.fsv := rfl
@[simp] theorem modFsv_ports (s : State) (f : Faults → Faults) :
    (s.modFsv f).ports = s.ports := rfl
@[simp] theorem modFsv_notices (s : State) (f : Faults → Faults) :
    (s.modFsv f).notices = s.notices := rfl

@[simp] theorem modPort_pending (s : State) (st : Station) (f : Port → Port) :
    (s.modPort st f).pending = s.pending := rfl
@[simp] theorem modPort_resetActive (s : State) (st : Station) (f : Port → Port) :
    (s.modPort st f).resetActive = s.resetActive := rfl
@[simp] theorem modPort_estop (s : State) (st : Station) (f : Port → Port) :
    (s.modPort st f).estop = s.estop := rfl
@[simp] theorem modPort_seconds (s : State) (st : Station) (f : Port → Port) :
    (s.modPort st f).seconds = s.seconds := rfl
@[simp] theorem modPort_ms (s : State) (st : Station) (f : Port → Port) :
    (s.modPort st f).ms = s.ms := rfl
@[simp] theorem modPort_config (s : State) (st : Station) (f : Port → Port) :
    (s.modPort st f).config = s.config := rfl
@[simp] theorem modPort_groups (s : State) (st : Station) (f : Port → Port) :
    (s.modPort st f).groups = s.groups := rfl
@[simp] theorem modPort_adu (s : State) (st : Station) (f : Port → Port) :
    (s.modPort st f).adu = s.adu := rfl
@[simp] theorem modPort_act (s : State) (st : Station) (f : Port → Port) :
    (s.modPort st f).act = s.act := rfl
@[simp] theorem modPort_rbu (s : State) (st : Station) (f : Port → Port) :
    (s.modPort st f).rbu = s.rbu := rfl
@[simp] theorem modPort_gru (s : State) (st : Station) (f : Port → Port) :
    (s.modPort st f).gru = s.gru := rfl
@[simp] theorem modPort_mku (s : State) (st : Station) (f : Port → Port) :
    (s.modPort st f).mku = s.mku := rfl
@[simp] theorem modPort_mst (s : State) (st : Station) (f : Port → Port) :
    (s.modPort st f).mst = s.mst := rfl
@[simp] theorem modPort_fsv (s : State) (st : Station) (f : Port → Port) :
    (s.modPort st f).fsv = s.fsv := rfl
@[simp] theorem modPort_ports (s : State) (st : Station) (f : Port → Port) :
    (s.modPort st f).ports = modAt s.ports st.idx f := rfl
@[simp] theorem modPort_notices (s : State) (st : Station) (f : Port → Port) :
    (s.modPort st f).notices = s.notices := rfl

@[simp] theorem send_pending (s : State) (n : Notice) :
    (s.send n).pending = s.pending := rfl
@[simp] theorem send_resetActive (s : State) (n : Notice) :
    (s.send n).resetActive = s.resetActive := rfl
@[simp] theorem send_estop (s : State) (n : Notice) :
    (s.send n).estop = s.estop := rfl
@[simp] theorem send_seconds (s : State) (n : Notice) :
    (s.send n).seconds = s.seconds := rfl
@[simp] theorem send_ms (s : State) (n : Notice) :
    (s.send n).ms = s.ms := rfl
@[simp] theorem send_config (s : State) (n : Notice) :
    (s.send n).config = s.config := rfl
@[simp] theorem send_groups (s : State) (n : Notice) :
    (s.send n).groups = s.groups := rfl
@[simp] theorem send_adu (s : State) (n : Notice) :
    (s.send n).adu = s.adu := rfl
@[simp] theorem send_act (s : State) (n : Notice) :
    (s.send n).act = s.act := rfl
@[simp] theorem send_rbu (s : State) (n : Notice) :
    (s.send n).rbu = s.rbu := rfl
@[simp] theorem send_gru (s : State) (n : Notice) :
    (s.send n).gru = s.gru := rfl
@[simp] theorem send_mku (s : State) (n : Notice) :
    (s.send n).mku = s.mku := rfl
@[simp] theorem send_mst (s : State) (n : Notice) :
    (s.send n).mst = s.mst := rfl
@[simp] theorem send_fsv (s : State) (n : Notice) :
    (s.send n).fsv = s.fsv := rfl
@[simp] theorem send_ports (s : State) (n : Notice) :
    (s.send n).ports = s.ports := rfl
@[simp] theorem send_notices (s : State) (n : Notice) :
    (s.send n).notices = s.notices ++ [n] := rfl

@[simp] theorem setEvent_pending (s : State) (e : Event) : (s.setEvent e).pending = s.pending := rfl
@[simp] theorem setEvent_resetActive (s : State) (e : Event) : (s.setEvent e).resetActive = s.resetActive := rfl
@[simp] theorem setEvent_estop (s : State) (e : Event) : (s.setEvent e).estop = s.estop := rfl
@[simp] theorem setEvent_seconds (s : State) (e : Event) : (s.setEvent e).seconds = s.seconds := rfl
@[simp] theorem setEvent_ms (s : State) (e : Event) : (s.setEvent e).ms = s.ms := rfl
@[simp] theorem setEvent_config (s : State) (e : Event) : (s.setEvent e).config = s.config := rfl
@[simp] theorem setEvent_groups (s : State) (e : Event) : (s.setEvent e).groups = s.groups := rfl
@[simp] theorem setEvent_adu (s : State) (e : Event) : (s.setEvent e).adu = s.adu := rfl
@[simp] theorem setEvent_act (s : State) (e : Event) : (s.setEvent e).act = s.act := rfl
@[simp] theorem setEvent_rbu (s : State) (e : Event) : (s.setEvent e).rbu = s.rbu := rfl
@[simp] theorem setEvent_gru (s : State) (e : Event) : (s.setEvent e).gru = s.gru := rfl
@[simp] theorem setEvent_mku (s : State) (e : Event) : (s.setEvent e).mku = s.mku := rfl
@[simp] theorem setEvent_mst (s : State) (e : Event) : (s.setEvent e).mst = s.mst := rfl
@[simp] theorem setEvent_fsv (s : State) (e : Event) : (s.setEvent e).fsv = s.fsv := rfl
@[simp] theorem setEvent_notices (s : State) (e : Event) : (s.setEvent e).notices = s.notices := rfl

@[simp] theorem judgeRate_eq (s : State) : s.judgeRate = { s with adu := { s.adu with rateLevel := s.rateFor } } := rfl

/-! ## Reading one record after an update -/

theorem modGroup_group (s : State) (g h : GroupIx) (f : Group → Group) :
    (s.modGroup g f).group h = if g = h then f (s.group h) else s.group h := modAt_getElem _ _ _ _

theorem modAccount_account (s : State) (p q : LineIx) (f : LineAccount → LineAccount) :
    (s.modAccount p f).account q = if p = q then f (s.account q) else s.account q := modAt_getElem _ _ _ _

theorem modLine_line (s : State) (p q : LineIx) (f : Line → Line) :
    (s.modLine p f).line q = if p = q then f (s.line q) else s.line q := modAt_getElem _ _ _ _

theorem modMeas_meas (s : State) (m k : MeasIx) (f : MeasRecord → MeasRecord) :
    (s.modMeas m f).meas k = if m = k then f (s.meas k) else s.meas k := modAt_getElem _ _ _ _

theorem Piece.idx_inj {a b : Piece} : a.idx = b.idx ↔ a = b := by cases a <;> cases b <;> decide

theorem Station.idx_inj {a b : Station} : a.idx = b.idx ↔ a = b := by cases a <;> cases b <;> decide

theorem modPiece_piece (s : State) (a b : Piece) (f : PieceRecord → PieceRecord) :
    (s.modPiece a f).piece b = if a = b then f (s.piece b) else s.piece b := by
  have h := modAt_getElem s.rbu.record.pieces a.idx b.idx f
  simp only [Piece.idx_inj] at h
  exact h

theorem modPort_port (s : State) (a b : Station) (f : Port → Port) :
    (s.modPort a f).port b = if a = b then f (s.port b) else s.port b := by
  have h := modAt_getElem s.ports a.idx b.idx f
  simp only [Station.idx_inj] at h
  exact h

end Sys2Proof.Machine
end

