-- ==== Sys2Proof/Laws/Settle.lean ====
section
/-! SUPPORT. How what a command sets going comes to rest: what `settle` does on a quiet state, how it takes one thing after another,
what it keeps, and what the measured conditions depend on. -/

namespace Sys2Proof.Machine

theorem micro_eq_none {s : State} : s.micro = none ↔ s.quiet = true := by
  unfold State.micro State.quiet
  cases h : s.unmarked <;> cases hn : s.notices <;> simp

theorem settle_of_quiet {s : State} (n : Nat) (h : s.quiet = true) : settle n s = s := by
  cases n with
  | zero => rfl
  | succ n => unfold settle; rw [micro_eq_none.mpr h]

/-- A quiet state is settled. -/
theorem settled_of_quiet {s : State} (h : s.quiet = true) : s.settled = s := settle_of_quiet _ h

/-- A measured condition that is not as it is marked is reported first. -/
theorem settle_report {s : State} {key : FaultKey} (n : Nat) (h : s.unmarked = some key) :
    settle (n + 1) s = settle n (s.report key) := by
  have : s.micro = some (s.report key) := by unfold State.micro; rw [h]
  rw [settle, this]

/-- Where every condition is as it is marked, the oldest notice is taken. -/
theorem settle_notice {s : State} {x : Notice} {rest : List Notice} (n : Nat) (h : s.unmarked = none)
    (hn : s.notices = x :: rest) : settle (n + 1) s = settle n ({ s with notices := rest }.take x) := by
  have : s.micro = some ({ s with notices := rest }.take x) := by unfold State.micro; rw [h, hn]
  rw [settle, this]

/-- A property that each report and each notice keeps is kept by `settle`. -/
theorem settle_keeps (P : State → Prop) (hr : ∀ s key, P s → P (s.report key))
    (hn : ∀ (s : State) (x : Notice) (rest : List Notice), s.notices = x :: rest → P s → P ({ s with notices := rest }.take x))
    (n : Nat) (s : State) (h : P s) : P (settle n s) := by
  induction n generalizing s with
  | zero => exact h
  | succ n ih =>
    unfold settle
    cases hm : s.micro with
    | none => exact h
    | some t =>
      refine ih t ?_
      unfold State.micro at hm
      split at hm
      · cases hm; exact hr _ _ h
      · split at hm
        · cases hm
        · rename_i x rest hs
          cases hm; exact hn _ _ _ hs h

/-! ## What the measured conditions depend on -/

/-- All that the measured conditions and their marks are judged from. -/
structure Watched where
  config : ConfigSet
  records : Vector MeasRecord 15
  cycle : Cycle
  phases : Vector Phase 6
  beltPermit : Bool
  seen : Vector (Bool × Bool) 4
  ring : RingState
  marks : Vector Bool 55

def State.watched (s : State) : Watched :=
  { config := s.config, records := s.mst.records, cycle := s.adu.cycle, phases := s.gru.lines.map Line.phase
    beltPermit := s.mku.beltPermit, seen := s.ports.map fun p => (p.present, p.heard), ring := s.rbu.record.state
    marks := s.fsv.marks }

theorem phase_of_watched {s t : State} (h : s.watched = t.watched) (p : LineIx) : (s.line p).phase = (t.line p).phase := by
  have : (s.gru.lines.map Line.phase)[p] = (t.gru.lines.map Line.phase)[p] := by
    rw [show s.gru.lines.map Line.phase = t.gru.lines.map Line.phase from congrArg Watched.phases h]
  simpa [State.line] using this

theorem seen_of_watched {s t : State} (h : s.watched = t.watched) (st : Station) :
    (s.port st).present = (t.port st).present ∧ (s.port st).heard = (t.port st).heard := by
  have : (s.ports.map fun p => (p.present, p.heard))[st.idx] = (t.ports.map fun p => (p.present, p.heard))[st.idx] := by
    rw [show (s.ports.map fun p => (p.present, p.heard)) = t.ports.map fun p => (p.present, p.heard) from congrArg Watched.seen h]
  simpa [State.port] using this

theorem supply_of_watched {s t : State} (h : s.watched = t.watched) (m : MeasIx) : s.supply m = t.supply m := by
  have hr : s.mst.records = t.mst.records := congrArg Watched.records h
  have hc : s.config = t.config := congrArg Watched.config h
  unfold State.supply State.meas State.item; rw [hr, hc]

theorem needed_of_watched {s t : State} (h : s.watched = t.watched) (m : MeasIx) : s.needed m = t.needed m := by
  have hy : s.adu.cycle = t.adu.cycle := congrArg Watched.cycle h
  have hb : s.mku.beltPermit = t.mku.beltPermit := congrArg Watched.beltPermit h
  simp only [State.needed, hy, hb, phase_of_watched h]

theorem obliged_of_watched {s t : State} (h : s.watched = t.watched) (st : Station) : s.obliged st = t.obliged st := by
  have hy : s.adu.cycle = t.adu.cycle := congrArg Watched.cycle h
  have hb : s.mku.beltPermit = t.mku.beltPermit := congrArg Watched.beltPermit h
  have hg : s.rbu.record.state = t.rbu.record.state := congrArg Watched.ring h
  cases st <;> simp only [State.obliged, hy, hb, hg, phase_of_watched h, (seen_of_watched h _).2]

/-- The measured conditions are judged from what is watched. -/
theorem condition_of_watched {s t : State} (h : s.watched = t.watched) (key : FaultKey) : s.condition key = t.condition key := by
  have hc : s.config = t.config := congrArg Watched.config h
  have hi : ∀ i, s.item i = t.item i := fun i => by unfold State.item; rw [hc]
  unfold State.condition State.levelTest
  cases key with
  | torqueHigh => dsimp only; rw [needed_of_watched h, supply_of_watched h, hi]
  | faceLow => dsimp only; rw [needed_of_watched h, supply_of_watched h, hi]
  | faceHigh => dsimp only; rw [needed_of_watched h, supply_of_watched h, hi]
  | measInvalid m => dsimp only; rw [needed_of_watched h, supply_of_watched h]
  | stationSilent st => dsimp only; rw [obliged_of_watched h, (seen_of_watched h _).1]
  | _ => rfl

/-- Whether a condition is not as it is marked is judged from what is watched. -/
theorem unmarked_of_watched {s t : State} (h : s.watched = t.watched) : s.unmarked = t.unmarked := by
  have hm : s.fsv.marks = t.fsv.marks := congrArg Watched.marks h
  unfold State.unmarked
  congr 1
  funext k
  rw [condition_of_watched h, Faults.marked, Faults.marked, hm]

/-- A quiet state stays quiet under a change that touches nothing watched and sends nothing. -/
theorem quiet_of_watched {s t : State} (h : s.watched = t.watched) (hn : s.notices = t.notices) : s.quiet = t.quiet := by
  unfold State.quiet; rw [unmarked_of_watched h, hn]

end Sys2Proof.Machine
end

