-- ==== Sys2Proof/Laws/Request.lean ====
section
/-! SUPPORT. How a command runs in a part at rest: an event whose effect sets nothing going, a request and its answer, the notices
of group changes that come to nothing while the claim queue is empty, and when a queued claim is granted. -/

namespace Sys2Proof.Machine

/-- A command's effect with RESET released. -/
theorem run_awake {s : State} (h : s.resetActive = false) (f : State → State) : s.run f = .next (f s) := by
  simp [State.run, h]

theorem calm_iff {s : State} : s.calm = true ↔ s.resetActive = false ∧ s.quiet = true := by
  simp [State.calm]

theorem ready_iff {s : State} {st : Station} :
    s.ready st = true ↔ s.resetActive = false ∧ (s.attended st).quiet = true := by
  simp [State.ready]

/-- In a part at rest a command whose effect leaves nothing waiting answers that effect. -/
theorem run_calm {s t : State} {f : State → State} (h : s.calm = true) (hf : f s = t) (ht : t.quiet = true) :
    s.run (fun u => (f u).settled) = .next t := by
  obtain ⟨hr, -⟩ := calm_iff.mp h
  rw [run_awake hr, hf, settled_of_quiet ht]

theorem watched_modPort (s : State) (st : Station) (f : Port → Port)
    (h : ∀ p, (f p).present = p.present ∧ (f p).heard = p.heard) : (s.modPort st f).watched = s.watched := by
  have : (s.modPort st f).ports.map (fun p => (p.present, p.heard)) = s.ports.map fun p => (p.present, p.heard) :=
    map_modAt _ _ _ _ fun p => by rw [(h p).1, (h p).2]
  unfold State.watched
  rw [this]
  rfl

@[simp] theorem watched_setEvent (s : State) (e : Event) : (s.setEvent e).watched = s.watched :=
  watched_modPort _ _ _ fun _ => ⟨rfl, rfl⟩

@[simp] theorem watched_answer (s : State) (st : Station) (code : Nat) (r : Reply) :
    (s.answer st code r).watched = s.watched := watched_modPort _ _ _ fun _ => ⟨rfl, rfl⟩

@[simp] theorem quiet_answer (s : State) (st : Station) (code : Nat) (r : Reply) :
    (s.answer st code r).quiet = s.quiet := quiet_of_watched (watched_answer ..) rfl

@[simp] theorem quiet_setEvent (s : State) (e : Event) : (s.setEvent e).quiet = s.quiet :=
  quiet_of_watched (watched_setEvent ..) rfl

/-- A request whose owner leaves nothing waiting is its owner's effect with the answer in the slot. -/
theorem run_request {s t : State} {st : Station} {code : Nat} {owner : State → State × Reply} {r : Reply}
    (h : s.ready st = true) (ho : owner (s.attended st) = (t, r)) (ht : t.quiet = true) :
    s.run (fun u => u.request st code owner) = .next (t.answer st code r) := by
  obtain ⟨hr, hq⟩ := ready_iff.mp h
  have ha : ((s.endFrame st).renewPresence st).settled = s.attended st := settled_of_quiet hq
  rw [run_awake hr]
  unfold State.request
  rw [ha, ho]
  exact congrArg _ (settled_of_quiet ((quiet_answer t st code r).trans ht))

/-- A request that its owner refuses is the answer alone. -/
theorem run_refused {s : State} {st : Station} {code : Nat} {owner : State → State × Reply} {r : Reply}
    (h : s.ready st = true) (ho : owner (s.attended st) = (s.attended st, r)) :
    s.run (fun u => u.request st code owner) = .next ((s.attended st).answer st code r) :=
  run_request h ho (ready_iff.mp h).2

/-! ## Changes of groups -/

/-- The state notices of a change of groups, in order of index (R25). -/
def changeNotices (s : State) (f : GroupIx → Group → Group) : List Notice :=
  allGroups.filterMap fun g =>
    if (s.group g).state != (f g (s.group g)).state then some (Group.notice g (s.group g) (f g (s.group g))) else none

theorem foldl_send (l : List GroupIx) (c : GroupIx → Bool) (n : GroupIx → Notice) (t : State) :
    l.foldl (fun u g => if c g then u.send (n g) else u) t =
      { t with notices := t.notices ++ l.filterMap fun g => if c g then some (n g) else none } := by
  induction l generalizing t with
  | nil => simp
  | cons g l ih =>
    rw [List.foldl_cons, ih]
    by_cases hc : c g = true
    · simp [hc, State.send]
    · simp [hc]

/-- A change of groups changes the groups and sends their notices. -/
theorem changeGroups_eq (s : State) (f : GroupIx → Group → Group) :
    s.changeGroups f = { s with groups := mapIx s.groups f, notices := s.notices ++ changeNotices s f } := by
  unfold State.changeGroups
  rw [foldl_send]
  unfold changeNotices
  congr 2

/-- Notices that tell of no arrival. -/
def noArrivals (l : List Notice) : Prop := ∀ n ∈ l, ∃ g st owner, n = .groupState g st owner none

theorem takeGroupState_none {s : State} (h : s.rbu.queue = []) (g : GroupIx) (st : GroupState) :
    s.takeGroupState g st none = s := by
  cases st <;> simp [State.takeGroupState, State.examineHead, h]

/-- With an empty claim queue, notices that tell of no arrival come to nothing. -/
theorem settle_noArrivals (n : Nat) (s : State) (hu : s.unmarked = none) (hq : s.rbu.queue = [])
    (hl : s.notices.length ≤ n) (hn : noArrivals s.notices) : settle n s = { s with notices := [] } := by
  induction n generalizing s with
  | zero =>
    have : s.notices = [] := List.eq_nil_of_length_eq_zero (Nat.le_zero.mp hl)
    rw [settle]; rw [← this]
  | succ n ih =>
    cases hs : s.notices with
    | nil =>
      have hquiet : s.quiet = true := by simp [State.quiet, hu, hs]
      rw [settle_of_quiet _ hquiet, ← hs]
    | cons x rest =>
      rw [settle_notice n hu hs]
      obtain ⟨g, st, owner, rfl⟩ := hn x (by simp [hs])
      have ht : ({ s with notices := rest } : State).take (.groupState g st owner none) = { s with notices := rest } :=
        takeGroupState_none (s := { s with notices := rest }) hq g st
      rw [ht]
      refine ih _ (by rw [← hu]; exact unmarked_of_watched rfl) hq ?_ ?_
      · simp only; rw [hs] at hl; simpa using hl
      · intro y hy; exact hn y (by rw [hs]; exact List.mem_cons_of_mem _ hy)

theorem changeNotices_length (s : State) (f : GroupIx → Group → Group) : (changeNotices s f).length ≤ 10 :=
  (List.length_filterMap_le ..).trans (by simp [allGroups])

/-- The lent groups are those in RETRACT, CLEAR and RETURN (1.2). -/
theorem Group.lent_eq (r : Group) : r.lent = [GroupState.retract, .clear, .returning].contains r.state := by
  cases h : r.state <;> simp [Group.lent, h]

/-- The grant conditions of Table 4-6 all hold exactly for a claimable piece (R77, R81). -/
theorem grantChecks_pass_iff (s : State) (pc : Piece) : firstReason (s.grantChecks pc) = none ↔ s.claimable pc := by
  simp only [State.grantChecks, firstReason, State.claimable, State.lentCount, Group.lent_eq]
  split_ifs <;> simp_all [List.all_eq_true]

end Sys2Proof.Machine
end

