-- ==== Sys2Proof/Tests/Slice0.lean ====
section
/-! SUPPORT. Tests: ill-formed commands that the check refuses, small examples whose values the manual gives, and for each statement
with premises a witness that meets them. A premise that nothing waits in the state a statement names is shown of the state that the
command answers, which is that state but for the slot. -/

namespace Sys2Proof.Machine

-- One theorem at a time: many kernel evaluations at once need a stack each.
set_option Elab.async false

/-! ## Ill-formed commands -/

theorem test_configure_pairs_fit : Instr.wellFormed (.configure (List.replicate 8 (1, 1))) = true := by decide

theorem test_configure_pairs_do_not_fit (pairs : List (Payload × Payload)) (h : pairs.length = 32768) :
    Instr.wellFormed (.configure pairs) = false := by simp [Instr.wellFormed, pairsFit, h]

theorem test_measure_pairs_do_not_fit (st : Station) (pairs : List (Payload × Payload)) (h : pairs.length = 32768) :
    Instr.wellFormed (.measure st pairs) = false := by simp [Instr.wellFormed, pairsFit, h]

theorem test_nine_strokes_are_refused : Instr.wellFormed (.referenceStrokes (List.replicate 9 0)) = false := by decide

theorem test_sixteen_extra_bits_are_refused : Instr.wellFormed (.frameEnd .cabin [] 16) = false := by decide

theorem test_fault_clear_of_class_0_is_refused : Instr.wellFormed (.faultClear .cabin 0 0) = false := by decide

/-! ## Words (12.1, 12.2) -/

/-- The header of GROUT's LINE SUSPEND: request, ID 3, code 24, record 0. -/
theorem test_header_of_line_suspend : requestHeader .grout 24 0 = 0b0001100110000000#16 := by decide

/-- The header of a read of view 12 from ERECTOR: read, ID 2, view 12, and an odd number of ones below bit 15... made even. -/
theorem test_header_of_a_read : readHeader .erector 12 0 = 0b0101000011000000#16 := by decide

/-- An absent field's word (R173). -/
theorem test_absent_word : linkWord absentWord = 0xFFFF#16 := by decide

/-- The constants of view 15 (R174). -/
theorem test_view_15 : State.reset.viewRecords .muck 15 = [[8610#15, 1#15]] := by decide

/-- The fraction word of T_2 in the flush of 3.7: whole part 88, word 23,779. -/
theorem test_accumulator_words : accumulator 5814726 = [0#15, 88#15, 23779#15] := by decide

/-- No table row gives bits. -/
theorem test_no_table_word : decodeTableWord 16 0 = none := rfl

/-! ## A part in use -/

/-- The next state that a command answers. -/
def after (i : Instr) (s : State) : State :=
  match exec i s with
  | .next t => t
  | _ => s

/-- A part at STANDSTILL with its groups referenced in HOLD, every station present and every measurement fresh and within limits. -/
def live : State :=
  ({ State.reset with
      groups := Vector.replicate 10
        { Group.reset with state := .hold, stroke := 5000, referenced := true, contact := true, contactCapture := 5000 }
      mst :=
        { records := Vector.replicate 15
            { state := .fresh, value := some 300, age := some 0, clamped := false, lastValid := some 300
              hasBeenValid := true, degraded := false }
          maxFace := none }
      ports := Vector.replicate 4 { Port.reset with present := true, silence := some 500, heard := true } }).modMeas 1
    fun r => { r with value := some 60, lastValid := some 60 }

/-- `live` in a cycle state, with the permits that belong to it. -/
def liveIn (c : Cycle) : State :=
  live.modAdu fun a =>
    { a with
      cycle := c, cutterPermit := c.cutting, thrustPermit := c == .boring, cutter := .turning
      spinup := if c = .spinup then some 120000 else none, ringStartPending := false }

/-- `live` while a ring is built: its record BUILDING with key 0, one piece in a state. -/
def building (pc : Piece) (st : PieceState) (awaited : List GroupIx) : State :=
  ((after (.ringBegin 1 0) live).modPiece pc fun r => { r with state := st, awaited := awaited })

/-- A line of `live` in a phase, its window OPEN, with a deficit. -/
def lineIn (ph : Phase) (d : Int) : State :=
  (live.modAccount 0 fun l => { l with window := true, deficit := { l.deficit with d := d, n := decide (d < 0), z := d == 0 } }).modLine
    0 fun l => { l with phase := ph, valve := ph.injecting }

/-- `live` with a train of three cars under way: car 1 FULL, car 2 FILLING, car 3 EMPTY, all of capacity 1,800. -/
def train (full filling empty : Nat) : State :=
  live.modMku fun k =>
    { k with
      cars := List.replicate full { state := .full, fill := 1800, dueReported := true }
        ++ List.replicate filling { state := .filling, fill := 1650, dueReported := false }
        ++ List.replicate empty { state := .empty, fill := 0, dueReported := false }
      capacity := some 1800 }

/-- An entry of the fault list. -/
def entryOf (key : FaultKey) (mode : Nat) (st : EntryState) : FaultEntry :=
  { key := key, mode := mode, state := st, retryLeft := if st = .retrying then some 5000 else none, ring := 1, aAcc := 10
    time := 3 }

def withEntries (s : State) (es : List FaultEntry) : State := s.modFsv fun f => { f with entries := es }

/-! ## The manual's examples -/

/-- Table 1-4, the fourth extending pulse and a clamped retracting one. -/
theorem test_stroke_pulses :
    ((after (.strokePulse 3 true) (State.reset.modGroup 3 fun r => { r with stroke := 3 })).group 3).stroke = 4 ∧
    ((after (.strokePulse 7 false) State.reset).group 7).saturated = true := by decide

/-- Table 1-4, the reference: G3 moves from 4 to 1,850 counts. -/
theorem test_reference_strokes :
    let s := (State.reset.modGroup 3 fun r => { r with stroke := 4 }).modGroup 7 fun r => { r with saturated := true }
    let t := after (.referenceStrokes [1800, 1800, 1800, 1850, 1800, 1800, 1800, 1790, 1800, 1800]) s
    (t.group 3).state = .hold ∧ (t.group 3).stroke = 1850 ∧ (t.group 3).capture = 1846 ∧
      (t.group 3).contactCapture = 1850 ∧ (t.group 7).saturated = false := by decide

/-- Table 2-6: L_pen with PEN_MAX 250. -/
theorem test_penetration_levels :
    [250, 260, 290, 400, 1000, 2001].map (fun p =>
      (live.modAdu fun a => { a with penetration := p, penetrationValid := true }).judgePen.adu.lPen) = [8, 7, 6, 5, 2, 0] := by
  decide

/-- Table 3-2. -/
theorem test_coefficients : coefficientKv 6640 6300 = 22646 ∧ coefficientKm 6640 195 = 44253 := by decide

/-- Table 3-5, the third accrual: TL1 OUT, TL2 and TL3 of weight 60. -/
def thirdAccrual : State :=
  let s := (live.modAct fun a =>
    { a with
      aAcc := 20, expected := 885060
      lines := mapIx a.lines fun p l =>
        { l with window := true, target := if p.val < 2 then 158522 else if p.val < 4 then 67938 else 0 } }).modLine 1 fun l =>
    { l with phase := .out }
  { s with config :=
      putItem (putItem (putItem (putItem s.config (.weight 2) 60) (.weight 3) 60) (.weight 4) 0) (.weight 5) 0 }

theorem test_third_accrual :
    let t := thirdAccrual.accrueSteps 30
    (t.account 0).target = 215137 ∧ (t.account 1).target = 158522 ∧ (t.account 2).target = 152861 ∧
      (t.account 3).target = 152860 ∧ t.act.unassigned = 0 ∧ t.act.expected = 1327590 := by decide

/-- Table 5-4: the setpoint in FLOW with FLOW_SPAN 50. -/
theorem test_flow_setpoints :
    [0, 1, 6, 7, 25, 44, 60].map (fun d : Nat =>
      flowSetpoint { d := d, z := d == 0, n := false, v := false, c := false } 50) = [0, 1, 1, 2, 4, 8, 8] := by decide

/-- R112 with the defaults. -/
theorem test_grout_levels : [41, 100, 199, 200, 40].map (fun d : Int => groutLevel 40 200 (some d)) = [7, 5, 0, 0, 8] := by
  decide

/-- Table 5-2: a counted increment across the wrap, and a jump. -/
theorem test_line_counter_reports :
    let s := live.modLine 0 fun l => { l with lastCounter := 32760, counterValid := true }
    ((after (.measure .grout [(8, 5)]) s).line 0).delivered = 13 ∧
    ((after (.measure .grout [(8, 450)]) (live.modLine 0 fun l => { l with lastCounter := 100, counterValid := true })).line
      0).delivered = 0 := by decide

/-- Table 6-4: the report of 14,360 finds car 1 due. -/
theorem test_car_due :
    let s := (train 0 1 1).modMku fun k => { k with lastCounter := 14300, counterValid := true, measured := 6200, beltPermit := true, lMuck := 8 }
    let t := after (.measure .muck [(14, 14360)]) s
    t.eventSet .carDue = true ∧ t.mku.measured = 6260 ∧ (t.mku.cars.map Car.fill) = [1710, 0] := by decide

/-- Table 6-4: the CAR SHIFT that restores the belt permit. -/
theorem test_car_shift :
    let s := (train 0 1 1).modMku fun k => { k with cars := k.cars.map fun c => if c.state = .filling then { c with fill := 1940 } else c }
    let t := after .carShift s
    (t.mku.cars.map Car.state) = [.full, .filling] ∧ t.mku.beltPermit = true ∧ t.mku.lMuck = 8 := by decide

/-- Table 7-4: PARTIAL, reason 20, skip count 2, and M2 clamped to 1,000. -/
theorem test_measure_from_grout :
    let s := lineIn .flow 30
    let t := after (.measure .grout [(2, 412), (0, 300), (20, 0), (9, 302), (2, 1200)]) s
    (t.port .grout).slot = { request := 40, outcome := .partialTaken, reason := 20, skip := 2, shown := false } ∧
      (t.meas 2).value = some 1000 ∧ (t.meas 2).clamped = true ∧ (t.line 0).phase = .limit := by decide

/-- Table 9-7: a LINE SUSPEND with a data word of bad parity is answered PARITY 2 and counted; the next one is ACCEPTED. -/
theorem test_port_c :
    let s := live.modPort .grout fun p => { p with frame := some { status := 0, statusSent := true, header := some (requestHeader .grout 24 0) } }
    (((after (.frameEnd .grout [0x0004#16] 0) s).port .grout).slot.outcome = .parity) ∧
      (((after (.frameEnd .grout [0x0004#16] 0) s).port .grout).parityErrors = 1) ∧
      (((after (.frameEnd .grout [linkWord 4] 0) s).line 4).phase = .out) := by decide

/-! ## Witnesses: reset, words and frames -/

theorem witness_StepRunsTheFrontCommand : State.reset.pending = [] ∧ State.reset.deviceReset.resetActive = true := by decide

/-- Group 0 in RETURN at 5,000 with 1 ms of its dwell time left. -/
def returning (ref : Nat) : State :=
  { live.modGroup 0 fun r => { r with state := .returning, owner := some .s0, dwellRef := ref, dwell := some 1 } with
    pending := [.strokePulse 0 true] }

/-- A pulse of 3 counts restarts the dwell time, one of 2 does not; and the tick after it. -/
theorem witness_StepRunsTheFrontCommand_dwell :
    ([4998, 4999].all fun ref => (returning ref).calm && !(returning ref).estop && !(returning ref).inForce .claimFreeze) = true ∧
    ((after (.strokePulse 0 true) (returning 4998)).group 0).dwell = some 1500 ∧
    ((after (.strokePulse 0 true) (returning 4998)).tick.group 0).state = .returning ∧
    ((after (.strokePulse 0 true) (returning 4999)).group 0).dwell = some 1 ∧
    ((after (.strokePulse 0 true) (returning 4999)).tick.group 0).state = .hold ∧
    (live.pending = [] ∧ live.resetActive = false ∧ live.tick.ms = 1 ∧
      ({ live with ms := 999 } : State).tick.seconds = 1) := by decide +kernel

theorem witness_ResetTakesAndHoldsTheResetValues :
    State.reset.deviceReset.resetActive = true ∧ Instr.advanceStart ≠ .deviceReset ∧ Instr.advanceStart ≠ .resetRelease ∧
      Instr.advanceStart ≠ .estopAssert ∧ Instr.advanceStart ≠ .estopRelease := by decide

theorem witness_SecondsCount :
    (State.reset.deviceReset.resetActive = true ∧ State.reset.deviceReset.seconds = 0 ∧
      (after .secondsTick State.reset.deviceReset).seconds = 0) ∧
    (live.resetActive = false ∧ live.seconds ≤ 1073741823) ∧
    (({ live with seconds := 1073741823 } : State).seconds ≤ 1073741823) := by decide

theorem witness_LinkWordsCarryTheirPayloads :
    (0 < 2 ^ 30 ∧ 2 ^ 30 - 1 < 2 ^ 30) ∧ (-(2 ^ 29) ≤ (-(2 ^ 29) : Int) ∧ ((2 : Int) ^ 29 - 1) < 2 ^ 29) := by decide

theorem witness_FramesCarryRequests :
    Instr.wellFormed (.trainIn 12 4000) = true ∧ requestFrame (.trainIn 12 4000) = some (.muck, 32, [12, 4000]) ∧
    ((live.modPort .muck fun p =>
      { p with frame := some { status := 0, statusSent := false, header := some (requestHeader .muck 32 15) } }).port
        .muck).frame = some { status := 0, statusSent := false, header := some (requestHeader .muck 32 15) } := by decide

theorem witness_RequestsArePermittedByTable :
    (1 ∈ requestCodes ∧ requestLength 1 [1, 5, 1] = some 3) ∧ (42 ∈ requestCodes ∧ requestLength 42 [] = some 0) := by decide

/-! ## Witnesses: the jack groups and the advance cycle -/

theorem witness_StrokePulsesAreCounted : live.resetActive = false := by decide

theorem witness_referenced_words_in_range : ∀ v ∈ List.replicate 10 (32000 : Payload), v.toNat ≤ 32000 := by
  intro v hv
  rw [List.eq_of_mem_replicate hv]
  decide

theorem witness_ClampedPulsesSaturate :
    (State.reset.calm = true ∧ (State.reset.group 0).stroke = 0) ∧
    ((live.modGroup 9 fun r => { r with stroke := 32767 }).calm = true ∧
      ((live.modGroup 9 fun r => { r with stroke := 32767 }).group 9).stroke = 32767) ∧
    (live.ready .cabin = true ∧ live.adu.cycle = .standstill ∧
      ∀ h, captureInRange ((live.group h).capture + ((strokesOf (List.replicate 10 32000) h : Int) - (live.group h).stroke)) =
        true) ∧
    ((live.modGroup 0 fun r => { r with saturated := true }).ready .cabin = true ∧
      ((live.modGroup 0 fun r => { r with saturated := true }).group 0).saturated = true) := by decide

theorem witness_PulsesJudgeTheGroupsState :
    ((liveIn .boring).modGroup 0 fun r => { r with state := .push, stroke := 25499 }).calm = true ∧
    (State.reset.calm = true ∧ (State.reset.group 0).state = .locked) ∧
    (let s := live.modGroup 0 fun r => { r with state := .returning, dwellRef := 4998, owner := some .k }
     s.calm = true ∧ s.estop = false ∧ s.inForce .claimFreeze = false ∧ (s.group 0).stroke < 32767) ∧
    (let s := { live.modGroup 0 fun r => { r with state := .returning } with estop := true }
     s.calm = true ∧ s.estop = true) ∧
    (live.calm = true ∧ (live.group 0).state = .hold ∧ 5001 ≤ (live.group 0).contactCapture + live.item .contactSlack) ∧
    (let s := live.modGroup 0 fun r => { r with stroke := 5020 }
     s.calm = true ∧ (s.group 0).contact = true ∧ (s.group 0).contactCapture + s.item .contactSlack < 5021) ∧
    (let s := (building .k .retracting [0]).modGroup 0 fun r => { r with state := .retract, stroke := 301, owner := some .k }
     s.calm = true ∧ s.adu.cycle = .ringBuild ∧ s.rbu.queue = [] ∧ s.item .clearStroke = 300 ∧
      (s.piece .k).state = .retracting) := by decide +kernel

theorem witness_DwellExpiryMakesContact :
    live.calm = true ∧
    (let s := (building .s0 .placed [1, 2]).modGroup 1 fun r => { r with state := .returning, dwell := some 0, owner := some .s0 }
     s.calm = true ∧ s.rbu.queue = [] ∧ (s.piece .s0).awaited.filter (fun h => h != 1) ≠ []) ∧
    (let s := (building .s0 .placed [1]).modGroup 1 fun r => { r with state := .returning, dwell := some 0, owner := some .s0 }
     s.calm = true ∧ (s.piece .s0).awaited.filter (fun h => h != 1) = [] ∧ (s.piece .s1).state ≠ .set) ∧
    (let s := (building .s0 .releasing [1]).modGroup 1 fun r => { r with state := .returning, dwell := some 0, owner := some .s0 }
     s.calm = true ∧ (s.piece .s0).state = .releasing ∧ (s.piece .s0).awaited.filter (fun h => h != 1) = []) := by decide +kernel

/-- `building` with claims waiting behind a piece's last groups: G1 in RETURN for S0, its dwell time at its end. -/
def claimsBehind (st : PieceState) (aw : List GroupIx) (q : List Piece) : State :=
  (((building .s0 st aw).modGroup 1 fun r => { r with state := .returning, dwell := some 0, owner := some .s0 }).modRbu fun b =>
    { b with queue := q.map fun pc => ⟨pc, 9⟩ }).modPiece .s3 fun r => { r with state := .queued }

/-- S3 stands free of S0's groups and is granted; S1 shares G2, which is still lent, and waits; so does S1 behind S3. -/
theorem witness_DwellExpiryMakesContact_examines :
    (∀ pair ∈ [(PieceState.placed, [(1 : GroupIx), 2]), (.placed, [1]), (.releasing, [1])],
      (claimsBehind pair.1 pair.2 [.s3]).calm = true ∧
      (after (.dwellTimeExpiry 1) (claimsBehind pair.1 pair.2 [])).claimable .s3 ∧
      (after (.dwellTimeExpiry 1) (claimsBehind pair.1 pair.2 [])).bearing .s3 ∧
      ((after (.dwellTimeExpiry 1) (claimsBehind pair.1 pair.2 [.s3])).piece .s3).state = .retracting) ∧
    (let lent (q : List Piece) : State := (claimsBehind .placed [1, 2] q).modGroup 2 fun r =>
       { r with state := .clear, owner := some .s0 }
     (lent [.s1]).calm = true ∧ ¬(after (.dwellTimeExpiry 1) (lent [])).claimable .s1 ∧
      (after (.dwellTimeExpiry 1) (lent [.s1])).rbu.queue = [⟨.s1, 9⟩] ∧
      ¬((after (.dwellTimeExpiry 1) (lent [])).granted .s3).claimable .s1 ∧
      (after (.dwellTimeExpiry 1) (lent [.s3, .s1])).rbu.queue = [⟨.s1, 9⟩]) := by
  unfold State.claimable State.bearing
  decide +kernel

theorem witness_RevolutionPulsesAreMeasured :
    (live.calm = true ∧ live.adu.cycle ≠ .spinup) ∧
    ((liveIn .spinup).calm = true ∧ (liveIn .spinup).adu.cycle = .spinup) ∧
    (let s := (liveIn .spinup).modAdu fun a => { a with confirmations := 1, sincePulse := some 60000 }
     s.calm = true ∧ s.item .turnPeriod = 6000 ∧ s.haltInForce = false ∧ s.adu.ringStartPending = false ∧ s.rbu.queue = [] ∧
      (∀ g, (s.group g).stroke < s.item .strokeEnd) ∧ (after .revolutionPulse s).quiet = true ∧
      (after .revolutionPulse s).adu.cycle = .boring) := by decide

theorem witness_RevolutionPulsesAreMeasured_boringStart :
    (let s := ((liveIn .spinup).modAdu fun a => { a with confirmations := 1, sincePulse := some 60000, ringStartPending := true })
     s.calm = true ∧ s.haltInForce = false ∧ (after .revolutionPulse s).adu.cycle = .boring ∧
      (after .revolutionPulse s).adu.ringStartPending = false ∧ ((after .revolutionPulse s).group 9).capture = 5000) ∧
    (live.item (.windowOpen 0) = 0 ∧ (live.line 0).phase = .idle ∧ live.estop = false ∧
      live.startRing.inForce (.portHold 0) = false ∧ 0 < live.item .primeVolume) ∧
    [(-16383 : Int), 16383].all (fun d => decide (((lineIn .out d).startRing.deficit 0).d = d)) = true := by decide +kernel

theorem witness_RingAdvanceIsTheMeanExtension :
    (live.adu.cycle ≠ .boring ∧ live.adu.cycle ≠ .paused) ∧
    ((liveIn .paused).adu.cycle = .paused ∧ 5000 < (liveIn .paused).item .ringTarget) ∧
    (let s := (liveIn .boring).modAct fun a => { a with aAcc := 4991 }
     s.adu.cycle = .boring ∧ 5000 < s.item .ringTarget ∧ 5000 < s.act.aAcc + s.item .quantum) := by decide

/-- A spin-up confirmed under ADV_HALT, at the longest turning period. -/
theorem witness_RevolutionPulsesAreMeasured_halted :
    let s := (withEntries (liveIn .spinup) [entryOf .groutGap 2 .latched]).modAdu fun a =>
      { a with confirmations := 1, sincePulse := some 60009 }
    s.calm = true ∧ s.adu.cycle = .spinup ∧ s.item .turnPeriod = 6000 ∧ s.inForce .advHalt = true ∧ s.inForce .cutHalt = false ∧
      (after .revolutionPulse s).adu.cycle = .paused ∧ (after .revolutionPulse s).adu.permitKept = true ∧
      (after .revolutionPulse s).adu.cutterPermit = true := by decide +kernel

/-- A mean of 5,000 at RING_TARGET; no change of it; a change that reaches QUANTUM; the strokes' ends; and the pulse that reports. -/
theorem witness_RingAdvanceIsTheMeanExtension_target :
    let aim (c : Cycle) : State := { liveIn c with config := putItem live.config .ringTarget 5000 }
    (((aim .boring).take .strokeChange).adu.a = 5000 ∧ ((aim .boring).take .strokeChange).adu.cycle = .rundown ∧
      ((aim .boring).take .strokeChange).eventSet .ringStroke = true ∧ ((aim .paused).take .strokeChange).adu.a = 5000 ∧
      ((aim .paused).take .strokeChange).adu.lastStop = .ringStroke) ∧
    (((liveIn .boring).modAdu fun a => { a with a := 5000 }).item .ringTarget = 15200) ∧
    (let s := (liveIn .boring).modAct fun a => { a with aAcc := 4990 }
     s.adu.a = 0 ∧ s.act.aAcc + s.item .quantum = 5000 ∧ (s.take .strokeChange).act.aAcc = 5000) ∧
    ((liveIn .boring).take (.strokeEnd 3)).adu.lastStop = .strokeEnd ∧
    ((liveIn .boring).calm = true ∧ ((liveIn .boring).group 0).state = .hold ∧
      ((liveIn .boring).modGroup 0 fun r => { r with contactCapture := 4981 }).item .contactSlack + 4981 = 5001) := by decide +kernel

theorem witness_CycleTimersRunOut :
    (live.calm = true ∧ live.adu.stopTimer = none) ∧
    (let s := live.modAdu fun a => { a with stopTimer := some 0 }
     s.calm = true ∧ s.adu.cycle ≠ .rundown) ∧
    (let s := (liveIn .rundown).modAdu fun a => { a with stopTimer := some 0 }
     s.calm = true ∧ s.adu.a ≤ s.act.aAcc ∧ (after .stopTimerExpiry s).quiet = true ∧
      (after .stopTimerExpiry s).adu.cycle = .standstill) ∧
    ((liveIn .spinup).calm = true ∧ (liveIn .spinup).adu.spinup.isSome = true ∧ (liveIn .spinup).adu.a ≤ (liveIn .spinup).act.aAcc ∧
      (after .spinupTimeExpiry (liveIn .spinup)).quiet = true) := by decide

theorem witness_EmergencyStopDropsTheCycle :
    ((liveIn .boring).resetActive = false ∧ (liveIn .boring).estop = false ∧ (liveIn .boring).adu.cycle.underWay = true) ∧
    (live.resetActive = false ∧ live.estop = false ∧ live.adu.cycle.underWay = false) := by decide

theorem witness_EmergencyStopAtRestAndItsRelease :
    ({ live with estop := true } : State).calm = true ∧
    (let s := lineIn .satisfied (-30)
     s.calm = true ∧ s.estop = false ∧ s.adu.cycle = .standstill ∧ s.mku.beltPermit = false ∧
      (after .estopAssert s).quiet = true ∧ ((after .estopAssert s).line 0).phase = .idle) ∧
    live.calm = true ∧
    (let s := { live.modGroup 1 fun r => { r with state := .returning, owner := some .s0 } with estop := true }
     s.calm = true ∧ s.estop = true ∧ s.inForce .claimFreeze = false ∧ s.rbu.queue = [] ∧
      (∀ p, (s.line p).phase = .idle → (s.account p).window = false) ∧ (after .estopRelease s).quiet = true) := by decide +kernel

/-- The release with IDLE lines whose window is OPEN, one of them held, and a claim that waits. -/
theorem witness_EmergencyStopAtRestAndItsRelease_starts :
    let s (es : List FaultEntry) : State := withEntries { (lineIn .idle 30).modAccount 5 fun l => { l with window := true } with estop := true } es
    (∀ es ∈ [[], [entryOf (.measInvalid 2) 2 .latched]],
      (s es).calm = true ∧ (s es).inForce .claimFreeze = false ∧ 0 < (s es).item .primeVolume ∧ (after .estopRelease (s es)).quiet = true ∧
        ((after .estopRelease (s es)).line 5).phase = .prime) ∧
    ((after .estopRelease (s [])).line 0).phase = .prime ∧
    ((after .estopRelease (s [entryOf (.measInvalid 2) 2 .latched])).line 0).phase = .held ∧
    (let b : State := { (building .s3 .queued []).modRbu fun b => { b with queue := [⟨.s3, 9⟩] } with estop := true }
     b.calm = true ∧ ((after .estopRelease b).piece .s3).state = .retracting ∧ (after .estopRelease b).quiet = true) := by decide +kernel

/-! ## Witnesses: CABIN's requests -/

theorem witness_SetLevelSetsTheCabinLimiter :
    (live.ready .cabin = true ∧ (8 : Payload).toNat ≤ 8) ∧ 8 < (9 : Payload).toNat ∧ (liveIn .boring).ready .cabin = true := by decide

theorem witness_AdvanceStartEntersSpinup :
    ((liveIn .boring).ready .cabin = true ∧
      (after .advanceStart (liveIn .boring)).port .cabin ≠ (liveIn .boring).port .cabin) ∧
    (live.ready .cabin = true ∧ (after .advanceStart live).quiet = true ∧ (after .advanceStart live).adu.cycle = .spinup) := by
  decide

theorem witness_AdvanceStopRunsDown :
    (live.ready .cabin = true ∧ live.adu.cycle = .standstill) ∧
    ((after (.ringBegin 1 0) live).ready .cabin = true ∧ (after (.ringBegin 1 0) live).adu.cycle = .ringBuild) ∧
    (liveIn .rundown).ready .cabin = true ∧
    ((liveIn .spinup).ready .cabin = true ∧ (liveIn .spinup).adu.cutter ≠ .stopped ∧
      (liveIn .spinup).adu.a ≤ (liveIn .spinup).act.aAcc ∧ (after .advanceStop (liveIn .spinup)).quiet = true) ∧
    (let s := (liveIn .boring).modGroup 4 fun r => { r with state := .push }
     s.ready .cabin = true ∧ s.rbu.queue = [] ∧ (∀ g, (s.group g).state = .push → (s.group g).owner = none) ∧
      (after .advanceStop s).quiet = true ∧ ((after .advanceStop s).group 4).state = .hold) := by decide +kernel

theorem witness_RingBeginOpensTheRecord :
    ((liveIn .boring).ready .cabin = true ∧ ((after (.ringBegin 1 0) (liveIn .boring)).port .cabin).slot.reason = 1) ∧
    (live.ready .cabin = true ∧ (after (.ringBegin 1 9) live).quiet = true ∧
      (after (.ringBegin 1 9) live).rbu.record.state = .building) := by decide +kernel

/-- The cutterhead STOPPED or not, with nothing and with one count left to accrue, in SPINUP, PAUSED and BORING. -/
theorem witness_AdvanceStopRunsDown_ends :
    ∀ c ∈ [Cycle.spinup, .paused, .boring], ∀ k ∈ [CutterCondition.stopped, .turning], ∀ a ∈ [20, 21],
      let s := ((liveIn c).modAdu fun r => { r with cutter := k, a := a }).modAct fun r => { r with aAcc := 20 }
      let t := after .advanceStop s
      let stopped := (s.attended .cabin).modAdu fun r =>
        { r with
          thrustPermit := false, cutterPermit := false, spinup := none, lastStop := .stopRequest, cycle := .rundown
          permitKept := false, rateLevel := 0 }
      s.ready .cabin = true ∧ stopped.quiet = true ∧ (stopped.accrue 21).quiet = true ∧ t.quiet = true ∧ s.rbu.queue = [] ∧
        t.act.aAcc = a ∧ t.adu.cycle = (if k = .stopped then .standstill else .rundown) ∧
        t.eventSet .standstillReached = decide (k = .stopped) := by decide +kernel

theorem witness_ReferenceStrokesSetTheStrokes :
    ((liveIn .boring).ready .cabin = true ∧ (liveIn .boring).adu.cycle ≠ .standstill) ∧
    (live.ready .cabin = true ∧ live.rbu.queue = [] ∧
      (∀ g, captureInRange ((live.group g).capture + ((strokesOf (List.replicate 10 32000) g : Int) - (live.group g).stroke)) =
        true) ∧ ∀ g, (live.group g).owner = none) ∧
    (List.replicate 9 (0 : Payload)).length ≠ 10 ∧
    (32000 < strokesOf (List.replicate 9 (32000 : Payload) ++ [32001]) 9 ∧
      ∀ h : GroupIx, h < 9 → strokesOf (List.replicate 9 (32000 : Payload) ++ [32001]) h ≤ 32000) ∧
    (let s := live.modGroup 2 fun r => { r with capture := 536870911 }
     s.ready .cabin = true ∧ s.adu.cycle = .standstill ∧ (∀ h, strokesOf (List.replicate 10 (5001 : Payload)) h ≤ 32000) ∧
      captureInRange ((s.group 2).capture + ((strokesOf (List.replicate 10 (5001 : Payload)) 2 : Int) - (s.group 2).stroke)) =
        false ∧
      ∀ h : GroupIx, h < 2 → captureInRange ((s.group h).capture
        + ((strokesOf (List.replicate 10 (5001 : Payload)) h : Int) - (s.group h).stroke)) = true) := by decide

theorem witness_ConfigureRunningItems :
    let pairs : List (Payload × Payload) := [(64, 255), (72, 32766)]
    (liveIn .boring).resetActive = false ∧ pairItem (64, 255) = some (.weight 0) ∧ (Item.weight 0).running = true ∧
      (Item.weight 0).admits 255 = true ∧ pairItem (72, 32766) = some (.windowOpen 0) ∧ (Item.windowOpen 0).running = true ∧
      (Item.windowOpen 0).admits 32766 = true ∧
      (crossChecks (resultingSet live.config pairs)).all Prod.fst = true := by decide

/-- One request for each refusal: count, code, value, mode, the four cross checks, the two states. -/
theorem witness_ConfigureAnswersInOrder :
    live.ready .cabin = true ∧
    ([([], 10), (List.replicate 9 (64, 1), 10), ([(43, 1)], 11), ([(64, 256)], 12), ([(100, 3)], 13), ([(108, 7)], 13),
      ([(1, 6319)], 14), ([(72, 5), (80, 5)], 15), ([(20, 193)], 16), ([(38, 411)], 17)] :
        List (List (Payload × Payload) × Nat)).all (fun (pairs, reason) =>
      ((after (.configure pairs) live).port .cabin).slot.reason == reason) = true ∧
    ((liveIn .boring).ready .cabin = true ∧ ((after (.configure [(5, 1)]) (liveIn .boring)).port .cabin).slot.reason = 1) ∧
    (let s := after (.ringBegin 1 0) live
     s.ready .cabin = true ∧ ((after (.configure [(5, 1)]) s).port .cabin).slot.reason = 2) := by decide +kernel

theorem witness_CoefficientsFollowTheirItems :
    live.ready .cabin = true ∧ live.adu.cycle = .standstill ∧ live.rbu.record.state ≠ .building ∧
      (crossChecks live.config).all Prod.fst = true ∧ (100 : Payload).toNat = 100 ∧ (300 : Payload).toNat = 300 := by decide

/-- `live` with one item at another value. -/
def withItem (i : Item) (v : Nat) : State := { live with config := putItem live.config i v }

/-- One item of each kind is changed, or given its present value, at the ends of its range and of the cross checks. -/
theorem witness_CoefficientsFollowTheirItems_items :
    live.ready .cabin = true ∧
    ([(.boreDiameter, 6320), (.ringOd, 6620), (.muckDensity, 195), (.quantum, 10), (.weight 5, 255), (.windowOpen 0, 32766),
      (.windowClose 0, 1), (.rounding, 1), (.flowSpan, 5), (.deficitLow, 192), (.deficitHigh, 48), (.primeVolume, 0),
      (.stallTime, 2), (.carReserve, 1000), (.carOverfill, 0), (.muckLag, 0), (.freshLimit 14, 50), (.novalPolicy 4, 1),
      (.faultMode 3, 0), (.faultMode 11, 2), (.faultMode 6, 2), (.faultMode 0, 7), (.faceHigh, 190), (.faceLow, 410)] :
        List (Item × Nat)).all (fun (i, v) =>
      i.admits v && (i.running || !live.adu.cycle.underWay && live.rbu.record.state != .building)
        && (crossChecks (putItem live.config i v)).all Prod.fst
        && ((after (.configure [(BitVec.ofNat 15 i.code, BitVec.ofNat 15 v)]) live).port .cabin).slot.outcome == .accepted) = true := by
  decide +kernel

/-- A line in PRIME at the new PRIME_VOLUME, a record at and past the new limit, a pressure newly held, a REPORTED entry revised. -/
theorem witness_CoefficientsFollowTheirItems_responses :
    ([24, 25].map fun v => ((after (.configure [(15, v)]) ((lineIn .prime 30).modLine 0 fun l => { l with sinceOpen := 25 })).line
      0).phase) = [.flow, .flow] ∧
    ((after (.configure [(15, 26)]) ((lineIn .prime 30).modLine 0 fun l => { l with sinceOpen := 25 })).line 0).phase = .prime ∧
    ([49, 50].map fun age => ((after (.configure [(115, 50)]) (live.modMeas 3 fun r => { r with age := some (age + 1) })).meas 3).state)
      = [.fresh, .stale] ∧
    (let s := live.modMeas 4 fun r => { r with state := .stale, value := none }
     s.ready .cabin = true ∧ (s.meas 4).degraded = false ∧
      ((after (.configure [(132, 1)]) s).line 2).pressureWithheld = true) ∧
    (let s := withEntries live [entryOf .groutGap 3 .reported]
     s.ready .cabin = true ∧ (s.fsv.entries.filter fun x => x.key.cls == 6) = [entryOf .groutGap 3 .reported] ∧
      ([0, 1, 2].map fun v => (((after (.configure [(103, v)]) s).fsv.find .groutGap).map FaultEntry.state)) =
        [some .active, some .active, some .latched]) := by decide +kernel

/-! ## Witnesses: the ring -/

theorem witness_ClaimsAreRefusedGrantedOrQueued :
    (let s := { after (.ringBegin 1 0) live with estop := true }
     s.ready .erector = true ∧ (s.piece .s0).state = .pending ∧ s.rbu.queue.length < 3 ∧
      ((after (.claimPiece 0) s).port .erector).slot.reason = 24) ∧
    (let s := (after (.ringBegin 1 0) live).modRbu fun b =>
        { b with queue := [⟨.s1, 9⟩, ⟨.s2, 9⟩, ⟨.s3, 9⟩] }
     s.ready .erector = true ∧ (s.piece .s0).state = .pending ∧
      ((after (.claimPiece 0) s).port .erector).slot.outcome = .queueFull) ∧
    (let s := after (.ringBegin 1 0) live
     s.ready .erector = true ∧ (s.piece .s5).claimTime = none ∧
      (∀ g ∈ (s.piece .s5).groups, (s.group g).state ∈ [GroupState.hold, .push] ∧ s.item .clearStroke < (s.group g).stroke) ∧
      ((after (.claimPiece 5) s).piece .s5).state = .retracting) ∧
    (live.ready .erector = true ∧ live.rbu.record.state ≠ .building) ∧
    (let s := building .s0 .set []
     s.ready .erector = true ∧ 6 < (7 : Payload).toNat ∧ (s.piece .s0).state ≠ .pending ∧
      (∀ q ∈ Piece.neighbours .s2, (s.piece q).state = .pending) ∧ (s.piece .k).state = .pending ∧
      (s.piece .s1).state ≠ .set) := by decide +kernel

/-- A claim of S5, G8 at CLEAR_STROKE and G9 above it, or both at it. -/
theorem witness_ClaimsAreRefusedGrantedOrQueued_clear :
    let at_ (v : Nat) : State := ((after (.ringBegin 1 0) live).modGroup 8 fun r => { r with stroke := 300 }).modGroup 9 fun r =>
      { r with stroke := v }
    ((at_ 301).ready .erector = true ∧ (at_ 301).claimable .s5 ∧ (at_ 301).bearing .s5 ∧ (at_ 301).rbu.queue = [] ∧
      ((after (.claimPiece 5) (at_ 301)).piece .s5).awaited = [9]) ∧
    ((at_ 300).ready .erector = true ∧ (at_ 300).claimable .s5 ∧ (at_ 300).bearing .s5 ∧ ((at_ 300).piece .s5).claimTime = none ∧
      ((after (.claimPiece 5) (at_ 300)).piece .s5).state = .clear ∧ (after (.claimPiece 5) (at_ 300)).eventSet .pieceClear = true) := by
  unfold State.claimable State.bearing
  decide +kernel

theorem witness_PiecesAreSentBack :
    ((building .s0 .clear []).ready .erector = true ∧ (building .s0 .clear []).rbu.queue = [] ∧
      (building .s0 .clear []).inForce .claimFreeze = false ∧ (building .s0 .retracting [1]).ready .erector = true) ∧
    (let s := (building .s0 .queued []).modRbu fun b => { b with queue := [⟨.s1, 9⟩, ⟨.s0, 9⟩] }
     s.ready .erector = true ∧ s.rbu.queue.head?.map QueueEntry.piece ≠ some .s0) ∧
    ((building .s0 .pending []).ready .erector = true ∧ (building .s0 .placed []).ready .erector = true ∧
      (building .s0 .set []).ready .erector = true ∧ (building .s0 .releasing []).ready .erector = true) := by decide +kernel

/-- No ring under way; a code above 6; each forcing; the head withdrawn with a claim behind it that waits, or is granted. -/
theorem witness_PiecesAreSentBack_forced :
    (live.ready .erector = true ∧ live.rbu.record.state ≠ .building ∧
      ((after (.piecePlaced 7) live).port .erector).slot.reason = 1) ∧
    ((building .s0 .clear []).ready .erector = true ∧ 6 < (7 : Payload).toNat ∧
      ((after (.withdrawPiece 7) (building .s0 .clear [])).port .erector).slot.reason = 10) ∧
    (∀ st ∈ [PieceState.clear, .retracting],
      let stop : State := { building .s0 st [] with estop := true }
      let freeze := withEntries (building .s0 st []) [entryOf (.claimTimeout .s0) 2 .latched]
      stop.ready .erector = true ∧ freeze.ready .erector = true ∧ freeze.inForce .claimFreeze = true ∧
      ((after (.withdrawPiece 0) stop).piece .s0).timer.state = .suspended ∧
      ((after (.withdrawPiece 0) freeze).piece .s0).timer.state = .suspended) ∧
    (let s (pc : Piece) : State := ((building .s0 .queued []).modRbu fun b => { b with queue := [⟨.s0, 9⟩, ⟨pc, 9⟩] }).modGroup 2 fun r =>
       { r with state := .clear, owner := some .s2 }
     (∀ pc ∈ [Piece.s3, .s1], (s pc).ready .erector = true ∧ (s pc).rbu.queue.head?.map QueueEntry.piece = some .s0) ∧
      ((s .s3).claimable .s3 ∧ (s .s3).bearing .s3 ∧ ((after (.withdrawPiece 0) (s .s3)).piece .s3).state = .retracting) ∧
      ¬(s .s1).claimable .s1 ∧ (after (.withdrawPiece 0) (s .s1)).rbu.queue = [⟨.s1, 9⟩]) := by
  unfold State.claimable State.bearing
  decide +kernel

theorem witness_LastArrivalCompletesTheRing :
    let s := ((after (.ringBegin 1 0) live).modRecord fun r =>
      { r with pieces := mapIx r.pieces fun _ q => { q with state := .set } }).modPiece .k fun r =>
        { r with state := .placed, awaited := [0] }
    s.rbu.queue = [] ∧ (s.piece .k).state = .placed ∧ (s.piece .s0).state = .set ∧ s.adu.cycle = .ringBuild ∧
      s.adu.a ≤ s.act.aAcc ∧ s.rbu.record.buildStart = some 0 ∧ s.seconds < 2 ^ 30 ∧ s.unmarked = none ∧
      (s.port .erector).present = true := by decide +kernel

/-! ## Witnesses: grout and muck -/

theorem witness_LinesAreSuspendedAndResumed :
    (live.ready .grout = true ∧ 5 < (6 : Payload).toNat) ∧
    ((lineIn .blocked 50).ready .grout = true ∧ (lineIn .out 50).ready .grout = true) ∧
    ((lineIn .flow 50).ready .grout = true ∧ (after (.lineSuspend 0) (lineIn .flow 50)).quiet = true) ∧
    (let s := withEntries (lineIn .out 50) [entryOf (.stationSilent .grout) 2 .latched]
     s.ready .grout = true ∧ s.inForce (.portHold 0) = true ∧ (after (.lineResume 0) s).quiet = true ∧
      ((after (.lineResume 0) s).line 0).phase = .held) ∧
    (let s := live.modLine 5 fun l => { l with phase := .out }
     s.ready .grout = true ∧ s.inForce (.portHold 5) = false ∧ (s.account 5).window = false ∧
      (after (.lineResume 5) s).quiet = true) ∧
    ((lineIn .out 50).estop = false ∧ 0 < (lineIn .out 50).item .primeVolume ∧
      (after (.lineResume 0) (lineIn .out 50)).quiet = true ∧
      ((after (.lineResume 0) (lineIn .out 50)).line 0).phase = .prime) := by decide

theorem witness_TrainsComeInAndMoveOn :
    ((train 1 1 1).ready .muck = true ∧ (train 1 1 1).mku.cars ≠ []) ∧
    (live.ready .muck = true ∧ live.mku.cars = [] ∧ ¬(1 ≤ (13 : Payload).toNat ∧ (13 : Payload).toNat ≤ 12) ∧
      ¬(500 ≤ (499 : Payload).toNat ∧ (499 : Payload).toNat ≤ 4000)) ∧
    (live.item .carReserve < (500 : Payload).toNat ∧ (after (.trainIn 12 500) live).quiet = true ∧
      (after (.trainIn 12 500) live).mku.beltPermit = true) ∧
    ((train 2 0 0).ready .muck = true ∧ ∀ x ∈ (train 2 0 0).mku.cars, x.state = .full) ∧
    ((train 1 1 0).ready .muck = true ∧ (after .carShift (train 1 1 0)).quiet = true ∧
      (after .carShift (train 1 1 0)).eventSet .trainFull = true) ∧
    ((after .carShift (train 1 1 1)).quiet = true ∧ (train 1 1 1).item .carReserve < 1800) := by decide

/-- Increments at 0, 1, JUMP_BELT and above, across the wrap; fills at the reserve and the overfill, and the permit's end. -/
theorem witness_TrainsComeInAndMoveOn_belt :
    let s := (train 1 1 1).modMku fun k => { k with counterValid := true, lastCounter := 32767, beltPermit := true, lMuck := 8 }
    (s.ready .muck = true ∧ (s.attended .muck).mku.counterValid = true ∧ s.item .jumpBelt = 500) ∧
    ([32767, 0, 499, 500].map fun v : Payload => ((after (.measure .muck [(14, v)]) s).mku.measured)) = [0, 1, 500, 0] ∧
    (after (.measure .muck [(14, 500)]) s).fsv.counters[(10 : Fin 12)] = 1 ∧
    ([49, 50, 289, 290].map fun n => ((s.countMuck n).eventSet .carDue, (s.countMuck n).mku.beltPermit, (s.countMuck n).eventSet .beltStop))
      = [(false, true, false), (true, true, false), (true, true, false), (true, false, true)] ∧
    (s.mku.cars = [{ state := .full, fill := 1800, dueReported := true }] ++
      { state := .filling, fill := 1650, dueReported := false } :: [{ state := .empty, fill := 0, dueReported := false }]) ∧
    s.mku.capacity = some 1800 := by decide +kernel

theorem witness_TrainOutEmptiesTheCarList :
    (train 1 1 1).resetActive = false ∧ (train 1 1 1).ready .muck = true ∧ (after .trainOut (train 1 1 1)).quiet = true ∧
      live.mku.cars = [] := by decide

theorem witness_MeasureTakesItsOwnPairs :
    live.resetActive = false ∧ (0 : Payload).toNat = (0 : MeasIx).val ∧ stationOfMeas 0 = .cabin ∧ stationOfMeas 13 = .grout ∧
      stationOfMeas 14 = .muck ∧
    (live.ready .cabin = true ∧ 14 < (15 : Payload).toNat ∧ stationOfMeas 2 ≠ .cabin) := by decide

/-- One pair and eight, all own, some skipped for each reason, one record twice; and a report of each kind of consumer. -/
theorem witness_MeasureTakesItsOwnPairs_several :
    live.resetActive = false ∧
    ((after (.measure .grout [(2, 0), (15, 1), (0, 5), (2, 399), (8, 32767), (13, 1), (7, 1001), (16, 0)]) live).port .grout).slot =
      { request := 40, outcome := .partialTaken, reason := 21, skip := 3, shown := false } ∧
    ((after (.measure .muck [(14, 7)]) live).port .muck).slot =
      { request := 40, outcome := .accepted, reason := 0, skip := 0, shown := false } ∧
    (live.takeReport 0 301).mst.maxFace = some 301 ∧ ((live.takeReport 1 251).meas 1).value = some 250 ∧
    ((lineIn .flow 30).takeReport 2 400).line 0 ≠ (lineIn .flow 30).line 0 ∧ ((live.takeReport 13 1).line 5).lastCounter = 1 ∧
    (live.takeReport 14 9).mku.lastCounter = 9 := by decide +kernel

theorem witness_LineCountersAreMetered :
    (live.line 0).lastCounter ≤ 32767 ∧ (live.line 0).counterValid = false ∧
    (let s := live.modLine 0 fun l => { l with counterValid := true, lastCounter := 32767 }
     (s.line 0).lastCounter ≤ 32767 ∧ (s.line 0).counterValid = true ∧ s.item .jumpGrout < 32766 + 32768 - 32767 ∧
      199 + 32768 - 32767 ≤ s.item .jumpGrout) ∧
    (live.line 0).phase ∈ [Phase.idle, .blocked, .held, .out, .limit] := by decide

/-- A delivery in FLOW at the satisfaction test, in PRIME at PRIME_VOLUME, and in SATISFIED at the resumption test; the pressure at its
bound in each. -/
theorem witness_LineCountersAreMetered_phases :
    let at_ (ph : Phase) (v : Nat) (carry : Int) : State :=
      ((lineIn ph 30).modMeas 2 fun r => { r with value := some v, lastValid := some v }).modLine 0 fun l =>
        { l with carry := carry, sinceOpen := 25 }
    ([(380, (10 : Int), 5), (380, -5, 14), (380, -5, 15)].map fun (v, c, n) => (((at_ .flow v c).deliver 0 n).line 0).phase) =
      [.flow, .flow, .satisfied] ∧
    ([(399, (50 : Int), 4), (399, 50, 5), (400, 50, 5), (399, -15, 5)].map fun (v, c, n) => (((at_ .prime v c).deliver 0 n).line 0).phase) =
      [.prime, .flow, .limit, .satisfied] ∧
    ([(380, (25 : Int), 5), (381, 25, 5), (380, 25, 6)].map fun (v, c, n) => (((at_ .satisfied v c).deliver 0 n).line 0).phase) =
      [.flow, .satisfied, .satisfied] ∧
    (∀ ph ∈ [Phase.flow, .satisfied, .prime], (at_ ph 380 25).unmarked = none ∧ ((at_ ph 380 25).deliver 0 5).unmarked = none) ∧
    (∀ ph ∈ [Phase.flow, .prime], ((at_ ph 380 (-15)).deliver 0 5).unmarked = none) ∧
    0 < ((at_ .satisfied 380 25).line 0).pressHyst ∧ (at_ .prime 380 25).item .primeVolume = 30 := by decide +kernel

theorem witness_LineCountersAreMetered_measure :
    live.ready .grout = true ∧ (8 : Payload).toNat = 8 + (0 : LineIx).val ∧ (13 : Payload).toNat = 8 + (5 : LineIx).val := by decide

theorem witness_DeficitsAndFlagsArePublished :
    (-16383 ≤ (live.deficitSum 0) ∧ live.deficitSum 0 ≤ 16383) ∧
    (16383 < (live.modLine 0 fun l => { l with carry := 16384 }).deficitSum 0) ∧
    ((live.modLine 0 fun l => { l with delivered := 16384 }).deficitSum 0 < -16383) := by decide

theorem witness_AccrualsPlaceTheWholeVolume :
    thirdAccrual.act.aAcc ≤ 30 ∧ (thirdAccrual.account 1).window = true ∧ (thirdAccrual.line 1).phase = .out ∧
      live.act.aAcc ≤ 0 := by decide

/-- The six deficits after the third accrual, and after one on which a line's deficit passes the bound. -/
theorem witness_AccrualsPlaceTheWholeVolume_publishes :
    thirdAccrual.act.aAcc ≤ 30 ∧ ((thirdAccrual.accrue 30).deficit 2).d = 2 ∧
    (let s := thirdAccrual.modLine 2 fun l => { l with carry := 16383 }
     ((s.accrue 30).deficit 2).d = 16383 ∧ ((s.accrue 30).deficit 2).v = true ∧ (s.accrue 30).gru.lGrout = 0) := by decide +kernel

/-- TL2 is the first of the heaviest lines in the third accrual. U at and above GAP_LIMIT where no line weighs; points both crossed. -/
theorem witness_AccrualsPlaceTheWholeVolume_limits :
    let idle : State := { thirdAccrual with config := (allLines.map Item.weight).foldl (fun c i => putItem c i 0) thirdAccrual.config }
    let at_ (u : Nat) : State := idle.modAct fun a => { a with unassigned := u }
    (thirdAccrual.accrueSteps 30).account 2 ≠ (thirdAccrual.accrueSteps 30).account 3 ∧
    (at_ (6553600 - 226460)).act.gapRaised = false ∧ ((at_ (6553600 - 226460)).accrue 30).act.unassigned = 6553600 ∧
    ((at_ (6553600 - 226460)).accrue 30).act.gapRaised = false ∧ ((at_ (6553601 - 226460)).accrue 30).act.gapRaised = true ∧
    ((at_ (6553601 - 226460)).accrue 30).fsv.counters[(6 : Fin 12)] = 1 ∧
    (let s : State := { thirdAccrual with config := putItem (putItem thirdAccrual.config (.windowOpen 0) 21) (.windowClose 0) 30 }
     s.act.aAcc = 20 ∧ (s.accrue 30).eventSet .windowSkipped = true) := by decide +kernel

theorem witness_GroutLevelFollowsTheLargestDeficit :
    (live.item .deficitLow < live.item .deficitHigh ∧ ∀ p, (live.account p).window = false) ∧
    [40, 41, 199, 200].all (fun d : Int =>
      let s := lineIn .flow d
      decide ((s.account 0).window = true ∧ (s.line 0).phase ≠ .out ∧ (s.deficit 0).d = d)) = true := by decide

theorem witness_GroutTicksJudgeTheStall :
    (live.calm = true ∧ ∀ p, (live.line p).phase ≠ .limit) ∧
    (let s := (lineIn .limit 50).modLine 0 fun l => { l with stallHistory := List.replicate 9 1, secondCount := 1 }
     s.calm = true ∧ s.item .stallTime * s.item .flowMax = 1200 ∧ (10 : Nat) * 960 ≥ 1200) ∧
    (let s := (lineIn .limit 19).modLine 0 fun l => { l with stallHistory := List.replicate 10 0 }
     (s.line 0).phase = .limit ∧ (s.deficit 0).d ≤ s.item .deficitLow ∧ (s.deficit 0).d < s.item .resumeDeficit) ∧
    ((lineIn .limit 41).item .deficitLow = 40 ∧ ((lineIn .limit 41).line 0).stallHistory.sum = 0) := by decide

/-- The one line in LIMIT completes a history without an increment: SATISFIED at DEFICIT_LOW, BLOCKED above it. -/
theorem witness_GroutTicksJudgeTheStall_tick :
    let s (d : Int) : State := (lineIn .limit d).modLine 0 fun l => { l with stallHistory := List.replicate 9 0, resumeDeficit := 41 }
    let shut (d : Int) (ph : Phase) : State := (s d).modLine 0 fun l =>
      { l with phase := ph, valve := false, setpoint := 0, stallHistory := List.replicate 10 0, secondCount := 0 }
    ((s 40).calm = true ∧ (s 41).calm = true ∧ ∀ q : LineIx, q ≠ 0 → ((s 40).line q).phase ≠ .limit) ∧
    ((shut 40 .satisfied).quiet = true ∧ ((after .groutSecondTick (s 40)).line 0).phase = .satisfied) ∧
    ((shut 41 .blocked).quiet = true ∧ ((after .groutSecondTick (s 41)).line 0).phase = .blocked) := by decide +kernel

/-- A stalled line from RESUME_DEFICIT to DEFICIT_LOW is SATISFIED where its pressure has not fallen back, is withheld, or its window is
SHUT. -/
theorem witness_GroutTicksJudgeTheStall_stays :
    let s (d : Int) (v : Nat) (open_ held : Bool) : State :=
      (((lineIn .limit d).modMeas 2 fun r => { r with value := some v, lastValid := some v }).modAccount 0 fun l =>
        { l with window := open_ }).modLine 0 fun l => { l with stallHistory := List.replicate 9 0, pressureWithheld := held }
    ∀ x ∈ [s 20 381 true false, s 40 381 true false, s 40 300 false false, s 40 300 true true, s 19 300 true false],
      x.calm = true ∧ (x.line 0).resumeDeficit = 20 ∧ (after .groutSecondTick x).quiet = true ∧
        ((after .groutSecondTick x).line 0).phase = .satisfied := by decide +kernel

/-- `lineIn` with a line pressure of M2. -/
def pressed (ph : Phase) (d : Int) (v : Nat) : State :=
  (lineIn ph d).modMeas 2 fun r => { r with value := some v, lastValid := some v }

/-- Each test at its bound: the deficit, the pressure, the resumption, the end of priming. -/
theorem witness_TailLinesFollowDeficitPressureAndHolds :
    ([-19, -20].map fun d => ((lineIn .flow d).takeDeficit 0).line 0 |>.phase) = [.flow, .satisfied] ∧
    ([(19, 380), (20, 380), (20, 381)].map fun (d, v) => ((pressed .satisfied d v).takeDeficit 0).line 0 |>.phase) =
      [.satisfied, .flow, .satisfied] ∧
    ([399, 400].map fun v => ((pressed .flow 30 v).takePressure 0).line 0 |>.phase) = [.flow, .limit] ∧
    ([380, 381].map fun v => ((pressed .limit 30 v).takePressure 0).line 0 |>.phase) = [.flow, .limit] ∧
    ([(19, 380), (20, 380), (20, 381)].map fun (d, v) => ((pressed .satisfied d v).takePressure 0).line 0 |>.phase) =
      [.satisfied, .flow, .satisfied] ∧
    ([29, 30].map fun n => (((lineIn .prime 30).modLine 0 fun l => { l with sinceOpen := n }).testPrimed 0).line 0 |>.phase) =
      [.prime, .flow] ∧
    (∀ ph ∈ [Phase.flow, .limit, .satisfied, .prime, .idle], (lineIn ph 30).unmarked = none) := by decide +kernel

theorem witness_TailLinesFollowDeficitPressureAndHolds_owed : (lineIn .flow (-20)).deficitsSound := by
  unfold State.deficitsSound
  decide +kernel

/-- Window notices and PORT_HOLD in a phase that moves and one that does not, with what must hold for the start of a line. -/
theorem witness_TailLinesFollowDeficitPressureAndHolds_notices :
    ((lineIn .idle 30).inForce (.portHold 0) = false ∧ ((lineIn .idle 30).account 0).window = true ∧ (lineIn .idle 30).estop = false ∧
      0 < (lineIn .idle 30).item .primeVolume) ∧
    ([Phase.idle, .flow, .held].map fun ph => ((lineIn ph 30).windowNotice false true 0).line 0 |>.phase) = [.prime, .flow, .held] ∧
    ([Phase.flow, .blocked].map fun ph => ((lineIn ph 30).windowNotice true false 0).line 0 |>.phase) = [.idle, .blocked] ∧
    ([Phase.flow, .out].map fun ph => ((lineIn ph 30).take (.actionEnters (.portHold 0))).line 0 |>.phase) = [.held, .out] ∧
    ([Phase.held, .flow].map fun ph => ((lineIn ph 30).take (.actionLeaves (.portHold 0))).line 0 |>.phase) = [.prime, .flow] ∧
    ((({ lineIn .held 30 with estop := true } : State).take (.actionLeaves (.portHold 0))).line 0).phase = .idle ∧
    (lineIn .held 30).rbu.queue = [] := by decide +kernel

theorem witness_MuckTicksJudgeTheExcavation :
    (live.calm = true ∧ live.adu.cycle = .standstill) ∧
    ((liveIn .boring).calm = true ∧ (liveIn .boring).adu.ringStartPending = false ∧
      (liveIn .boring).mku.delayLine.length ≠ (liveIn .boring).item .muckLag) ∧
    [(5401, true, false), (4249, false, true), (5400, false, false), (4250, false, false)].all (fun (m, isOver, isUnder) =>
      let s := (liveIn .boring).modMku fun k => { k with measured := m, delayLine := List.replicate 40 5000 }
      let line := (s.mku.delayLine ++ [s.whole s.act.expected]).drop (s.mku.delayLine.length + 1 - (s.item .muckLag + 1))
      s.calm && s.mku.judgment == .normal && decide (line.length = s.item .muckLag + 1) && line.head? == some 5000
        && decide (s.item .judgeMin ≤ 5000) && (decide (5000 * (100 + s.item .overMargin) < m * 100) == isOver)
        && (decide (m * 100 < 5000 * (100 - s.item .underMargin)) == isUnder)) = true := by decide

theorem witness_RecordsGoStaleAndStationsAbsent :
    (live.resetActive = false ∧ (live.meas 0).state = .fresh ∧ (State.reset.meas 14).state ≠ .fresh) ∧
    ((live.port .erector).silence.isSome = true ∧ live.calm = true ∧ (live.port .erector).present = true ∧
      live.obliged .erector = false) := by decide

/-! ## Witnesses: faults -/

theorem witness_RaisesFollowTheClassMode :
    live.fsv.find (.claimTimeout .s0) = none ∧
    live.item (.faultMode 0) = 1 ∧ live.item (.faultMode 1) = 0 ∧ live.item (.faultMode 3) = 2 ∧ live.item (.faultMode 6) = 3 ∧
    ((after (.configure [(97, 7)]) live).item (.faultMode 0) = 7) ∧
    (let s := withEntries live ((allKeys.drop 20).take 16 |>.map fun k => entryOf k 2 .latched)
     s.fsv.find (.claimTimeout .s0) = none ∧ s.fsv.entries.length = 16) := by decide +kernel

/-- A raise and a clearance that find their entry, in each of its states. -/
theorem witness_RaisesFollowTheClassMode_again :
    let s (k : FaultKey) (st : EntryState) : State := withEntries live [entryOf k 0 st]
    (∀ st ∈ [EntryState.active, .retrying, .latched, .reported], ((s .torqueHigh st).fsv.find .torqueHigh).isSome = true) ∧
    (((s .torqueHigh .retrying).raise .torqueHigh).fsv.find .torqueHigh).map FaultEntry.state = some .active ∧
    (((s .overexc .retrying).raise .overexc).fsv.find .overexc).map FaultEntry.retryLeft = some (some 30000) ∧
    ([EntryState.active, .retrying, .latched, .reported].map fun st =>
      (((s .torqueHigh st).clearCondition .torqueHigh).fsv.find .torqueHigh).map FaultEntry.state) =
        [some .retrying, some .retrying, some .latched, none] ∧
    (let t := (s .torqueHigh .active).modFsv fun f => { f with retryCounts := Vector.replicate 55 3 }
     t.item .retryLimit = 3 ∧ ((t.clearCondition .torqueHigh).fsv.find .torqueHigh).map FaultEntry.state = some .latched) := by
  decide +kernel

/-- The stop in force and released; each halt entering and leaving in the states it moves. -/
theorem witness_ActionSetIsTheUnion :
    (({ liveIn .boring with estop := true } : State).estop = true ∧ (liveIn .boring).tperm = true) ∧
    (let adv (c : Cycle) : State := withEntries (liveIn c) [entryOf .groutGap 2 .latched]
     let cut (c : Cycle) : State := withEntries (liveIn c) [entryOf (.stationSilent .cabin) 2 .latched]
     (adv .boring).inForce .cutHalt = false ∧ (cut .boring).inForce .cutHalt = true ∧
      ((adv .boring).take (.actionEnters .advHalt)).adu.permitKept = true ∧
      ((cut .boring).take (.actionEnters .cutHalt)).adu.permitKept = false ∧
      ((cut .spinup).take (.actionEnters .cutHalt)).adu.cycle = .paused ∧ (cut .spinup).unmarked = none ∧
      ((adv .spinup).take (.actionEnters .advHalt)).adu.cycle = .spinup) ∧
    (let kept (b : Bool) : State := (liveIn .paused).modAdu fun a => { a with permitKept := b, cutterPermit := b }
     (kept true).rbu.queue = [] ∧ (kept true).inForce .advHalt = false ∧ (kept true).inForce .cutHalt = false ∧
      (kept true).adu.ringStartPending = false ∧ (∀ g, ((kept true).group g).stroke < (kept true).item .strokeEnd) ∧
      (kept false).unmarked = none ∧ ((kept false).take (.actionLeaves .advHalt)).adu.cycle = .spinup ∧
      ((kept true).take (.actionLeaves .advHalt)).adu.cycle = .boring ∧
      ((kept true).take (.actionLeaves .advHalt)).unmarked = none) := by decide +kernel

theorem witness_FaultClearMeetsItsChecks :
    live.ready .cabin = true ∧ (13 : Payload) ≠ 0 ∧ 12 < (13 : Payload).toNat ∧ (keyOf 11 0).isNone = true ∧
    FaultKey.domain (.contactLoss 0) ≠ .cabin ∧ live.fsv.find .groutGap = none ∧
    (let s := withEntries live [entryOf .groutGap 2 .active]
     s.ready .cabin = true ∧ (s.fsv.find .groutGap).isSome = true) ∧
    (let s := withEntries live [entryOf .groutGap 2 .latched, entryOf .underexc 2 .latched]
     s.ready .cabin = true ∧ (s.fsv.find .groutGap).map FaultEntry.state = some .latched ∧ s.fsv.marked .groutGap = false ∧
      ∀ a ∈ allActions, (s.modFsv fun f => { f with entries := f.entries.filter fun x => x.key != .groutGap }).inForce a =
        s.inForce a) := by decide

/-- The clear by which an action leaves, and those of a GROUT_BLOCKED entry, its line BLOCKED or in another phase. -/
theorem witness_FaultClearMeetsItsChecks_accepted :
    (let s := withEntries live [entryOf .groutGap 2 .latched]
     s.ready .cabin = true ∧ s.inForce .advHalt = true ∧ (after (.faultClear .cabin 7 0) s).inForce .advHalt = false ∧
      ((after (.faultClear .cabin 7 0) s).port .cabin).slot.outcome = .accepted) ∧
    ([Phase.blocked, .flow].map fun ph =>
      let s := withEntries (lineIn ph 30) [entryOf (.groutBlocked 0) 2 .latched]
      let t := after (.faultClear .grout 6 (BitVec.ofNat 15 (FaultKey.sourceCode (.groutBlocked 0)))) s
      (s.ready .grout, s.inForce (.portHold 0), (t.line 0).phase, t.quiet)) = [(true, false, .prime, true), (true, false, .flow, true)] := by decide +kernel

theorem witness_CabinClearsOverflowAndTheFirstFault :
    let full := (allKeys.drop 20).take 16 |>.map fun k => entryOf k 2 .latched
    let withFlag (es : List FaultEntry) : State := live.modFsv fun f => { f with entries := es, overflow := true }
    (live.ready .cabin = true ∧ (1 : Payload) ≠ 0 ∧ live.ready .muck = true ∧ live.fsv.overflow = false) ∧
    ((withFlag full).ready .cabin = true ∧ 16 ≤ (withFlag full).fsv.entries.length) ∧
    ((withFlag []).ready .cabin = true ∧ (∀ k ∈ measuredKeys, (withFlag []).fsv.marked k = false) ∧ (withFlag []).adu.cycle ≠ .paused ∧
      (withFlag []).rbu.queue = [] ∧ ∀ p, ((withFlag []).line p).phase ≠ .blocked) := by decide

/-- The levels as judged; the clear from PAUSED; a present condition without an entry, raised afresh, and one with its entry. -/
theorem witness_CabinClearsOverflowAndTheFirstFault_raises :
    let flagged (s : State) : State := s.modFsv fun f => { f with overflow := true }
    (flagged live).levelsSound ∧
    ((flagged (liveIn .paused)).ready .cabin = true ∧ (flagged (liveIn .paused)).fsv.overflow = true ∧
      ((after (.overflowClear .cabin 0) (flagged (liveIn .paused))).port .cabin).slot.outcome = .accepted ∧
      (after (.overflowClear .cabin 0) (flagged (liveIn .paused))).adu.cycle = .spinup) ∧
    (let s := flagged (live.modFsv fun f => { f with marks := modAt f.marks (FaultKey.idx .faceHigh) fun _ => true })
     s.fsv.overflow = true ∧ .faceHigh ∈ measuredKeys ∧ s.fsv.marked .faceHigh = true ∧ s.item (.faultMode 2) ∈ [0, 1, 2, 3] ∧
      (s.clearOverflow.fsv.find .faceHigh).isSome = true ∧ s.fsv.marked .faceLow = false ∧ s.notices = []) := by
  refine ⟨?_, ?_⟩
  · unfold State.levelsSound; decide +kernel
  · decide +kernel

theorem witness_firstFaultRelease :
    live.ready .cabin = true ∧ live.fsv.first = none ∧ (live.raise .groutGap).fsv.first.isSome = true := by decide +kernel

theorem witness_RetryExpiryRemovesTheEntry :
    (live.calm = true ∧ live.fsv.find .underexc = none) ∧
    (let s := withEntries live [entryOf .underexc 1 .retrying, entryOf .groutGap 2 .latched]
     s.calm = true ∧ (s.fsv.find .underexc) = some (entryOf .underexc 1 .retrying) ∧
      ∀ a ∈ allActions, (s.modFsv fun f => { f with entries := f.entries.filter fun x => x.key != .underexc }).inForce a =
        s.inForce a) := by decide

/-- The end of a retry time by which an action leaves, and those of a GROUT_BLOCKED entry, its line BLOCKED or in another phase. -/
theorem witness_RetryExpiryRemovesTheEntry_actions :
    (let s := withEntries live [entryOf .underexc 1 .retrying]
     s.calm = true ∧ s.inForce .advHalt = true ∧ (after (.retryTimeExpiry .underexc) s).inForce .advHalt = false ∧
      (after (.retryTimeExpiry .underexc) s).fsv.retryCount .underexc = 1) ∧
    ([Phase.blocked, .flow].map fun ph =>
      let s := withEntries (lineIn ph 30) [entryOf (.groutBlocked 0) 1 .retrying]
      (s.calm, s.inForce (.portHold 0), ((after (.retryTimeExpiry (.groutBlocked 0)) s).line 0).phase,
        (after (.retryTimeExpiry (.groutBlocked 0)) s).quiet)) = [(true, false, .prime, true), (true, false, .flow, true)] := by
  decide +kernel

theorem witness_BuildTimersRunOut :
    (live.calm = true ∧ (live.piece .s0).timer.state ≠ .running) ∧
    (let s := (building .s0 .retracting [1]).modPiece .s0 fun r => { r with timer := ⟨.running, .retract, 0⟩ }
     s.calm = true ∧ s.item (.faultMode 4) = 2 ∧ s.fsv.find (.claimTimeout .s0) = none ∧ s.inForce .claimFreeze = false) ∧
    (live.rbu.queue = [] ∧
      let s := (building .s0 .queued []).modRbu fun b => { b with queue := [⟨.s0, 0⟩] }
      s.calm = true ∧ s.rbu.queue.filter (fun e => e.piece != .s0) = []) := by decide +kernel

/-- The head's wait ends, the claim behind it waiting or granted; CLAIM_FREEZE entering, and leaving with and without the stop. -/
theorem witness_BuildTimersRunOut_head :
    let s (pc : Piece) : State := ((building .s0 .queued []).modRbu fun b => { b with queue := [⟨.s0, 0⟩, ⟨pc, 9⟩] }).modGroup 2 fun r =>
      { r with state := .clear, owner := some .s2 }
    (∀ pc ∈ [Piece.s3, .s1], (s pc).calm = true ∧ (s pc).rbu.queue.head?.map QueueEntry.piece = some .s0) ∧
    ((s .s3).claimable .s3 ∧ (s .s3).bearing .s3 ∧ ((after (.queueWaitExpiry .s0) (s .s3)).piece .s3).state = .retracting) ∧
    (¬(s .s1).claimable .s1 ∧ (after (.queueWaitExpiry .s0) (s .s1)).rbu.queue = [⟨.s1, 9⟩]) ∧
    (let f := ((building .s3 .queued []).modRbu fun b => { b with queue := [⟨.s3, 9⟩] }).modGroup 1 fun r =>
       { r with state := .returning, owner := some .s0, dwell := some 7 }
     ((f.take (.actionEnters .claimFreeze)).group 1).dwell = none ∧ ((f.take (.actionLeaves .claimFreeze)).group 1).dwell = some 1500 ∧
      ((f.take (.actionLeaves .claimFreeze)).piece .s3).state = .retracting ∧
      ({ f with estop := true } : State).take (.actionLeaves .claimFreeze) = { f with estop := true }) := by
  unfold State.claimable State.bearing
  decide +kernel

/-! ## Witnesses: the ports -/

/-- `live` with a frame in progress at CABIN's port. -/
def frameAt (sent : Bool) (h : Option LinkWord) : State :=
  live.modPort .cabin fun p => { p with frame := some { status := 0, statusSent := sent, header := h } }

theorem witness_PortEventsMoveOnlyTheirPort :
    (live.resetActive = false ∧ (live.port .cabin).frame = none) ∧
    ((frameAt true none).port .cabin).frame = some { status := 0, statusSent := true, header := none } ∧
    (headerIgnored .cabin 0 = true ∧ headerIsRead (requestHeader .cabin 3 0) = false) ∧
    (headerIgnored .cabin (readHeader .cabin 0 0) = false ∧ headerIsRead (readHeader .cabin 0 0) = true) ∧
    (let s := (frameAt true (some (readHeader .cabin 12 0))).modPort .cabin fun p =>
        { p with snapshot := some ⟨12, 0, [[0x20]]⟩, cursor := some ⟨12, 0, 0⟩ }
     s.resetActive = false ∧ (s.port .cabin).cursor = some { view := 12, record := 0, word := 0 }) := by decide

theorem witness_ReadsStreamTheView :
    (live.resetActive = false ∧ (live.port .muck).frame = none ∧ (live.viewRecords .muck 4).drop 5 ≠ [] ∧
      ∀ r ∈ live.viewRecords .muck 4, r ≠ []) ∧
    ((live.viewRecords .muck 15).drop 0 ≠ [] ∧ ∀ r ∈ live.viewRecords .muck 15, r ≠ []) := by decide

/-- Reads at and beyond the view's end, and a CONTINUE without a cursor, with one past the end, and inside a double word. -/
theorem witness_ReadsStreamTheView_continue :
    let at_ (c : Option Cursor) : State := live.modPort .muck fun p => { p with cursor := c }
    ((live.viewRecords .muck 4).length = 6 ∧ (live.viewRecords .muck 3).length = 0 ∧ (live.port .muck).cursor = none) ∧
    ([none, some ⟨3, 0, 2⟩, some ⟨4, 5, 4⟩].map fun c => ((after (.headerCheck .muck (readHeader .muck 127 9))
        (after (.selectActive .muck) (at_ c))).port .muck).cursor) = [none, some ⟨3, 0, 0⟩, some ⟨4, 5, 4⟩] ∧
    ((live.viewRecords .muck 4)[5]?.map List.length = some 25 ∧ ∀ x ∈ live.viewRecords .muck 4, x ≠ []) := by decide +kernel

theorem witness_ReadsStreamTheView_words :
    (0 < 2 ^ 15 ∧ 2 ^ 15 - 1 < 2 ^ 15) ∧ (List.replicate 15 true).length ≤ 15 ∧ (-16384 ≤ (-16384 : Int) ∧ (16383 : Int) < 16384) ∧
      2 ^ 46 - 1 < 2 ^ 46 := by decide

theorem witness_FrameEndsAreJudged :
    (live.port .cabin).frame = none ∧ (frameAt true none).calm = true ∧ (frameAt true (some 1)).calm = true ∧
    parityOk 1 = false ∧
    (parityOk (readHeader .muck 0 0) = true ∧ headerId (readHeader .muck 0 0) ≠ Station.id .cabin) ∧
    (let s := frameAt true (some (readHeader .cabin 15 0))
     s.calm = true ∧ s.ready .cabin = true ∧ headerId (readHeader .cabin 15 0) = Station.id .cabin ∧
      headerCode (readHeader .cabin 15 0) = 15 ∧ headerCode (readHeader .cabin 127 0) = 127 ∧
      headerCode (readHeader .cabin 16 0) = 16) ∧
    ((frameAt true (some (requestHeader .cabin 5 0))).ready .cabin = true ∧ 127 ∉ requestCodes ∧ 5 ∈ requestCodes ∧
      parityOk 1 = false ∧ requestLength 5 [] ≠ some 0 ∧ requestLength 16 [0] = some 1 ∧ permitted .cabin 16 = false) := by
  decide

theorem witness_PortResetRestoresThePort : ∀ st ∈ allStations, live.ready st = true := by decide

/-! ## Witnesses: the invariants -/

/-- A part with a command waiting, for the invariants that every step keeps. -/
def ticking : State := { liveIn .rundown with pending := [.secondsTick] }

theorem witness_steps : ∃ t, step ticking = .next t := ⟨_, rfl⟩

theorem witness_AccountsStayBalanced : ticking.accountsBalance := by
  unfold State.accountsBalance; decide

theorem witness_FaultListStaysSound : ticking.faultListSound := by
  unfold State.faultListSound; decide

theorem witness_GroupsStaySound : ticking.groupsSound := by
  unfold State.groupsSound; decide

theorem witness_PermitsFollowTheCycle : ticking.cycleSound := by
  unfold State.cycleSound; decide

theorem witness_LevelsStayJudged : (ticking.modAdu fun a => { a with rateLevel := 0 }).levelsSound := by
  unfold State.levelsSound; decide

theorem witness_LinesStaySafe : ticking.linesSound ∧ ticking.deficitsSound := by
  unfold State.linesSound State.deficitsSound; decide

theorem witness_TrainsAndClaimsStayInOrder : ticking.trainSound ∧ ticking.queueSound := by
  refine ⟨by unfold State.trainSound; decide, by decide, by decide, ?_, by decide⟩
  intro pc
  cases pc <;> decide

theorem witness_RecordsAndPortsStaySound : ticking.recordsSound ∧ ticking.portsSound := by
  refine ⟨fun m => ?_, fun st => by cases st <;> decide⟩
  have h : ∀ k : MeasIx, (ticking.meas k).state = .fresh ∧ (ticking.meas k).value = (ticking.meas k).lastValid ∧
      (ticking.meas k).lastValid.isSome = true ∧ (ticking.meas k).age.isSome = true ∧
      (ticking.meas k).hasBeenValid = true ∧ (ticking.meas k).degraded = false ∧
      decide ((ticking.meas k).lastValid.getD 0 ≤ rangeTop k) = true := by decide
  obtain ⟨h1, h2, h3, h4, h5, h6, h7⟩ := h m
  refine ⟨by simp [h1, h2], by simp [h1, h3], by simp [h1, h4], by simp [h1, h5], fun v hv => ?_, by simp [h6]⟩
  simpa [hv] using h7

theorem witness_ConfigurationStaysSound : ticking.configSound := by
  refine ⟨fun i => ?_, by decide, by decide, by decide, by decide, by decide⟩
  cases i <;> first | decide | (rename_i p; revert p; decide)

theorem witness_OnlyTheirCommandsChangeThem :
    Instr.advanceStart ≠ .deviceReset ∧ Instr.advanceStart ≠ .secondsTick ∧ Instr.advanceStart ≠ .estopAssert ∧
      Instr.advanceStart ≠ .estopRelease ∧ Instr.advanceStart ≠ .carShift ∧ Instr.advanceStart ≠ .trainOut := by decide

end Sys2Proof.Machine
end

section
/-! Commands while RESET is held, and the seconds count. -/

namespace Sys2Proof.Machine

/-- A command's effect is not taken while RESET is held. -/
theorem run_held {s : State} (h : s.resetActive = true) (f : State → State) : s.run f = .next s := by
  simp [State.run, h]

/-- While RESET is held no command is taken but those of the two input lines RESET and ESTOP (log entry 22). -/
theorem exec_held {s : State} (h : s.resetActive = true) (i : Instr) (hd : i ≠ .deviceReset) (hr : i ≠ .resetRelease)
    (ha : i ≠ .estopAssert) (he : i ≠ .estopRelease) : exec i s = .next s := by
  cases i with
  | deviceReset => exact absurd rfl hd
  | resetRelease => exact absurd rfl hr
  | estopAssert => exact absurd rfl ha
  | estopRelease => exact absurd rfl he
  | _ =>
    dsimp only [exec]
    exact run_held h _

/-- While RESET is held the assertion of emergency stop changes the level of its input alone (log entry 22). -/
theorem exec_estopAssert_held {s : State} (h : s.resetActive = true) :
    exec .estopAssert s = .next { s with estop := true } := by
  simp [exec, execEstopAssert, h]

/-- While RESET is held the release of emergency stop changes the level of its input alone (log entry 22). -/
theorem exec_estopRelease_held {s : State} (h : s.resetActive = true) :
    exec .estopRelease s = .next { s with estop := false } := by
  simp [exec, execEstopRelease, h]

/-- What a command's effect keeps the command keeps, whether RESET is held or released. -/
theorem run_keeps {α : Type} {s t : State} {f : State → State} (v : State → α) (hf : v (f s) = v s)
    (h : s.run f = .next t) : v t = v s := by
  cases hr : s.resetActive with
  | true => rw [run_held hr] at h; cases h; rfl
  | false => rw [run_awake hr] at h; cases h; exact hf

@[simp] theorem settled_resetActive (s : State) : s.settled.resetActive = s.resetActive :=
  congrArg Direct.resetActive (direct_settled s)

@[simp] theorem settled_seconds (s : State) : s.settled.seconds = s.seconds := congrArg Direct.seconds (direct_settled s)

@[simp] theorem attended_seconds (s : State) (st : Station) : (s.attended st).seconds = s.seconds := rfl

/-- A request whose owner keeps the seconds count keeps it. -/
theorem request_seconds (s : State) (st : Station) (code : Nat) (owner : State → State × Reply)
    (h : ∀ u, (owner u).1.seconds = u.seconds) : (s.request st code owner).seconds = s.seconds := by
  have hu : (owner (s.attended st).settled).1.seconds = s.seconds := by rw [h, settled_seconds, attended_seconds]
  unfold State.request
  rw [settled_seconds]
  exact hu

/-- A count in range goes on by one, from 1,073,741,823 to 0 (R1). -/
theorem countSecond_eq {s : State} (h : s.seconds ≤ 1073741823) :
    s.countSecond = { s with seconds := if s.seconds = 1073741823 then 0 else s.seconds + 1 } := by
  have : (s.seconds + 1) % 2 ^ 30 = if s.seconds = 1073741823 then 0 else s.seconds + 1 := by split <;> omega
  rw [State.countSecond, this]

/-- While RESET is held the seconds count does not leave 0 (R1). -/
theorem exec_held_seconds {s t : State} {i : Instr} (hr : s.resetActive = true) (hs : s.seconds = 0)
    (h : exec i s = .next t) : t.seconds = 0 := by
  by_cases hd : i = .deviceReset
  · subst hd; cases h; rfl
  by_cases hl : i = .resetRelease
  · subst hl; cases h; exact hs
  by_cases ha : i = .estopAssert
  · subst ha; rw [exec_estopAssert_held hr] at h; cases h; exact hs
  by_cases he : i = .estopRelease
  · subst he; rw [exec_estopRelease_held hr] at h; cases h; exact hs
  rw [exec_held hr i hd hl ha he] at h
  cases h
  exact hs

theorem exec_secondsTick (s : State) : exec .secondsTick s = s.run State.countSecond := rfl

theorem exec_portReset (st : Station) (s : State) :
    exec (.portReset st) s = s.run fun t => t.request st 42 fun u => u.requestPortReset st := rfl

/-- PORT RESET leaves the seconds count (R1). -/
theorem exec_portReset_seconds {s t : State} {st : Station} (h : exec (.portReset st) s = .next t) : t.seconds = s.seconds := by
  rw [exec_portReset] at h
  exact run_keeps State.seconds (request_seconds _ _ _ _ fun _ => rfl) h

/-- Settles O4: each clause is a lemma about one command, the second a case split over the commands that RESET lets through. -/
theorem secondsCount : Obligations.SecondsCount := by
  intro s
  refine ⟨⟨_, rfl, rfl⟩, fun hr hs _ _ h => exec_held_seconds hr hs h, fun hr hs => ?_,
    fun _ _ h => exec_portReset_seconds h⟩
  rw [exec_secondsTick, run_awake hr, countSecond_eq hs]

end Sys2Proof.Machine
end

section
/-! One ms of the timebase: what falls due in it is run as its own command, and a pulse taken before it may
restart a dwell time. -/

namespace Sys2Proof.Machine

/-! ## Steps -/

theorem step_of_cons {s : State} {i : Instr} {rest : List Instr} (h : s.pending = i :: rest) :
    step s = exec i { s with pending := rest } := by
  unfold step; rw [h]

theorem step_of_empty {s : State} (h : s.pending = []) : step s = .next s.tick := by
  unfold step; rw [h]

/-- While RESET is held no time passes. -/
theorem tick_held {s : State} (h : s.resetActive = true) : s.tick = s := by simp [State.tick, h]

theorem tick_awake {s : State} (h : s.resetActive = false) : s.tick = s.passMs.runDue := by simp [State.tick, h]

/-! ## What a time's end is as a command -/

/-- The command `i` is due where `due` holds and has the effect `f`, which is followed to its end and leaves RESET's input. -/
structure Expiry (i : Instr) (due : State → Bool) (f : State → State) : Prop where
  isDue_eq : ∀ s, s.isDue i = due s
  exec_eq : ∀ s, exec i s = s.run fun t => (f t).settled
  resetActive_eq : ∀ s, (f s).resetActive = s.resetActive

theorem resetActive_of_direct {s t : State} (h : s.direct = t.direct) : s.resetActive = t.resetActive :=
  congrArg Direct.resetActive h

theorem ms_of_direct {s t : State} (h : s.direct = t.direct) : s.ms = t.ms := congrArg Direct.ms h

theorem expiry_dwell (g : GroupIx) :
    Expiry (.dwellTimeExpiry g) (fun u => (u.group g).dwell == some 0) fun u => u.expireDwell g :=
  ⟨fun _ => rfl, fun _ => rfl, fun s => resetActive_of_direct (direct_expireDwell s g)⟩

theorem expireStopTimer_resetActive (s : State) : s.expireStopTimer.resetActive = s.resetActive := by
  unfold State.expireStopTimer
  split
  · dsimp only
    split
    · rw [resetActive_of_direct (direct_enterStandstill _)]
      rfl
    · rfl
  · rfl

theorem expiry_stopTimer : Expiry .stopTimerExpiry (fun u => u.adu.stopTimer == some 0) State.expireStopTimer :=
  ⟨fun _ => rfl, fun _ => rfl, expireStopTimer_resetActive⟩

theorem expiry_spinup : Expiry .spinupTimeExpiry (fun u => u.adu.spinup == some 0) State.expireSpinup :=
  ⟨fun _ => rfl, fun _ => rfl, fun s => resetActive_of_direct (direct_expireSpinup s)⟩

theorem expiry_retry (key : FaultKey) :
    Expiry (.retryTimeExpiry key) (fun u => u.retryDue key) fun u => u.expireRetry key :=
  ⟨fun _ => rfl, fun _ => rfl, fun s => resetActive_of_direct (direct_expireRetry s key)⟩

theorem expiry_pieceTimer (pc : Piece) :
    Expiry (.pieceTimerExpiry pc) (fun u => u.pieceDue pc) fun u => u.expirePieceTimer pc :=
  ⟨fun _ => rfl, fun _ => rfl, fun s => resetActive_of_direct (direct_expirePieceTimer s pc)⟩

theorem expireWait_resetActive (s : State) (pc : Piece) : (s.expireWait pc).resetActive = s.resetActive := by
  have hd : (s.dequeue pc).resetActive = s.resetActive := resetActive_of_direct (direct_dequeue s pc)
  unfold State.expireWait
  split
  · dsimp only
    split
    · exact (resetActive_of_direct (direct_examineHead _)).trans hd
    · exact hd
  · rfl

theorem expiry_queueWait (pc : Piece) :
    Expiry (.queueWaitExpiry pc) (fun u => u.waitDue pc) fun u => u.expireWait pc :=
  ⟨fun _ => rfl, fun _ => rfl, fun s => expireWait_resetActive s pc⟩

theorem enterStale_resetActive (s : State) (m : MeasIx) : (s.enterStale m).resetActive = s.resetActive := by
  unfold State.enterStale State.invalidateCounter
  split
  · repeat' split
    all_goals rfl
  · rfl

theorem expiry_freshLimit (m : MeasIx) :
    Expiry (.freshLimitPassed m) (fun u => u.tooOld m) fun u => u.enterStale m :=
  ⟨fun _ => rfl, fun _ => rfl, fun s => enterStale_resetActive s m⟩

theorem expireSilence_resetActive (s : State) (st : Station) : (s.expireSilence st).resetActive = s.resetActive := by
  unfold State.expireSilence
  split <;> rfl

theorem expiry_silence (st : Station) :
    Expiry (.silenceTimeExpiry st) (fun u => (u.port st).silence == some 0) fun u => u.expireSilence st :=
  ⟨fun _ => rfl, fun _ => rfl, fun s => expireSilence_resetActive s st⟩

/-! ## What falls due, run as commands -/

/-- With RESET released a command that is due has its effect. -/
theorem runIfDue_of_run {s : State} {i : Instr} {f : State → State} (hr : s.resetActive = false) (he : exec i s = s.run f) :
    s.runIfDue i = if s.isDue i then f s else s := by
  unfold State.runIfDue
  rw [he, run_awake hr]

theorem Expiry.runIfDue_eq {i : Instr} {due : State → Bool} {f : State → State} (h : Expiry i due f) {s : State}
    (hr : s.resetActive = false) : s.runIfDue i = s.when due f := by
  rw [runIfDue_of_run hr (h.exec_eq s), h.isDue_eq]
  rfl

theorem Expiry.when_resetActive {i : Instr} {due : State → Bool} {f : State → State} (h : Expiry i due f) (s : State) :
    (s.when due f).resetActive = s.resetActive := by
  unfold State.when
  split
  · rw [settled_resetActive, h.resetActive_eq]
  · rfl

section
variable {α : Type} {cmd : α → Instr} {due : α → State → Bool} {f : α → State → State}
  (h : ∀ a, Expiry (cmd a) (due a) (f a))
include h

theorem foldl_when_resetActive (l : List α) (s : State) :
    (l.foldl (fun t a => t.when (due a) (f a)) s).resetActive = s.resetActive := by
  induction l generalizing s with
  | nil => rfl
  | cons a l ih => rw [List.foldl_cons, ih, (h a).when_resetActive]

/-- Times of one kind that have run out, each taken at its turn, are their commands run where due. -/
theorem foldl_runIfDue (l : List α) {s : State} (hr : s.resetActive = false) :
    (l.map cmd).foldl State.runIfDue s = l.foldl (fun t a => t.when (due a) (f a)) s := by
  induction l generalizing s with
  | nil => rfl
  | cons a l ih =>
    have hr' : (s.when (due a) (f a)).resetActive = false := ((h a).when_resetActive s).trans hr
    rw [List.map_cons, List.foldl_cons, List.foldl_cons, (h a).runIfDue_eq hr, ih hr']

end

theorem exec_groutSecondTick (s : State) : exec .groutSecondTick s = s.run fun t => t.groutTick.settled := rfl

theorem exec_muckSecondTick (s : State) : exec .muckSecondTick s = s.run fun t => t.muckTick.settled := rfl

theorem secondDue_resetActive (s : State) : s.secondDue.resetActive = s.resetActive := by
  unfold State.secondDue
  split
  · rw [settled_resetActive, resetActive_of_direct (direct_muckTick _), settled_resetActive,
      resetActive_of_direct (direct_groutTick _)]
    rfl
  · rfl

/-- At a whole second a tick command has its effect. -/
theorem runIfDue_tick {s : State} {i : Instr} {f : State → State} (hr : s.resetActive = false) (hm : s.ms = 0)
    (hi : ∀ t : State, t.isDue i = (t.ms == 0)) (he : exec i s = s.run f) : s.runIfDue i = f s := by
  rw [runIfDue_of_run hr he, hi, hm]
  rfl

theorem runIfDue_of_not_due {s : State} {i : Instr} (h : s.isDue i = false) : s.runIfDue i = s := by
  simp [State.runIfDue, h]

/-- The ticks of a whole second are the three tick commands run where due. -/
theorem secondDue_eq {s : State} (hr : s.resetActive = false) :
    s.secondDue = [Instr.secondsTick, .groutSecondTick, .muckSecondTick].foldl State.runIfDue s := by
  simp only [List.foldl_cons, List.foldl_nil]
  by_cases hm : s.ms = 0
  · have hkept : s.countSecond.groutTick.settled.direct = s.countSecond.direct := by simp
    have hm' : s.countSecond.groutTick.settled.ms = 0 := (ms_of_direct hkept).trans hm
    have hr' : s.countSecond.groutTick.settled.resetActive = false := (resetActive_of_direct hkept).trans hr
    rw [runIfDue_tick hr hm (fun _ => rfl) (exec_secondsTick s),
      runIfDue_tick (s := s.countSecond) hr hm (fun _ => rfl) (exec_groutSecondTick _),
      runIfDue_tick hr' hm' (fun _ => rfl) (exec_muckSecondTick _), State.secondDue, if_pos hm]
  · have hnot : (s.ms == 0) = false := beq_false_of_ne hm
    rw [runIfDue_of_not_due (i := .secondsTick) hnot, runIfDue_of_not_due (i := .groutSecondTick) hnot,
      runIfDue_of_not_due (i := .muckSecondTick) hnot, State.secondDue, if_neg hm]

/-- Everything that falls due in one ms is run as its own command, in the order of log entry 3; the retry times are those of the
list as the commands before them leave it. -/
theorem runDue_eq {s : State} (hr : s.resetActive = false) :
    s.runDue =
      let v := ([Instr.secondsTick, .groutSecondTick, .muckSecondTick] ++ allGroups.map Instr.dwellTimeExpiry
        ++ [Instr.stopTimerExpiry, .spinupTimeExpiry]).foldl State.runIfDue s
      (v.fsv.entries.map (fun e => Instr.retryTimeExpiry e.key) ++ allPieces.map Instr.pieceTimerExpiry
        ++ allPieces.map Instr.queueWaitExpiry ++ allMeas.map Instr.freshLimitPassed
        ++ allStations.map Instr.silenceTimeExpiry).foldl State.runIfDue v := by
  have hsecond := (secondDue_resetActive s).trans hr
  have hdwell := (foldl_when_resetActive expiry_dwell allGroups _).trans hsecond
  have hstop := (expiry_stopTimer.when_resetActive _).trans hdwell
  have hspin := (expiry_spinup.when_resetActive _).trans hstop
  have hretry (l : List FaultKey) := (foldl_when_resetActive expiry_retry l _).trans hspin
  have hpiece (l : List FaultKey) := (foldl_when_resetActive expiry_pieceTimer allPieces _).trans (hretry l)
  have hwait (l : List FaultKey) := (foldl_when_resetActive expiry_queueWait allPieces _).trans (hpiece l)
  have hfresh (l : List FaultKey) := (foldl_when_resetActive expiry_freshLimit allMeas _).trans (hwait l)
  simp only [List.foldl_append]
  rw [← secondDue_eq hr, foldl_runIfDue expiry_dwell _ hsecond, List.foldl_cons, List.foldl_cons, List.foldl_nil,
    expiry_stopTimer.runIfDue_eq hdwell, expiry_spinup.runIfDue_eq hstop,
    show (fun e : FaultEntry => Instr.retryTimeExpiry e.key) = Instr.retryTimeExpiry ∘ FaultEntry.key from rfl,
    ← List.map_map, foldl_runIfDue expiry_retry _ hspin, foldl_runIfDue expiry_pieceTimer _ (hretry _),
    foldl_runIfDue expiry_queueWait _ (hpiece _), foldl_runIfDue expiry_freshLimit _ (hwait _),
    foldl_runIfDue expiry_silence _ (hfresh _)]
  rfl

/-- One ms of the timebase, with its bounds written out: a second of 1,000 ms and the caps of log entry 27 and R132. -/
theorem passMs_eq (s : State) :
    s.passMs =
      { s with
        ms := if s.ms = 999 then 0 else (s.ms + 1) % 1000
        groups := mapIx s.groups fun _ (r : Group) => { r with dwell := countDown r.dwell }
        adu := { s.adu with
          spinup := countDown s.adu.spinup, stopTimer := countDown s.adu.stopTimer
          sincePulse := s.adu.sincePulse.map fun n => min 327679 (n + 1) }
        rbu := { s.rbu with
          record := { s.rbu.record with pieces := mapIx s.rbu.record.pieces fun _ (r : PieceRecord) =>
            if r.timer.state = .running then { r with timer := { r.timer with left := r.timer.left - 1 } } else r }
          queue := s.rbu.queue.map fun e => { e with wait := e.wait - 1 } }
        mst := { s.mst with records := mapIx s.mst.records fun _ (r : MeasRecord) =>
          { r with age := r.age.map fun n => min 32767 (n + 1) } }
        fsv := { s.fsv with entries := s.fsv.entries.map fun e => { e with retryLeft := countDown e.retryLeft } }
        ports := mapIx s.ports fun _ (p : Port) => { p with silence := countDown p.silence } } := by
  have hms : (if s.ms = 999 then 0 else (s.ms + 1) % 1000) = (s.ms + 1) % 1000 := by split <;> omega
  simp only [hms, State.passMs, beq_iff_eq]
  rfl

/-! ## A pulse of a group in RETURN -/

/-- The test of R20 for a RETURN group that no forcing holds: at 3 counts above its dwell reference the dwell time starts
again. -/
def Group.returnTest (full : Nat) (r : Group) : Group :=
  if r.dwellRef + 3 ≤ r.stroke then { r with dwellRef := r.stroke, dwell := some full } else r

theorem Group.returnTest_state (full : Nat) (r : Group) : (r.returnTest full).state = r.state := by
  unfold Group.returnTest; split <;> rfl

theorem Group.returnTest_dwell (full : Nat) (r : Group) :
    (r.returnTest full).dwell = if r.dwellRef + 3 ≤ r.stroke then some full else r.dwell := by
  unfold Group.returnTest; split <;> rfl

theorem modGroup_congr {s : State} {g : GroupIx} {f f' : Group → Group} (h : f (s.group g) = f' (s.group g)) :
    s.modGroup g f = s.modGroup g f' := by
  unfold State.modGroup modAt
  exact congrArg (fun r => ({ s with groups := s.groups.set g.val r g.isLt } : State)) h

theorem modGroup_id (s : State) (g : GroupIx) : s.modGroup g id = s := by
  simp [State.modGroup, modAt]

theorem comparePulse_returning {s : State} {g : GroupIx} (hg : (s.group g).state = .returning) (hf : s.frozen = false) :
    s.comparePulse g = s.modGroup g (Group.returnTest (s.item .contactDwell)) := by
  unfold State.comparePulse
  simp only [hg, hf, Bool.not_false, Bool.true_and, decide_eq_true_eq]
  split
  · next h => exact modGroup_congr (if_pos h).symm
  · next h => exact (modGroup_id s g).symm.trans (modGroup_congr (if_neg h).symm)

theorem exec_strokePulse (g : GroupIx) (extending : Bool) (s : State) :
    exec (.strokePulse g extending) s = s.run fun t => (t.pulse g extending).settled := rfl

/-- An extending pulse below the greatest stroke is counted, judged and reported (R5, R6, R7). -/
theorem pulse_extending {s : State} {g : GroupIx} (hs : (s.group g).stroke < 32767) :
    s.pulse g true =
      ((s.modGroup g fun r => { r with stroke := (s.group g).stroke + 1 }).comparePulse g).send .strokeChange := by
  have hclamp : ¬32767 ≤ (s.group g).stroke := by omega
  simp [State.pulse, strokeTop, hclamp]

/-- A stroke change outside BORING and PAUSED comes to nothing (R37). -/
theorem settled_strokeChange {s : State} (hq : s.quiet = true) (hb : s.adu.cycle ≠ .boring) (hp : s.adu.cycle ≠ .paused) :
    (s.send .strokeChange).settled = s := by
  obtain ⟨hu, hn⟩ : s.unmarked = none ∧ s.notices = [] := by simpa [State.quiet] using hq
  have htaken : ({ s.send .strokeChange with notices := [] } : State) = s := by rw [State.send, ← hn]
  have hnothing : s.takeStrokeChange = s := by
    unfold State.takeStrokeChange; cases hc : s.adu.cycle <;> simp_all
  have htake : ({ s.send .strokeChange with notices := [] } : State).take .strokeChange = s := by
    rw [htaken, State.take, hnothing]
  have hwaits : (s.send .strokeChange).notices = [.strokeChange] := by rw [send_notices, hn, List.nil_append]
  have hunmarked : (s.send .strokeChange).unmarked = none := (unmarked_of_watched rfl).trans hu
  rw [State.settled, settleBound, settle_notice 3999 hunmarked hwaits, htake, settle_of_quiet _ hq]

/-- The part after a counted extending pulse of a RETURN group that no forcing keeps from the test of R20. -/
def State.pulsedInReturn (s : State) (g : GroupIx) : State :=
  (s.modGroup g fun r => { r with stroke := (s.group g).stroke + 1 }).modGroup g (Group.returnTest (s.item .contactDwell))

theorem pulsedInReturn_group (s : State) (g : GroupIx) :
    (s.pulsedInReturn g).group g =
      Group.returnTest (s.item .contactDwell) { s.group g with stroke := (s.group g).stroke + 1 } := by
  rw [State.pulsedInReturn, modGroup_group, if_pos rfl, modGroup_group, if_pos rfl]

/-- In a part at rest outside BORING and PAUSED, an extending pulse of an unforced RETURN group is counted and judged by R20, and
nothing more follows. -/
theorem exec_strokePulse_returning {s : State} {g : GroupIx} (hc : s.calm = true) (hb : s.adu.cycle ≠ .boring)
    (hp : s.adu.cycle ≠ .paused) (hg : (s.group g).state = .returning) (hf : s.frozen = false)
    (hs : (s.group g).stroke < 32767) : exec (.strokePulse g true) s = .next (s.pulsedInReturn g) := by
  obtain ⟨hr, hq⟩ := calm_iff.mp hc
  have hquiet : (s.pulsedInReturn g).quiet = true := (quiet_of_watched rfl rfl).trans hq
  have hcounted : ((s.modGroup g fun r => { r with stroke := (s.group g).stroke + 1 }).group g).state = .returning := by
    rw [modGroup_group, if_pos rfl, hg]
  have htest : (s.modGroup g fun r => { r with stroke := (s.group g).stroke + 1 }).comparePulse g = s.pulsedInReturn g :=
    comparePulse_returning hcounted hf
  rw [exec_strokePulse, run_awake hr, pulse_extending hs, htest, settled_strokeChange hquiet hb hp]

/-- Settles O1: an empty queue's step is one ms, whose ends are their commands; a pulse taken before it is judged by R20 first. -/
theorem stepRunsTheFrontCommand : Obligations.StepRunsTheFrontCommand := by
  refine ⟨⟨fun i rest s => step_of_cons rfl, fun s h => ⟨step_of_empty h, fun hr => ?_⟩⟩, fun s h hr => ?_,
    fun s g hc h hb hp hg he hf hs => ?_⟩
  · rw [step_of_empty h, tick_held hr]
  · intro count u v
    have hu : s.passMs = u := passMs_eq s
    rw [step_of_empty h, tick_awake hr, hu, runDue_eq (s := u) hr]
  · have hfrozen : s.frozen = false := Bool.or_eq_false_iff.mpr ⟨hf, he⟩
    have hgroup := pulsedInReturn_group { s with pending := [] } g
    refine ⟨State.pulsedInReturn { s with pending := [] } g, ?_, rfl, ?_, ?_⟩
    · rw [step_of_cons h]
      exact exec_strokePulse_returning (s := { s with pending := [] }) hc hb hp hg hfrozen hs
    · rw [hgroup, Group.returnTest_state]
      exact hg
    · rw [hgroup, Group.returnTest_dwell]
      rfl

end Sys2Proof.Machine
end

section
/-! What the FSV does to the state while it judges conditions: the relation `FaultWork`, one lemma per operation. -/

namespace Sys2Proof.Machine

/-! ## Relations between a state and what becomes of it -/

section
variable {R : State → State → Prop}

/-- A fold of operations that each go along a preorder goes along it. -/
theorem foldl_along {α : Type} (hrefl : ∀ s, R s s) (htrans : ∀ {s t u}, R s t → R t u → R s u) {f : State → α → State}
    (h : ∀ t a, R t (f t a)) (l : List α) (s : State) : R s (l.foldl f s) := by
  induction l generalizing s with
  | nil => exact hrefl s
  | cons a l ih => exact htrans (h s a) (ih _)

theorem ite_along {s a b : State} {c : Prop} [Decidable c] (ha : R s a) (hb : R s b) : R s (if c then a else b) := by
  split <;> assumption

end

/-! ## The FSV -/

/-- `t` is `s` after work of the FSV: its records, event flags and notices have changed; no action has left the action set and no
event flag has fallen. -/
structure FaultWork (s t : State) : Prop where
  eq : t = { s with fsv := t.fsv, ports := t.ports, notices := t.notices }
  inForce : ∀ a, s.inForce a = true → t.inForce a = true
  events : ∀ e, s.eventSet e = true → t.eventSet e = true

namespace FaultWork

theorem refl (s : State) : FaultWork s s := ⟨rfl, fun _ h => h, fun _ h => h⟩

theorem trans {s t u : State} (h : FaultWork s t) (k : FaultWork t u) : FaultWork s u :=
  ⟨by rw [k.eq, h.eq], fun a ha => k.inForce a (h.inForce a ha), fun e he => k.events e (h.events e he)⟩

theorem of_fsv (s : State) (f : Faults) (h : ∀ a, s.fsv.inForce a = true → f.inForce a = true) : FaultWork s { s with fsv := f } :=
  ⟨rfl, h, fun _ he => he⟩

theorem modFsv (s : State) (f : Faults → Faults) (h : ∀ a, s.fsv.inForce a = true → (f s.fsv).inForce a = true) :
    FaultWork s (s.modFsv f) := of_fsv s (f s.fsv) h

theorem foldl {α : Type} {f : State → α → State} (h : ∀ t a, FaultWork t (f t a)) (l : List α) (s : State) :
    FaultWork s (l.foldl f s) := foldl_along refl trans h l s

theorem send (s : State) (n : Notice) : FaultWork s (s.send n) := ⟨rfl, fun _ h => h, fun _ h => h⟩

end FaultWork

/-- The flag of one event after another has been set. -/
theorem setEvent_eventSet (s : State) (e d : Event) (h : d = e ∨ s.eventSet d = true) : (s.setEvent e).eventSet d = true := by
  unfold State.eventSet State.setEvent at *
  rw [modPort_port]
  split
  · next hst =>
    rw [modAt_getElem]
    split
    · rfl
    · next hbit =>
      rcases h with rfl | h
      · exact absurd rfl hbit
      · exact h
  · next hst =>
    rcases h with rfl | h
    · exact absurd rfl hst
    · exact h

theorem FaultWork.setEvent (s : State) (e : Event) : FaultWork s (s.setEvent e) :=
  ⟨rfl, fun _ h => h, fun _ h => setEvent_eventSet s e _ (.inr h)⟩

theorem Faults.inForce_iff (f : Faults) (a : Action) :
    f.inForce a = true ↔
      (∃ e ∈ f.entries, e.stops = true ∧ (actionsOf e.key).contains a = true) ∨ f.overflow = true ∧ a = .advHalt := by
  simp [Faults.inForce, List.any_eq_true]

theorem updateEntry_key (s : State) (e : FaultEntry) : (s.updateEntry e).key = e.key := by
  unfold State.updateEntry; dsimp only; split <;> rfl

theorem updateEntry_stops (s : State) (e : FaultEntry) (h : e.stops = true) : (s.updateEntry e).stops = true := by
  unfold State.updateEntry; dsimp only; split
  · exact h
  · rfl
  · exact h

/-- A raise takes no action out of the action set. -/
theorem raisedList_inForce (s : State) (key : FaultKey) (mode : Nat) (a : Action) (h : s.fsv.inForce a = true) :
    (s.raisedList key mode).inForce a = true := by
  rw [Faults.inForce_iff] at h ⊢
  unfold State.raisedList
  dsimp only
  split
  · refine h.imp_left fun ⟨e, hmem, hstops, hact⟩ => ⟨_, List.mem_map_of_mem hmem, ?_, ?_⟩
    · split
      · exact updateEntry_stops s e hstops
      · exact hstops
    · split
      · rw [updateEntry_key]; exact hact
      · exact hact
  · split
    · exact h
    · split
      · exact h.imp_left fun ⟨e, hmem, hrest⟩ => ⟨e, List.mem_append_left _ hmem, hrest⟩
      · exact h.imp_right fun ⟨_, ha⟩ => ⟨rfl, ha⟩

/-- The end of a condition takes no action out of the action set: an ACTIVE entry goes on stopping (R144). -/
theorem clearedEntry_stops (s : State) (e : FaultEntry) (h : e.stops = true) :
    ∃ e', s.clearedEntry e = some e' ∧ e'.stops = true ∧ e'.key = e.key := by
  unfold State.clearedEntry
  cases hs : e.state with
  | active => dsimp only; split <;> exact ⟨_, rfl, rfl, rfl⟩
  | reported => simp [FaultEntry.stops, hs] at h
  | latched => exact ⟨e, rfl, h, rfl⟩
  | retrying => exact ⟨e, rfl, h, rfl⟩

namespace FaultWork

theorem announceEntering (s : State) (before : Faults) : FaultWork s (s.announceEntering before) :=
  foldl (fun t _ => ite_along (send t _) (refl t)) _ s

theorem announceLeaving (s : State) (before : Faults) : FaultWork s (s.announceLeaving before) :=
  foldl (fun t _ => ite_along (send t _) (refl t)) _ s

theorem announce (s : State) (before : Faults) : FaultWork s (s.announce before) :=
  (announceEntering s before).trans (announceLeaving _ before)

theorem offerFirst (s : State) (key : FaultKey) : FaultWork s (s.offerFirst key) := by
  unfold State.offerFirst
  split
  · exact (modFsv s _ fun _ h => h).trans (setEvent _ _)
  · exact modFsv s _ fun _ h => h

theorem setDomainEvent (s : State) (key : FaultKey) : FaultWork s (s.setDomainEvent key) := by
  unfold State.setDomainEvent
  split
  · exact refl s
  all_goals exact setEvent s _

theorem countRaise (s : State) (key : FaultKey) : FaultWork s (s.countRaise key) :=
  modFsv s _ fun _ h => h

theorem raiseUnder (s : State) (key : FaultKey) (mode : Nat) : FaultWork s (s.raiseUnder key mode) := by
  have hlist := (countRaise s key).trans (of_fsv _ _ (raisedList_inForce (s.countRaise key) key mode))
  exact ite_along (hlist.trans ((offerFirst _ key).trans ((setEvent _ _).trans (setDomainEvent _ key)))) hlist

theorem answerBlocked (s : State) (key : FaultKey) : FaultWork s (s.answerBlocked key) := by
  unfold State.answerBlocked
  split
  · exact ite_along (send s _) (refl s)
  · exact refl s

theorem raise (s : State) (key : FaultKey) : FaultWork s (s.raise key) :=
  (raiseUnder s key _).trans ((announce _ _).trans (answerBlocked _ key))

theorem clearCondition (s : State) (key : FaultKey) : FaultWork s (s.clearCondition key) := by
  refine (modFsv s _ fun a h => ?_).trans (announce _ _)
  rw [Faults.inForce_iff] at h ⊢
  refine h.imp_left fun ⟨e, hmem, hstops, hact⟩ => ?_
  obtain ⟨e', he', hstops', hkey⟩ := clearedEntry_stops s e hstops
  by_cases hk : (e.key == key) = true
  · exact ⟨e', List.mem_filterMap.mpr ⟨e, hmem, by rw [if_pos hk, he']⟩, hstops', by rw [hkey]; exact hact⟩
  · exact ⟨e, List.mem_filterMap.mpr ⟨e, hmem, by rw [if_neg hk]⟩, hstops, hact⟩

theorem report (s : State) (key : FaultKey) : FaultWork s (s.report key) := ite_along (raise s key) (clearCondition s key)

theorem judgeKeys (s : State) (keys : List FaultKey) : FaultWork s (s.judgeKeys keys) :=
  foldl (fun t k => ite_along (report t k) (refl t)) keys s

end FaultWork

end Sys2Proof.Machine
end

section
/-! What the GRU, the MKU and the ACT do to the state: the relations `LineWork` and `Downstream`, one lemma per operation. -/

namespace Sys2Proof.Machine

/-! ## The GRU -/

/-- What only the rolling of the carries, a delivery and LINE RESUME change of a line (R96, R97, R109). -/
structure Ledger where
  carry : Int
  delivered : Nat
  outThroughout : Bool

def Line.ledger (l : Line) : Ledger := { carry := l.carry, delivered := l.delivered, outThroughout := l.outThroughout }

/-- `t` is `s` after work on the tail lines: beside what the FSV does, the lines, L_grout and the rate level have changed. -/
structure LineWork (s t : State) : Prop where
  eq : t = { s with
    gru := t.gru, fsv := t.fsv, ports := t.ports, notices := t.notices, adu := { s.adu with rateLevel := t.adu.rateLevel } }
  ledger : ∀ p, (t.line p).ledger = (s.line p).ledger
  inForce : ∀ a, s.inForce a = true → t.inForce a = true
  events : ∀ e, s.eventSet e = true → t.eventSet e = true

theorem FaultWork.line_eq {s t : State} (h : FaultWork s t) (p : LineIx) : t.line p = s.line p :=
  (congrArg (State.line · p) h.eq :)

theorem FaultWork.lineWork {s t : State} (h : FaultWork s t) : LineWork s t where
  eq := by rw [h.eq]
  ledger p := by rw [h.line_eq]
  inForce := h.inForce
  events := h.events

namespace LineWork

theorem refl (s : State) : LineWork s s := (FaultWork.refl s).lineWork

theorem trans {s t u : State} (h : LineWork s t) (k : LineWork t u) : LineWork s u :=
  ⟨by rw [k.eq, h.eq], fun p => (k.ledger p).trans (h.ledger p), fun a ha => k.inForce a (h.inForce a ha),
    fun e he => k.events e (h.events e he)⟩

theorem foldl {α : Type} {f : State → α → State} (h : ∀ t a, LineWork t (f t a)) (l : List α) (s : State) :
    LineWork s (l.foldl f s) := foldl_along refl trans h l s

theorem setEvent (s : State) (e : Event) : LineWork s (s.setEvent e) := (FaultWork.setEvent s e).lineWork

theorem raise (s : State) (key : FaultKey) : LineWork s (s.raise key) := (FaultWork.raise s key).lineWork

theorem judgeKeys (s : State) (keys : List FaultKey) : LineWork s (s.judgeKeys keys) := (FaultWork.judgeKeys s keys).lineWork

theorem modLine (s : State) (p : LineIx) (f : Line → Line) (h : ∀ l, (f l).ledger = l.ledger) : LineWork s (s.modLine p f) where
  eq := rfl
  ledger q := by rw [modLine_line]; split <;> simp [h]
  inForce _ h := h
  events _ h := h

theorem judgeRate (s : State) : LineWork s s.judgeRate := ⟨rfl, fun _ => rfl, fun _ h => h, fun _ h => h⟩

theorem judgeGrout (s : State) : LineWork s s.judgeGrout := ⟨rfl, fun _ => rfl, fun _ h => h, fun _ h => h⟩

theorem judgeSetpoint (s : State) (p : LineIx) : LineWork s (s.judgeSetpoint p) :=
  ite_along (modLine s p _ fun _ => rfl) (refl s)

theorem noteDeficit (s : State) (p : LineIx) : LineWork s (s.noteDeficit p) := modLine s p _ fun _ => rfl

theorem enterPhase (s : State) (p : LineIx) (ph : Phase) : LineWork s (s.enterPhase p ph) := by
  refine trans (modLine s p _ fun l => ?_) (judgeKeys _ _)
  rfl

theorem enterLimit (s : State) (p : LineIx) : LineWork s (s.enterLimit p) :=
  (enterPhase s p .limit).trans (modLine _ p _ fun _ => rfl)

theorem testLimit (s : State) (p : LineIx) : LineWork s (s.testLimit p) := ite_along (enterLimit s p) (refl s)

theorem testResume (s : State) (p : LineIx) : LineWork s (s.testResume p) :=
  ite_along ((enterPhase s p .flow).trans (testLimit _ p)) (refl s)

theorem enterSatisfied (s : State) (p : LineIx) : LineWork s (s.enterSatisfied p) :=
  (enterPhase s p .satisfied).trans ((setEvent _ _).trans (testResume _ p))

theorem testSatisfied (s : State) (p : LineIx) : LineWork s (s.testSatisfied p) := ite_along (enterSatisfied s p) (refl s)

theorem enterFlow (s : State) (p : LineIx) : LineWork s (s.enterFlow p) :=
  (enterPhase s p .flow).trans ((testLimit _ p).trans (testSatisfied _ p))

theorem testPrimed (s : State) (p : LineIx) : LineWork s (s.testPrimed p) := ite_along (enterFlow s p) (refl s)

theorem startLine (s : State) (p : LineIx) : LineWork s (s.startLine p) :=
  ite_along (enterPhase s p .held) (ite_along (enterPhase s p .idle)
    ((modLine s p (fun l => { l with sinceOpen := 0 }) fun _ => rfl).trans ((enterPhase _ p .prime).trans (testPrimed _ p))))

theorem takeDeficit (s : State) (p : LineIx) : LineWork s (s.takeDeficit p) :=
  (noteDeficit s p).trans ((judgeSetpoint _ p).trans ((testSatisfied _ p).trans (testResume _ p)))

theorem takeDeficits (s : State) : LineWork s s.takeDeficits := (foldl takeDeficit _ s).trans (judgeGrout _)

theorem takeOpening (s : State) (p : LineIx) : LineWork s (s.takeOpening p) := ite_along (startLine s p) (refl s)

theorem idleLine (s : State) (p : LineIx) : LineWork s (s.idleLine p) := ite_along (enterPhase s p .idle) (refl s)

theorem idleLines (s : State) : LineWork s s.idleLines := foldl idleLine _ s

theorem startIdleLines (s : State) : LineWork s s.startIdleLines := foldl (fun t p => ite_along (startLine t p) (refl t)) _ s

theorem holdLine (s : State) (p : LineIx) : LineWork s (s.holdLine p) := ite_along (enterPhase s p .held) (refl s)

theorem releaseLine (s : State) (p : LineIx) : LineWork s (s.releaseLine p) := ite_along (startLine s p) (refl s)

theorem unblockLine (s : State) (p : LineIx) : LineWork s (s.unblockLine p) := ite_along (startLine s p) (refl s)

theorem testStall (s : State) (p : LineIx) : LineWork s (s.testStall p) :=
  ite_along (ite_along (enterSatisfied s p) ((enterPhase s p .blocked).trans ((setEvent _ _).trans (raise _ _)))) (refl s)

theorem tickLine (s : State) (p : LineIx) : LineWork s (s.tickLine p) := by
  have hcount := modLine s p (fun l => { l with secondCount := 0 }) fun _ => rfl
  refine ite_along ?_ hcount
  have hhistory := hcount.trans (modLine _ p
    (fun r => { r with stallHistory := lastOf (s.item .stallTime) (r.stallHistory ++ [(s.line p).secondCount]) }) fun _ => rfl)
  exact ite_along (hhistory.trans (testStall _ p)) hhistory

theorem groutTick (s : State) : LineWork s s.groutTick := foldl tickLine _ s

theorem windowNotice (s : State) (was now : Bool) (p : LineIx) : LineWork s (s.windowNotice was now p) := by
  unfold State.windowNotice
  split
  · exact (takeOpening s p).trans (judgeGrout _)
  · exact (idleLine s p).trans (judgeGrout _)
  · exact refl s

end LineWork

/-! ## The MKU and the ACT -/

/-- `t` is `s` after work of the blocks that no group, piece, cycle state or configuration item depends on: the ACT, the GRU, the MKU
and the FSV. -/
structure Downstream (s t : State) : Prop where
  eq : t = { s with
    act := t.act, gru := t.gru, mku := t.mku, fsv := t.fsv, ports := t.ports, notices := t.notices
    adu := { s.adu with rateLevel := t.adu.rateLevel } }
  events : ∀ e, s.eventSet e = true → t.eventSet e = true

theorem LineWork.downstream {s t : State} (h : LineWork s t) : Downstream s t := ⟨by rw [h.eq], h.events⟩

theorem FaultWork.downstream {s t : State} (h : FaultWork s t) : Downstream s t := h.lineWork.downstream

namespace Downstream

theorem refl (s : State) : Downstream s s := (LineWork.refl s).downstream

theorem trans {s t u : State} (h : Downstream s t) (k : Downstream t u) : Downstream s u :=
  ⟨by rw [k.eq, h.eq], fun e he => k.events e (h.events e he)⟩

theorem foldl {α : Type} {f : State → α → State} (h : ∀ t a, Downstream t (f t a)) (l : List α) (s : State) :
    Downstream s (l.foldl f s) := foldl_along refl trans h l s

theorem setEvent (s : State) (e : Event) : Downstream s (s.setEvent e) := (LineWork.setEvent s e).downstream

theorem raise (s : State) (key : FaultKey) : Downstream s (s.raise key) := (LineWork.raise s key).downstream

theorem judgeRate (s : State) : Downstream s s.judgeRate := (LineWork.judgeRate s).downstream

theorem judgeGrout (s : State) : Downstream s s.judgeGrout := (LineWork.judgeGrout s).downstream

theorem judgeKeys (s : State) (keys : List FaultKey) : Downstream s (s.judgeKeys keys) := (LineWork.judgeKeys s keys).downstream

theorem modMku (s : State) (f : Muck → Muck) : Downstream s (s.modMku f) := ⟨rfl, fun _ h => h⟩

theorem modAct (s : State) (f : Accounts → Accounts) : Downstream s (s.modAct f) := ⟨rfl, fun _ h => h⟩

theorem modLine (s : State) (p : LineIx) (f : Line → Line) : Downstream s (s.modLine p f) := ⟨rfl, fun _ h => h⟩

theorem modFsv (s : State) (f : Faults → Faults) : Downstream s (s.modFsv f) := ⟨rfl, fun _ h => h⟩

theorem send (s : State) (n : Notice) : Downstream s (s.send n) := ⟨rfl, fun _ h => h⟩

theorem judgePermit (s : State) : Downstream s s.judgePermit := by
  have hjudged := (modMku s fun k => { k with beltPermit := s.permitFor, lMuck := if s.permitFor then 8 else 0 }).trans (judgeRate _)
  exact (ite_along (hjudged.trans (setEvent _ _)) hjudged).trans (judgeKeys _ _)

theorem judgeDeficit (s : State) (p : LineIx) : Downstream s (s.judgeDeficit p) := ⟨rfl, fun _ h => h⟩

theorem judgeDeficits (s : State) : Downstream s s.judgeDeficits := foldl judgeDeficit _ s

theorem takeDeficits (s : State) : Downstream s s.takeDeficits := (LineWork.takeDeficits s).downstream

theorem distribute (s : State) (v : Nat) : Downstream s (s.distribute v) := ite_along (modAct s _) (modAct s _)

theorem accrueSteps (s : State) (new : Nat) : Downstream s (s.accrueSteps new) :=
  (modAct s _).trans ((distribute _ _).trans ((modAct _ _).trans ((modAct _ _).trans (judgeDeficits _))))

theorem accrue (s : State) (new : Nat) : Downstream s (s.accrue new) := by
  unfold State.accrue
  extract_lets old t t1 t2
  have hsteps : Downstream s t := (accrueSteps s new).trans (takeDeficits _)
  have hnotices : Downstream s t1 := hsteps.trans (foldl (fun u p => (LineWork.windowNotice u _ _ p).downstream) _ _)
  have hskips : Downstream s t2 := hnotices.trans (foldl (fun u p => ite_along (setEvent u _) (refl u)) _ _)
  exact ite_along (hskips.trans (raise _ _)) hskips

theorem takeChange (s : State) : Downstream s s.takeChange := ite_along (accrue s _) (refl s)

theorem flush (s : State) : Downstream s s.flush := ite_along (accrue s _) (refl s)

theorem restartAccounts (s : State) : Downstream s s.restartAccounts := (modAct s _).trans (judgeDeficits _)

theorem startAccountRing (s : State) : Downstream s s.startAccountRing :=
  (restartAccounts s).trans ((takeDeficits _).trans (foldl
    (fun u p => ite_along ((LineWork.takeOpening u p).trans (LineWork.judgeGrout _)).downstream (refl u)) _ _))

theorem startMuckRing (s : State) : Downstream s s.startMuckRing := modMku s _

theorem resetRingCounts (s : State) : Downstream s s.resetRingCounts := modFsv s _

theorem shutWindows (s : State) : Downstream s s.shutWindows := modAct s _

theorem noticeRemoval (s : State) (key : FaultKey) : Downstream s (s.noticeRemoval key) := by
  unfold State.noticeRemoval
  split
  · exact send s _
  · exact refl s

theorem removeEntry (s : State) (key : FaultKey) : Downstream s (s.removeEntry key) :=
  (modFsv s _).trans ((FaultWork.announce _ _).downstream.trans (noticeRemoval _ key))

theorem expireRetry (s : State) (key : FaultKey) : Downstream s (s.expireRetry key) := by
  unfold State.expireRetry
  split
  · exact ite_along ((modFsv s _).trans (removeEntry _ _)) (refl s)
  · exact refl s

theorem clearOverflow (s : State) : Downstream s s.clearOverflow := by
  have hraised : Downstream (s.modFsv fun f => { f with overflow := false }) (State.raiseAfresh _) :=
    foldl (fun t k => ite_along ((FaultWork.raiseUnder t k _).trans (FaultWork.announceEntering _ _)).downstream (refl t)) _ _
  have hnoticed (t : State) : Downstream t t.noticeUnblocked := foldl (fun u _ => ite_along (send u _) (refl u)) _ t
  exact (modFsv s _).trans (hraised.trans ((hnoticed _).trans (FaultWork.announceLeaving _ _).downstream))

theorem judgeExcavation (s : State) : Downstream s s.judgeExcavation := by
  unfold State.judgeExcavation
  split
  · exact ite_along (refl s) (ite_along ((modMku s _).trans (raise _ _)) (ite_along ((modMku s _).trans (raise _ _)) (refl s)))
  · exact refl s

theorem muckTick (s : State) : Downstream s s.muckTick := ite_along ((modMku s _).trans (judgeExcavation _)) (refl s)

theorem testCarDue (s : State) : Downstream s s.testCarDue := ite_along ((modMku s _).trans (setEvent _ _)) (refl s)

theorem countMuck (s : State) (n : Nat) : Downstream s (s.countMuck n) :=
  (modMku s _).trans (ite_along ((modMku _ _).trans ((testCarDue _).trans (judgePermit _))) (modMku _ _))

theorem takeBeltCounter (s : State) (v : Nat) : Downstream s (s.takeBeltCounter v) := by
  have hnoted := modMku s fun k => { k with lastCounter := v, counterValid := true }
  exact ite_along hnoted (ite_along hnoted (ite_along (hnoted.trans (raise _ _)) (hnoted.trans (countMuck _ _))))

theorem deliver (s : State) (p : LineIx) (n : Nat) : Downstream s (s.deliver p n) :=
  (modLine s p _).trans ((judgeDeficit _ p).trans
    ((LineWork.noteDeficit _ p).trans ((LineWork.testPrimed _ p).trans ((LineWork.takeDeficit _ p).trans
      (LineWork.judgeGrout _)))).downstream)

theorem takeLineCounter (s : State) (p : LineIx) (v : Nat) : Downstream s (s.takeLineCounter p v) := by
  have hnoted := modLine s p fun l => { l with lastCounter := v, counterValid := true }
  exact ite_along hnoted (ite_along hnoted (ite_along (hnoted.trans (raise _ _)) (hnoted.trans (deliver _ _ _))))

theorem takePressure (s : State) (p : LineIx) : Downstream s (s.takePressure p) := by
  have hnoted : Downstream s (s.notePressure p) := modLine s p _
  unfold State.takePressure
  dsimp only
  split
  · exact hnoted.trans (LineWork.testLimit _ p).downstream
  · exact ite_along (hnoted.trans (LineWork.enterFlow _ p).downstream) hnoted
  · exact hnoted.trans (LineWork.testResume _ p).downstream
  · exact hnoted

theorem passValue (s : State) (m : MeasIx) (v : Nat) : Downstream s (s.passValue m v) := by
  unfold State.passValue
  split_ifs
  · exact refl s
  · exact takePressure s _
  · exact takeLineCounter s _ v
  · exact takeBeltCounter s v

end Downstream

end Sys2Proof.Machine
end

section
/-! Every step keeps the group table sound: the moves of the JGU do, and no other block touches a group (R2, R6, R15, R22). -/

namespace Sys2Proof.Machine

/-- What `State.groupsSound` says of one group. -/
def Group.sound (r : Group) : Prop :=
  r.stroke ≤ 32767 ∧ (r.owner.isSome = true ↔ r.state = .retract ∨ r.state = .clear ∨ r.state = .returning) ∧
    (r.dwell.isSome = true → r.state = .returning)

theorem groupsSound_iff (s : State) : s.groupsSound ↔ ∀ g, (s.group g).sound := Iff.rfl

/-! ## The moves of one group -/

theorem Group.sound_reset : Group.reset.sound := by simp [Group.sound, Group.reset]

theorem Group.sound.enterHold {r : Group} (h : r.sound) : r.enterHold.sound := by
  simp [Group.sound, Group.enterHold, h.1]

/-- Only a group in RETURN has a dwell time, and only a lent one an owner. -/
theorem Group.sound.absent {r : Group} (h : r.sound) (hs : r.state = .locked ∨ r.state = .hold ∨ r.state = .push) :
    r.owner = none ∧ r.dwell = none := by
  obtain ⟨-, howner, hdwell⟩ := h
  have hlent : ¬(r.state = .retract ∨ r.state = .clear ∨ r.state = .returning) := by
    rcases hs with hs | hs | hs <;> simp [hs]
  have hreturn : r.state ≠ .returning := fun e => hlent (.inr (.inr e))
  exact ⟨by simpa using fun hs => hlent (howner.mp hs), by simpa using fun hs => hreturn (hdwell hs)⟩

theorem Group.sound.push {r : Group} (h : r.sound) (hs : r.state = .hold) (b : Bool) :
    ({ r with state := .push, strokeEndReported := b } : Group).sound := by
  obtain ⟨howner, hdwell⟩ := h.absent (.inr (.inl hs))
  simp [Group.sound, howner, hdwell, h.1]

theorem Group.sound.retractFor {r : Group} (h : r.sound) (c : Nat) (pc : Piece) : (r.retractFor c pc).sound := by
  unfold Group.retractFor
  split
  case h_3 => exact h
  all_goals
    next hs =>
      have hdwell := (h.absent (by simp [hs])).2
      refine ⟨h.1, ?_, by simp [hdwell]⟩
      dsimp only
      split <;> simp

theorem Group.sound.returnFor {r : Group} (h : r.sound) (forced : Bool) (dwell : Nat) : (r.returnFor forced dwell).sound := by
  unfold Group.returnFor
  split
  case h_3 => exact h
  all_goals
    next hs =>
      have howner := h.2.1.mpr (by simp [hs])
      simp [Group.sound, howner, h.1]

theorem Group.sound.dwellAt {r : Group} (h : r.sound) (hs : r.state = .returning) (ref : Nat) (d : Option Nat) :
    ({ r with dwellRef := ref, dwell := d } : Group).sound := ⟨h.1, h.2.1, fun _ => hs⟩

theorem Group.sound.reference {r : Group} (h : r.sound) {v : Nat} (hv : v ≤ 32767) : (r.reference v).sound := by
  have hmoved : ({ r with capture := r.shifted v, stroke := v, referenced := true, saturated := false } : Group).sound :=
    ⟨hv, h.2⟩
  unfold Group.reference
  dsimp only
  split
  · exact hmoved.enterHold
  · exact hmoved.enterHold
  · exact hmoved

/-! ## The group table -/

/-- Every group that was sound in `s` is sound in `t`. -/
structure GroupsKept (s t : State) : Prop where
  sound : ∀ g, (s.group g).sound → (t.group g).sound

namespace GroupsKept

theorem of_groups {s t : State} (h : t.groups = s.groups) : GroupsKept s t where
  sound g hg := by rw [State.group, h]; exact hg

theorem refl (s : State) : GroupsKept s s := of_groups rfl

theorem trans {s t u : State} (h : GroupsKept s t) (k : GroupsKept t u) : GroupsKept s u :=
  ⟨fun g hg => k.sound g (h.sound g hg)⟩

theorem foldl {α : Type} {f : State → α → State} (h : ∀ t a, GroupsKept t (f t a)) (l : List α) (s : State) :
    GroupsKept s (l.foldl f s) := foldl_along refl trans h l s

theorem of_downstream {s t : State} (h : Downstream s t) : GroupsKept s t := of_groups (congrArg State.groups h.eq :)

theorem mapGroups (s : State) (f : GroupIx → Group → Group) (h : ∀ g r, r.sound → (f g r).sound) :
    GroupsKept s { s with groups := mapIx s.groups f } where
  sound g hg := by
    have hafter : ({ s with groups := mapIx s.groups f } : State).group g = f g (s.group g) := mapIx_getElem ..
    rw [hafter]
    exact h g _ hg

theorem modGroup (s : State) (g : GroupIx) (f : Group → Group) (h : (s.group g).sound → (f (s.group g)).sound) :
    GroupsKept s (s.modGroup g f) where
  sound g' hg := by
    rw [modGroup_group]
    split
    · next he => subst he; exact h hg
    · exact hg

theorem modAdu (s : State) (f : Advance → Advance) : GroupsKept s (s.modAdu f) := of_groups rfl

theorem modRbu (s : State) (f : RingBuild → RingBuild) : GroupsKept s (s.modRbu f) := of_groups rfl

theorem modRecord (s : State) (f : RingRecord → RingRecord) : GroupsKept s (s.modRecord f) := of_groups rfl

theorem modPiece (s : State) (pc : Piece) (f : PieceRecord → PieceRecord) : GroupsKept s (s.modPiece pc f) := of_groups rfl

theorem setEvent (s : State) (e : Event) : GroupsKept s (s.setEvent e) := of_groups rfl

theorem send (s : State) (n : Notice) : GroupsKept s (s.send n) := of_groups rfl

theorem changeGroups (s : State) (f : GroupIx → Group → Group) (h : ∀ g r, r.sound → (f g r).sound) :
    GroupsKept s (s.changeGroups f) := by
  rw [changeGroups_eq]
  exact (mapGroups s f h).trans (of_groups rfl)

/-! ## The JGU -/

theorem jguPush (s : State) : GroupsKept s s.jguPush := by
  refine trans (changeGroups s _ fun g r hr => ?_) (foldl (fun t g => ite_along (send t _) (refl t)) _ _)
  split
  · next hs => exact hr.push (by simpa using hs) _
  · exact hr

theorem jguHold (s : State) : GroupsKept s s.jguHold :=
  changeGroups s _ fun _ _ hr => by split <;> [exact hr.enterHold; exact hr]

theorem jguRetract (s : State) (pc : Piece) (gs : List GroupIx) : GroupsKept s (s.jguRetract pc gs) :=
  changeGroups s _ fun _ _ hr => by split <;> [exact hr.retractFor _ _; exact hr]

theorem jguReturn (s : State) (gs : List GroupIx) : GroupsKept s (s.jguReturn gs) :=
  changeGroups s _ fun _ _ hr => by split <;> [exact hr.returnFor _ _; exact hr]

theorem stopDwells (s : State) : GroupsKept s s.stopDwells :=
  mapGroups s _ fun _ r hr => by
    split
    · next hs => exact hr.dwellAt (by simpa using hs) r.dwellRef none
    · exact hr

theorem restartDwells (s : State) : GroupsKept s s.restartDwells :=
  ite_along (refl s) <| mapGroups s _ fun _ _ hr => by
    split
    · next hs => exact hr.dwellAt (by simpa using hs) _ _
    · exact hr

theorem captureStrokes (s : State) : GroupsKept s s.captureStrokes := mapGroups s _ fun _ _ hr => hr

theorem expireDwell (s : State) (g : GroupIx) : GroupsKept s (s.expireDwell g) :=
  ite_along (changeGroups s _ fun _ _ hr => by split <;> [exact hr.enterHold; exact hr]) (refl s)

theorem comparePulse (s : State) (g : GroupIx) : GroupsKept s (s.comparePulse g) := by
  unfold State.comparePulse
  dsimp only
  split
  case h_1 hs =>
    refine ite_along ?_ (refl s)
    rw [changeGroups_eq]
    refine ⟨fun g' hg' => ?_⟩
    have hafter : (mapIx s.groups fun g'' r' => if g'' = g then { r' with state := .clear } else r')[g'] =
        if g' = g then { s.group g' with state := .clear } else s.group g' := mapIx_getElem ..
    rw [State.group, hafter]
    split
    · next he =>
      subst he
      have howner := hg'.2.1.mpr (.inl hs)
      have hdwell : (s.group g').dwell = none := by simpa [hs] using hg'.2.2
      exact ⟨hg'.1, by simp [howner], by simp [hdwell]⟩
    · exact hg'
  case h_2 hs => exact ite_along (modGroup s g _ fun hr => hr.dwellAt hs _ _) (refl s)
  case h_3 => exact ite_along ((modGroup s g _ fun hr => hr).trans (of_downstream (Downstream.raise _ _))) (refl s)
  case h_4 => exact ite_along ((modGroup s g (fun r => { r with strokeEndReported := true }) fun hr => hr).trans (send _ _)) (refl s)
  all_goals exact refl s

/-- A pulse leaves the stroke within 0 to 32,767 (R6). -/
theorem pulse (s : State) (g : GroupIx) (extending : Bool) : GroupsKept s (s.pulse g extending) := by
  unfold State.pulse
  dsimp only
  split
  · exact modGroup s g _ fun hr => hr
  · next hcount =>
    refine trans (modGroup s g _ fun hr => ⟨?_, hr.2⟩) ((comparePulse _ g).trans (send _ _))
    have hbound : (s.group g).stroke ≤ 32767 := hr.1
    dsimp only
    split
    · next he =>
      have htop : ¬32767 ≤ (s.group g).stroke := fun hle => hcount (by simp [he, strokeTop, hle])
      omega
    · omega

theorem requestReference (s : State) (v : GroupIx → Nat) (hv : ∀ g, v g ≤ 32767) : GroupsKept s (s.requestReference v).1 := by
  unfold State.requestReference
  split
  · exact refl s
  · exact (changeGroups s _ fun g _ hr => hr.reference (hv g)).trans (send _ _)

/-! ## The ADU -/

theorem enterCycle (s : State) (c : Cycle) : GroupsKept s (s.enterCycle c) :=
  (modAdu s _).trans (of_downstream ((Downstream.judgeRate _).trans (Downstream.judgeKeys _ _)))

theorem judgePen (s : State) : GroupsKept s s.judgePen := of_groups rfl

theorem enterStandstill (s : State) : GroupsKept s s.enterStandstill :=
  (enterCycle s _).trans (of_downstream (Downstream.flush _))

theorem holdIfBoring (s : State) : GroupsKept s s.holdIfBoring := ite_along (jguHold s) (refl s)

theorem enterRundown (s : State) : GroupsKept s s.enterRundown := by
  have hrun := (holdIfBoring s).trans ((modAdu _ fun a =>
    { a with thrustPermit := false, cutterPermit := false, spinup := none }).trans ((enterCycle _ .rundown).trans
      (of_downstream (Downstream.flush _))))
  exact ite_along (hrun.trans ((setEvent _ _).trans (enterStandstill _))) hrun

theorem enterPaused (s : State) (kept : Bool) : GroupsKept s (s.enterPaused kept) := by
  unfold State.enterPaused
  exact (holdIfBoring s).trans ((modAdu _ _).trans ((enterCycle _ .paused).trans (modAdu _ _)))

theorem enterSpinup (s : State) : GroupsKept s s.enterSpinup := (modAdu s _).trans ((enterCycle _ _).trans (judgePen _))

theorem rollCarries (s : State) : GroupsKept s s.rollCarries := of_groups rfl

theorem maxFace (s : State) (v : Option Nat) : GroupsKept s { s with mst := { s.mst with maxFace := v } } := of_groups rfl

theorem startRing (s : State) : GroupsKept s s.startRing :=
  (captureStrokes s).trans ((modAdu _ _).trans ((rollCarries _).trans
    ((of_downstream ((Downstream.startAccountRing _).trans ((Downstream.startMuckRing _).trans (Downstream.resetRingCounts _)))).trans
      ((modAdu _ _).trans (maxFace _ _)))))

theorem enterBoring (s : State) : GroupsKept s s.enterBoring := by
  have hentered := (modAdu s fun a => { a with spinup := none }).trans (enterCycle _ .boring)
  exact trans (ite_along (hentered.trans (startRing _)) hentered) ((jguPush _).trans ((modAdu _ _).trans (of_downstream (Downstream.judgeRate _))))

theorem testTarget (s : State) : GroupsKept s s.testTarget :=
  ite_along ((setEvent s _).trans ((modAdu _ _).trans (enterRundown _))) (refl s)

theorem takeStrokeChange (s : State) : GroupsKept s s.takeStrokeChange := by
  have hmeasured := modAdu s fun a => { a with a := meanAdvance s.groups }
  unfold State.takeStrokeChange
  dsimp only
  split
  · exact trans (ite_along (hmeasured.trans (of_downstream (Downstream.takeChange _))) hmeasured) (testTarget _)
  · exact hmeasured.trans (testTarget _)
  · exact refl s

theorem takeStrokeEnd (s : State) : GroupsKept s s.takeStrokeEnd :=
  ite_along ((setEvent s _).trans ((modAdu _ _).trans (enterRundown _))) (refl s)

theorem takeHalt (s : State) : GroupsKept s s.takeHalt := by
  unfold State.takeHalt
  dsimp only
  split
  · exact enterPaused s _
  · exact ite_along (enterPaused s _) (refl s)
  · exact ite_along (modAdu s _) (refl s)
  · exact refl s

theorem takeHaltLift (s : State) : GroupsKept s s.takeHaltLift :=
  ite_along (ite_along (enterBoring s) (enterSpinup s)) (refl s)

theorem measurePulse (s : State) : GroupsKept s s.measurePulse := of_groups rfl

theorem takeRevolution (s : State) : GroupsKept s s.takeRevolution := by
  have hconfirm (t : State) : GroupsKept t t.confirmSpinup := ite_along (enterPaused t _) (enterBoring t)
  have hjudge (t : State) : GroupsKept t t.judgeConfirmation :=
    ite_along (ite_along ((modAdu t _).trans (hconfirm _)) (modAdu t _)) (refl t)
  exact (measurePulse s).trans ((hjudge _).trans (judgePen _))

theorem expireStopTimer (s : State) : GroupsKept s s.expireStopTimer := by
  have hstopped := modAdu s fun a => { a with stopTimer := none, cutter := .stopped }
  exact ite_along (ite_along (hstopped.trans ((setEvent _ _).trans (enterStandstill _))) hstopped) (refl s)

theorem expireSpinup (s : State) : GroupsKept s s.expireSpinup :=
  ite_along ((modAdu s _).trans ((setEvent _ _).trans (enterStandstill _))) (refl s)

theorem dropCycle (s : State) : GroupsKept s s.dropCycle :=
  trans (setEvent s .estop) (ite_along ((jguHold _).trans ((modAdu _ _).trans (enterStandstill _))) (refl _))

theorem takeCompletion (s : State) : GroupsKept s s.takeCompletion :=
  trans (modAdu s fun a => { a with ringStartPending := true }) (ite_along (enterStandstill _) (refl _))

theorem requestStart (s : State) : GroupsKept s s.requestStart.1 := by
  unfold State.requestStart
  split
  · exact refl s
  · exact enterSpinup s

theorem requestStop (s : State) : GroupsKept s s.requestStop.1 := by
  have hstop : GroupsKept s (s.setCause .stopRequest).enterRundown := (modAdu s _).trans (enterRundown _)
  unfold State.requestStop
  split <;> dsimp only
  case h_4 | h_5 | h_6 => exact refl s
  all_goals exact hstop

/-! ## The RBU -/

theorem grant (s : State) (pc : Piece) : GroupsKept s (s.grant pc) :=
  (modPiece s pc _).trans ((setEvent _ _).trans (jguRetract _ pc _))

theorem examineHead (s : State) : GroupsKept s s.examineHead := by
  unfold State.examineHead
  split
  · exact refl s
  · split
    · exact refl s
    · exact (modRbu s _).trans (grant _ _)

theorem completeRing (s : State) : GroupsKept s s.completeRing :=
  (modRecord s _).trans ((modRbu _ _).trans ((of_downstream (Downstream.judgeKeys _ _)).trans ((setEvent _ _).trans
    (takeCompletion _))))

theorem arriveClear (s : State) (g : GroupIx) (pc : Piece) : GroupsKept s (s.arriveClear g pc) :=
  ite_along (refl s) (ite_along ((modPiece s pc _).trans (setEvent _ _)) (modPiece s pc _))

theorem arriveHold (s : State) (g : GroupIx) (pc : Piece) : GroupsKept s (s.arriveHold g pc) := by
  unfold State.arriveHold
  dsimp only
  split
  · have hset := (modPiece s pc fun r => r.arrived .set).trans (setEvent _ .pieceSet)
    exact ite_along (ite_along (hset.trans (completeRing _)) hset) (modPiece s pc _)
  · exact ite_along ((modPiece s pc _).trans (setEvent _ _)) (modPiece s pc _)
  · exact refl s

theorem takeGroupState (s : State) (g : GroupIx) (st : GroupState) (arrived : Option Piece) :
    GroupsKept s (s.takeGroupState g st arrived) := by
  refine trans ?_ (examineHead _)
  split
  · exact arriveClear s g _
  · exact arriveHold s g _
  · exact refl s

theorem resumeTimers (s : State) : GroupsKept s s.resumeTimers := ite_along (refl s) (modRecord s _)

theorem expirePieceTimer (s : State) (pc : Piece) : GroupsKept s (s.expirePieceTimer pc) :=
  ite_along ((modPiece s pc _).trans (of_downstream (Downstream.raise _ _))) (refl s)

theorem dequeue (s : State) (pc : Piece) : GroupsKept s (s.dequeue pc) := (modRbu s _).trans (modPiece _ pc _)

theorem expireWait (s : State) (pc : Piece) : GroupsKept s (s.expireWait pc) := by
  have hgone := (dequeue s pc).trans ((setEvent _ .claimExpired).trans
    (modRecord _ fun r => { r with claimsExpired := addUpTo 32767 r.claimsExpired 1 }))
  exact ite_along (ite_along (hgone.trans (examineHead _)) hgone) (refl s)

theorem withPiece (s : State) (code : Nat) (f : Piece → State × Reply) (h : ∀ pc, GroupsKept s (f pc).1) :
    GroupsKept s (s.withPiece code f).1 := by
  unfold State.withPiece
  split
  · exact refl s
  · split
    · exact refl s
    · exact h _

theorem requestClaim (s : State) (code : Nat) : GroupsKept s (s.requestClaim code).1 := by
  refine withPiece s code _ fun pc => ?_
  split
  · exact refl s
  · unfold State.takeClaim
    split
    · exact grant s pc
    · split <;> dsimp only
      · exact (modPiece s pc _).trans (modRbu _ _)
      · exact refl s

theorem sendBack (s : State) (pc : Piece) (st : PieceState) : GroupsKept s (s.sendBack pc st) :=
  (modPiece s pc _).trans (jguReturn _ _)

theorem requestPlaced (s : State) (code : Nat) : GroupsKept s (s.requestPlaced code).1 := by
  refine withPiece s code _ fun pc => ?_
  split
  · exact sendBack s pc _
  · exact refl s

theorem requestWithdraw (s : State) (code : Nat) : GroupsKept s (s.requestWithdraw code).1 := by
  refine withPiece s code _ fun pc => ?_
  split
  case h_2 => exact ite_along ((dequeue s pc).trans (examineHead _)) (dequeue s pc)
  case h_3 => exact sendBack s pc _
  case h_4 => exact sendBack s pc _
  all_goals exact refl s

theorem requestRing (s : State) (number key : Nat) : GroupsKept s (s.requestRing number key).1 := by
  unfold State.requestRing
  split
  · exact refl s
  · have hopen (t : State) (k : GroupIx) : GroupsKept t (t.openRecord number k) :=
      (modRbu t _).trans ((of_downstream (Downstream.judgeKeys _ _)).trans (setEvent _ _))
    have hfreeze (t : State) : GroupsKept t t.freezeAccounts := of_groups rfl
    dsimp only
    exact (enterCycle s _).trans ((hopen _ _).trans ((of_downstream ((Downstream.shutWindows _).trans
      ((LineWork.idleLines _).downstream.trans (Downstream.judgeGrout _)))).trans (hfreeze _)))

/-! ## What a command sets going -/

theorem takeEntering (s : State) (a : Action) : GroupsKept s (s.takeEntering a) := by
  unfold State.takeEntering
  split
  · exact takeHalt s
  · exact takeHalt s
  · exact of_downstream (Downstream.judgePermit s)
  · exact (stopDwells s).trans (modRecord _ _)
  · exact of_downstream ((LineWork.holdLine s _).trans (LineWork.judgeGrout _)).downstream

theorem takeLeaving (s : State) (a : Action) : GroupsKept s (s.takeLeaving a) := by
  refine trans ?_ (examineHead _)
  split
  · exact takeHaltLift s
  · exact takeHaltLift s
  · exact of_downstream (Downstream.judgePermit s)
  · exact (restartDwells s).trans (resumeTimers _)
  · exact of_downstream ((LineWork.releaseLine s _).trans (LineWork.judgeGrout _)).downstream

theorem take (s : State) (n : Notice) : GroupsKept s (s.take n) := by
  cases n with
  | strokeChange => exact takeStrokeChange s
  | strokeEnd g => exact takeStrokeEnd s
  | groupState g st owner arrived => exact takeGroupState s g st arrived
  | actionEnters a => exact takeEntering s a
  | actionLeaves a => exact takeLeaving s a
  | blockedRemoved p => exact of_downstream ((LineWork.unblockLine s p).trans (LineWork.judgeGrout _)).downstream

theorem settled (s : State) : GroupsKept s s.settled where
  sound g := settle_keeps (fun t => (t.group g).sound)
    (fun t key => (of_downstream (FaultWork.report t key).downstream).sound g)
    (fun t n rest _ => (take { t with notices := rest } n).sound g) _ s

end GroupsKept

end Sys2Proof.Machine
end

section
/-! What the MST and CONFIGURE do to the state, and what the requests keep of the group table. -/

namespace Sys2Proof.Machine

/-! ## The MST and CONFIGURE -/

/-- `t` is `s` after work that no group, piece, cycle state, input or time depends on: a report taken, a record gone stale, or an item
changed. -/
structure Apart (s t : State) : Prop where
  eq : t = { s with
    config := t.config, act := t.act, gru := t.gru, mku := t.mku, mst := t.mst, fsv := t.fsv, ports := t.ports, notices := t.notices
    adu := { s.adu with rateLevel := t.adu.rateLevel } }

theorem Downstream.apart {s t : State} (h : Downstream s t) : Apart s t := ⟨by rw [h.eq]⟩

theorem LineWork.apart {s t : State} (h : LineWork s t) : Apart s t := h.downstream.apart

namespace Apart

theorem refl (s : State) : Apart s s := (Downstream.refl s).apart

theorem trans {s t u : State} (h : Apart s t) (k : Apart t u) : Apart s u := ⟨by rw [k.eq, h.eq]⟩

theorem foldl {α : Type} {f : State → α → State} (h : ∀ t a, Apart t (f t a)) (l : List α) (s : State) :
    Apart s (l.foldl f s) := foldl_along refl trans h l s

theorem groupsKept {s t : State} (h : Apart s t) : GroupsKept s t := .of_groups (congrArg State.groups h.eq :)

theorem modMeas (s : State) (m : MeasIx) (f : MeasRecord → MeasRecord) : Apart s (s.modMeas m f) := ⟨rfl⟩

theorem modLine (s : State) (p : LineIx) (f : Line → Line) : Apart s (s.modLine p f) := ⟨rfl⟩

theorem modMku (s : State) (f : Muck → Muck) : Apart s (s.modMku f) := ⟨rfl⟩

theorem takeReport (s : State) (m : MeasIx) (reported : Nat) : Apart s (s.takeReport m reported) := by
  unfold State.takeReport
  dsimp only
  refine trans ?_ (Downstream.passValue _ _ _).apart
  split <;> exact ⟨rfl⟩

theorem invalidateCounter (s : State) (m : MeasIx) : Apart s (s.invalidateCounter m) := by
  unfold State.invalidateCounter
  split_ifs
  · exact refl s
  · exact modLine s _ _
  · exact modMku s _

theorem judgeDegraded (s : State) (m : MeasIx) : Apart s (s.judgeDegraded m) := modMeas s m _

theorem enterStale (s : State) (m : MeasIx) : Apart s (s.enterStale m) :=
  ite_along ((modMeas s m _).trans ((judgeDegraded _ m).trans (invalidateCounter _ m))) (refl s)

theorem changePolicy (s : State) (m : MeasIx) : Apart s (s.changePolicy m) := by
  unfold State.changePolicy
  dsimp only
  split
  · exact ite_along ((judgeDegraded s m).trans (modLine _ _ _)) (judgeDegraded s m)
  · exact judgeDegraded s m

theorem onChange (s : State) (old : ConfigSet) (i : Item) {f : State → State} (h : ∀ t, Apart t (f t)) :
    Apart s (s.onChange old i f) := ite_along (refl s) (h s)

theorem reviseReported (s : State) (key : FaultKey) : Apart s (s.reviseReported key) := by
  unfold State.reviseReported
  dsimp only
  split
  · exact ite_along ((FaultWork.raiseUnder s key _).downstream.trans ((Downstream.modFsv _ _).trans
      (FaultWork.announce _ _).downstream)).apart (refl s)
  · exact refl s

theorem respond (s : State) (old : ConfigSet) (pairs : List (Payload × Payload)) : Apart s (s.respond old pairs) := by
  have hcoefficients : Apart s (s.onCoefficients pairs) := ite_along ⟨rfl⟩ (refl s)
  unfold State.respond
  refine trans ?_ (foldl (fun t c => onChange t old _ fun u => foldl reviseReported _ u) _ _)
  refine trans ?_ (foldl (fun t m => onChange t old _ fun u => ite_along (enterStale u m) (refl u)) _ _)
  refine trans ?_ (onChange _ old .muckLag fun t => modMku t _)
  refine trans ?_ (onChange _ old .carOverfill fun t => (Downstream.judgePermit t).apart)
  refine trans ?_ (onChange _ old .carReserve fun t => (Downstream.testCarDue t).apart)
  refine trans ?_ (onChange _ old .stallTime fun t => ⟨rfl⟩)
  refine trans ?_ (onChange _ old .primeVolume fun t => (LineWork.foldl LineWork.testPrimed _ t).apart)
  refine trans ?_ (onChange _ old .deficitHigh fun t => (LineWork.judgeGrout t).apart)
  refine trans ?_ (onChange _ old .deficitLow fun t => (LineWork.judgeGrout t).apart)
  refine trans ?_ (onChange _ old .flowSpan fun t => (LineWork.foldl LineWork.judgeSetpoint _ t).apart)
  refine trans ?_ (onChange _ old .rounding fun t => ((Downstream.judgeDeficits t).trans (Downstream.takeDeficits _)).apart)
  exact hcoefficients.trans (foldl (fun t m => onChange t old _ fun u => changePolicy u m) _ _)

theorem requestConfigure (s : State) (pairs : List (Payload × Payload)) : Apart s (s.requestConfigure pairs).1 := by
  have hset : Apart s { s with config := resultingSet s.config pairs } := ⟨rfl⟩
  unfold State.requestConfigure
  split
  · exact refl s
  · exact hset.trans (respond _ _ _)

end Apart

/-! ## The requests and the other commands -/

namespace GroupsKept

theorem modPort (s : State) (st : Station) (f : Port → Port) : GroupsKept s (s.modPort st f) := of_groups rfl

theorem attended (s : State) (st : Station) : GroupsKept s (s.attended st) := of_groups rfl

theorem requestMeasure (s : State) (st : Station) (pairs : List (Payload × Payload)) :
    GroupsKept s (s.requestMeasure st pairs).1 := by
  have hpairs : GroupsKept s (s.takePairs st pairs) := foldl (fun t pr => by
    split
    · exact (Apart.takeReport t _ _).groupsKept.trans (settled _)
    · exact refl t) _ s
  unfold State.requestMeasure
  split
  · exact refl s
  · exact hpairs

theorem requestLevel (s : State) (level : Nat) : GroupsKept s (s.requestLevel level).1 := by
  unfold State.requestLevel
  split <;> exact of_groups rfl

theorem releaseFirst (s : State) : GroupsKept s s.releaseFirst.1 := by
  unfold State.releaseFirst
  split <;> exact of_groups rfl

theorem requestSuspend (s : State) (index : Nat) : GroupsKept s (s.requestSuspend index).1 := by
  unfold State.requestSuspend
  split
  · exact refl s
  · split
    case h_3 => exact of_downstream ((LineWork.enterPhase s _ .out).trans (LineWork.judgeGrout _)).downstream
    all_goals exact refl s

theorem requestResume (s : State) (index : Nat) : GroupsKept s (s.requestResume index).1 := by
  unfold State.requestResume
  split
  · exact refl s
  · split
    · exact of_downstream ((Downstream.modLine s _ _).trans ((LineWork.startLine _ _).trans (LineWork.judgeGrout _)).downstream)
    · exact refl s

theorem requestTrainIn (s : State) (n capacity : Nat) : GroupsKept s (s.requestTrainIn n capacity).1 := by
  unfold State.requestTrainIn
  split
  · exact refl s
  · exact of_downstream ((Downstream.modMku s _).trans ((Downstream.testCarDue _).trans (Downstream.judgePermit _)))

theorem requestCarShift (s : State) : GroupsKept s s.requestCarShift.1 := by
  unfold State.requestCarShift
  split
  · exact refl s
  · exact of_downstream ((Downstream.modMku s _).trans
      ((ite_along (Downstream.testCarDue _) (Downstream.setEvent _ _)).trans (Downstream.judgePermit _)))

theorem requestTrainOut (s : State) : GroupsKept s s.requestTrainOut.1 :=
  of_downstream ((Downstream.modMku s _).trans (Downstream.judgePermit _))

theorem requestOverflowClear (s : State) (st : Station) (src : Nat) : GroupsKept s (s.requestOverflowClear st src).1 := by
  unfold State.requestOverflowClear
  split
  · exact refl s
  · exact of_downstream (Downstream.clearOverflow s)

theorem requestFaultClear (s : State) (st : Station) (cls src : Nat) : GroupsKept s (s.requestFaultClear st cls src).1 := by
  unfold State.requestFaultClear
  split
  · exact requestOverflowClear s st src
  · split
    · exact refl s
    · split
      · exact refl s
      · split
        · exact refl s
        · split
          · exact refl s
          · split
            · exact refl s
            · exact of_downstream (Downstream.removeEntry s _)

end GroupsKept

end Sys2Proof.Machine
end

section
/-! Every command and every ms of the timebase keeps the group table sound. -/

namespace Sys2Proof.Machine

/-! ## The SLI -/

/-- `t` is `s` but for the port contexts. -/
structure PortWork (s t : State) : Prop where
  eq : t = { s with ports := t.ports }

namespace PortWork

theorem refl (s : State) : PortWork s s := ⟨rfl⟩

theorem trans {s t u : State} (h : PortWork s t) (k : PortWork t u) : PortWork s u := ⟨by rw [k.eq, h.eq]⟩

theorem modPort (s : State) (st : Station) (f : Port → Port) : PortWork s (s.modPort st f) := ⟨rfl⟩

theorem openFrame (s : State) (st : Station) : PortWork s (s.openFrame st) := by
  unfold State.openFrame
  split
  · exact refl s
  · exact modPort s st _

theorem loadCursor (s : State) (st : Station) (view record word : Nat) : PortWork s (s.loadCursor st view record word) :=
  (modPort s st _).trans (modPort _ st _)

theorem loadView (s : State) (st : Station) (view record : Nat) : PortWork s (s.loadView st view record) := by
  unfold State.loadView
  split
  · exact loadCursor ..
  · split
    · split
      · exact refl s
      · exact loadCursor ..
    · exact refl s

theorem takeHeader (s : State) (st : Station) (h : LinkWord) : PortWork s (s.takeHeader st h) := by
  unfold State.takeHeader
  split
  · exact ite_along (refl s) (ite_along ((modPort s st _).trans (loadView ..)) (modPort s st _))
  · exact refl s

theorem wordSent (s : State) (st : Station) : PortWork s (s.wordSent st) := by
  unfold State.wordSent
  split
  · exact refl s
  · refine ite_along (modPort s st _) ?_
    split
    · exact refl s
    · exact ite_along (refl s) (modPort s st _)

theorem requestPortReset (s : State) (st : Station) : PortWork s (s.requestPortReset st).1 := modPort s st _

theorem expireSilence (s : State) (st : Station) : PortWork s (s.expireSilence st) := ite_along (modPort s st _) (refl s)

end PortWork

namespace GroupsKept

theorem of_portWork {s t : State} (h : PortWork s t) : GroupsKept s t := of_groups (congrArg State.groups h.eq :)

theorem failFrame (s : State) (st : Station) (code : Nat) (r : Reply) (counter : ErrorCounter) (valid : Bool) :
    GroupsKept s (s.failFrame st code r counter valid) :=
  (modPort s st _).trans (trans (ite_along (modPort _ st _) (refl _)) ((modPort _ st _).trans (settled _)))

theorem request {s : State} {st : Station} {code : Nat} {owner : State → State × Reply}
    (h : ∀ u, GroupsKept u (owner u).1) : GroupsKept s (s.request st code owner) :=
  (attended s st).trans ((settled _).trans ((h _).trans ((modPort _ st _).trans (settled _))))

/-- A stroke that a data word carries is within a stroke's range (I.5). -/
theorem strokesOf_le (values : List Payload) (g : GroupIx) : strokesOf values g ≤ 32767 :=
  Nat.le_of_lt_succ (values.getD g.val 0).isLt

theorem ownerOf (st : Station) (code : Nat) (data : List Payload) (s : State) : GroupsKept s (ownerOf st code data s).1 := by
  unfold Machine.ownerOf
  split
  · exact (Apart.requestConfigure s _).groupsKept
  · exact requestReference s _ (strokesOf_le data)
  · exact requestStart s
  · exact requestStop s
  · exact requestLevel s _
  · exact requestRing s _ _
  · exact releaseFirst s
  · exact requestClaim s _
  · exact requestWithdraw s _
  · exact requestPlaced s _
  · exact requestSuspend s _
  · exact requestResume s _
  · exact requestTrainIn s _ _
  · exact requestCarShift s
  · exact requestTrainOut s
  · exact requestMeasure s st _
  · exact requestFaultClear s st _ _
  · exact of_portWork (PortWork.requestPortReset s st)

theorem closeFrame (s : State) (st : Station) (data : List LinkWord) (extraBits : Nat) :
    GroupsKept s (s.closeFrame st data extraBits) := by
  unfold State.closeFrame
  split
  · exact refl s
  · unfold State.finishFrame
    split
    · exact failFrame ..
    · exact (attended s st).trans (settled _)
    · exact request fun u => ownerOf st _ _ u

/-! ## The commands -/

theorem assertStop (s : State) : GroupsKept s s.assertStop := by
  have hstop : GroupsKept s { s with estop := true } := of_groups rfl
  have hsuspend (t : State) : GroupsKept t t.suspendTimers := modRecord t _
  exact hstop.trans ((of_downstream ((LineWork.idleLines _).downstream.trans (Downstream.judgePermit _))).trans
    ((stopDwells _).trans ((hsuspend _).trans ((dropCycle _).trans
      (of_downstream ((Downstream.judgeGrout _).trans (Downstream.judgeRate _)))))))

theorem releaseStop (s : State) : GroupsKept s s.releaseStop := by
  have hrelease : GroupsKept s { s with estop := false } := of_groups rfl
  exact hrelease.trans ((restartDwells _).trans ((resumeTimers _).trans ((of_downstream
    ((LineWork.startIdleLines _).downstream.trans ((Downstream.judgeGrout _).trans
      ((Downstream.judgePermit _).trans (Downstream.judgeRate _))))).trans (examineHead _))))

theorem run {s t : State} {f : State → State} (h : s.run f = .next t) (hf : GroupsKept s (f s)) : GroupsKept s t := by
  cases h
  exact ite_along (refl s) hf

theorem deviceReset (s : State) : GroupsKept s s.deviceReset where
  sound g _ := by
    have hreset : s.deviceReset.group g = Group.reset := by simp [State.group, State.deviceReset, State.reset]
    rw [hreset]
    exact Group.sound_reset

/-- Every command keeps the groups sound. -/
theorem exec {i : Instr} {s t : State} (h : exec i s = .next t) : GroupsKept s t := by
  cases i with dsimp only [Machine.exec] at h
  | deviceReset => cases h; exact deviceReset s
  | resetRelease => cases h; exact of_groups rfl
  | secondsTick => exact run h (of_groups rfl)
  | strokePulse g e => exact run h ((pulse s g e).trans (settled _))
  | dwellTimeExpiry g => exact run h ((expireDwell s g).trans (settled _))
  | revolutionPulse => exact run h ((takeRevolution s).trans (settled _))
  | stopTimerExpiry => exact run h ((expireStopTimer s).trans (settled _))
  | spinupTimeExpiry => exact run h ((expireSpinup s).trans (settled _))
  | estopAssert => cases h; exact ite_along (of_groups rfl) (ite_along (refl s) ((assertStop s).trans (settled _)))
  | estopRelease => cases h; exact ite_along (of_groups rfl) (ite_along ((releaseStop s).trans (settled _)) (refl s))
  | selectActive st => exact run h (of_portWork (.openFrame s st))
  | headerCheck st w => exact run h (of_portWork (.takeHeader s st w))
  | linkWordSent st => exact run h (of_portWork (.wordSent s st))
  | frameEnd st data extra => exact run h (closeFrame s st data extra)
  | configure pairs => exact run h (request fun u => (Apart.requestConfigure u pairs).groupsKept)
  | referenceStrokes values =>
    exact run h (ite_along (request fun u => requestReference u _ (strokesOf_le values)) (failFrame ..))
  | advanceStart => exact run h (request requestStart)
  | advanceStop => exact run h (request requestStop)
  | setLevel v => exact run h (request fun u => requestLevel u _)
  | ringBegin n k => exact run h (request fun u => requestRing u _ _)
  | firstFaultRelease => exact run h (request releaseFirst)
  | claimPiece c => exact run h (request fun u => requestClaim u _)
  | withdrawPiece c => exact run h (request fun u => requestWithdraw u _)
  | piecePlaced c => exact run h (request fun u => requestPlaced u _)
  | lineSuspend l => exact run h (request fun u => requestSuspend u _)
  | lineResume l => exact run h (request fun u => requestResume u _)
  | trainIn n c => exact run h (request fun u => requestTrainIn u _ _)
  | carShift => exact run h (request requestCarShift)
  | trainOut => exact run h (request requestTrainOut)
  | measure st pairs => exact run h (request fun u => requestMeasure u st pairs)
  | faultClear st c n => exact run h (request fun u => requestFaultClear u st _ _)
  | overflowClear st n => exact run h (request fun u => requestOverflowClear u st _)
  | portReset st => exact run h (request fun u => of_portWork (.requestPortReset u st))
  | silenceTimeExpiry st => exact run h ((of_portWork (.expireSilence s st)).trans (settled _))
  | freshLimitPassed m => exact run h ((Apart.enterStale s m).groupsKept.trans (settled _))
  | groutSecondTick => exact run h ((of_downstream (LineWork.groutTick s).downstream).trans (settled _))
  | muckSecondTick => exact run h ((of_downstream (Downstream.muckTick s)).trans (settled _))
  | retryTimeExpiry key => exact run h ((of_downstream (Downstream.expireRetry s key)).trans (settled _))
  | pieceTimerExpiry pc => exact run h ((expirePieceTimer s pc).trans (settled _))
  | queueWaitExpiry pc => exact run h ((expireWait s pc).trans (settled _))

/-! ## The passing of time -/

theorem passMs (s : State) : GroupsKept s s.passMs :=
  (mapGroups s (fun _ r => { r with dwell := countDown r.dwell }) fun _ r hr => by
    refine ⟨hr.1, hr.2.1, fun hd => hr.2.2 ?_⟩
    simpa [countDown] using hd).trans (of_groups rfl)

/-- What falls due in one ms is run as commands are, so it keeps the groups sound as they do. -/
theorem runIfDue (s : State) (i : Instr) : GroupsKept s (s.runIfDue i) := by
  unfold State.runIfDue
  refine ite_along ?_ (refl s)
  split
  · next h => exact exec h
  · exact refl s

theorem tick (s : State) : GroupsKept s s.tick := by
  cases hr : s.resetActive with
  | true => rw [tick_held hr]; exact refl s
  | false =>
    rw [tick_awake hr, runDue_eq (s := s.passMs) hr]
    exact (passMs s).trans ((foldl runIfDue _ _).trans (foldl runIfDue _ _))

theorem step {s t : State} (h : step s = .next t) : GroupsKept s t := by
  cases hp : s.pending with
  | nil => rw [step_of_empty hp] at h; cases h; exact tick s
  | cons i rest =>
    rw [step_of_cons hp] at h
    have hrest : GroupsKept s { s with pending := rest } := of_groups rfl
    exact hrest.trans (exec h)

end GroupsKept

/-- Settles O53: each block's operations keep every group sound, so every command and every ms of the timebase does. -/
theorem groupsStaySound : Obligations.GroupsStaySound := fun s t hs h =>
  (groupsSound_iff t).mpr fun g => (GroupsKept.step h).sound g ((groupsSound_iff s).mp hs g)

end Sys2Proof.Machine
end

section
/-! The state after reset meets the invariants. -/

namespace Sys2Proof.Machine

theorem reset_group (g : GroupIx) : State.reset.group g = Group.reset := by simp [State.group, State.reset]

theorem reset_line (p : LineIx) : State.reset.line p = State.reset.line 0 := by simp [State.line, State.reset, Grout.reset]

theorem reset_account (p : LineIx) : State.reset.account p = State.reset.account 0 := by
  simp [State.account, State.reset, Accounts.reset]

theorem reset_meas (m : MeasIx) : State.reset.meas m = State.reset.meas 0 := by
  simp [State.meas, State.reset, Measurements.reset]

theorem reset_piece (pc : Piece) : (State.reset.piece pc).state = .pending := by cases pc <;> rfl

theorem reset_item (i : Item) : State.reset.item i = i.dflt := by
  unfold State.item itemValue
  cases i with
  | weight p | windowOpen p | windowClose p => fin_cases p <;> rfl
  | faultMode c => fin_cases c <;> rfl
  | freshLimit m | novalPolicy m => fin_cases m <;> rfl
  | _ => rfl

theorem dflt_admitted (i : Item) : i.admits i.dflt = true := by
  cases i with
  | faultMode c => fin_cases c <;> rfl
  | _ => rfl

theorem reset_groupsSound : State.reset.groupsSound := fun g => by
  show (State.reset.group g).sound
  rw [reset_group]
  exact Group.sound_reset

theorem reset_configSound : State.reset.configSound := by
  refine ⟨fun i => ?_, ?_, fun p => ?_, ?_, ?_, fun c hc => ?_⟩
  · rw [reset_item]; exact dflt_admitted i
  all_goals simp only [reset_item]
  case refine_6 => rcases hc with rfl | rfl <;> decide
  all_goals simp [Item.dflt]

theorem reset_linesSound : State.reset.linesSound := by
  refine ⟨fun p => ?_, fun h => absurd h (by decide)⟩
  rw [reset_line, reset_account]
  decide

theorem reset_deficitsSound : State.reset.deficitsSound := fun p => by
  rw [State.deficit, reset_line, reset_account]
  decide

theorem reset_queueSound : State.reset.queueSound :=
  ⟨by decide, by decide, fun pc => by rw [reset_piece]; simp [State.reset, RingBuild.reset], by decide⟩

theorem reset_recordsSound : State.reset.recordsSound := fun m => by
  rw [reset_meas]
  simp [State.meas, State.reset, Measurements.reset]

theorem reset_portsSound : State.reset.portsSound := fun st => by cases st <;> decide

/-- Settles O5: each invariant is evaluated at the one state that the reset leaves. -/
theorem resetMeetsTheInvariants : Obligations.ResetMeetsTheInvariants := by
  refine ⟨?_, ?_, reset_groupsSound, reset_configSound, ?_, ?_, reset_linesSound, reset_deficitsSound, ?_, reset_queueSound,
    reset_recordsSound, reset_portsSound⟩
  · exact ⟨by decide, by decide⟩
  · exact ⟨by decide, by decide, fun i => by simp [State.reset, Faults.reset]⟩
  · unfold State.cycleSound; decide
  · unfold State.levelsSound; decide
  · unfold State.trainSound; decide

end Sys2Proof.Machine
end

section
/-! Which commands change the strokes, the configuration set, the cars, the measurements, L_cabin, the seconds count and the level of
the emergency stop input. -/

namespace Sys2Proof.Machine

/-- What only a few commands change. -/
structure Guarded where
  groups : Vector Counted 10
  config : ConfigSet
  lCabin : Nat
  seconds : Nat
  estop : Bool
  cars : List Car
  records : Vector MeasRecord 15

def Direct.guarded (d : Direct) : Guarded :=
  { groups := d.groups, config := d.config, lCabin := d.adu.lCabin, seconds := d.seconds, estop := d.estop, cars := d.cars
    records := d.records }

def State.guarded (s : State) : Guarded := s.direct.guarded

/-- What a command may change of it: `b` in the places that the command may change, `a` in the others. FRAME_END may change what the
request of its frame may. -/
def mayChange (a b : Guarded) : Instr → Guarded
  | .deviceReset | .frameEnd _ _ _ => b
  | .strokePulse _ _ | .referenceStrokes _ => { a with groups := b.groups }
  | .configure _ => { a with config := b.config, cars := b.cars, records := b.records }
  | .setLevel _ => { a with lCabin := b.lCabin }
  | .secondsTick => { a with seconds := b.seconds }
  | .estopAssert | .estopRelease => { a with estop := b.estop }
  | .trainIn _ _ | .carShift | .trainOut => { a with cars := b.cars }
  | .measure _ _ => { a with cars := b.cars, records := b.records }
  | .freshLimitPassed _ => { a with records := b.records }
  | _ => a

/-! ## What the blocks' operations change of it -/

theorem guarded_of_direct {s t : State} (h : t.direct = s.direct) : t.guarded = s.guarded := congrArg Direct.guarded h

@[simp] theorem guarded_settled (s : State) : s.settled.guarded = s.guarded := guarded_of_direct (direct_settled s)

theorem Downstream.guarded {s t : State} (h : Downstream s t) : t.guarded = { s.guarded with cars := t.guarded.cars } := by
  rw [h.eq]; rfl

theorem Apart.guarded {s t : State} (h : Apart s t) :
    t.guarded = { s.guarded with config := t.guarded.config, cars := t.guarded.cars, records := t.guarded.records } := by
  rw [h.eq]; rfl

theorem PortWork.guarded {s t : State} (h : PortWork s t) : t.guarded = s.guarded := by rw [h.eq]; rfl

theorem guarded_enterStale (s : State) (m : MeasIx) :
    (s.enterStale m).guarded = { s.guarded with records := (s.enterStale m).guarded.records } := by
  have hinvalid (t : State) : (t.invalidateCounter m).guarded = t.guarded := by
    unfold State.invalidateCounter
    split_ifs <;> rfl
  unfold State.enterStale
  split
  · rw [hinvalid]; rfl
  · rfl

theorem guarded_takeReport (s : State) (m : MeasIx) (v : Nat) :
    (s.takeReport m v).guarded =
      { s.guarded with cars := (s.takeReport m v).guarded.cars, records := (s.takeReport m v).guarded.records } := by
  unfold State.takeReport
  dsimp only
  rw [(Downstream.passValue _ _ _).guarded]
  split <;> rfl

theorem guarded_takePairs (st : Station) (pairs : List (Payload × Payload)) (s : State) :
    (s.takePairs st pairs).guarded =
      { s.guarded with cars := (s.takePairs st pairs).guarded.cars, records := (s.takePairs st pairs).guarded.records } := by
  unfold State.takePairs
  induction pairs generalizing s with
  | nil => rfl
  | cons pr pairs ih =>
    rw [List.foldl_cons, ih]
    split
    · rw [guarded_settled, guarded_takeReport]
    · rfl

theorem direct_comparePulse (s : State) (g : GroupIx) : (s.comparePulse g).direct = s.direct := by
  unfold State.comparePulse
  dsimp only
  split
  · split
    · exact direct_changeGroups _ _ fun _ _ => by split <;> rfl
    · rfl
  · split
    · exact direct_modGroup _ _ _ fun _ => rfl
    · rfl
  · split
    · exact (direct_raise _ _).trans (direct_modGroup _ _ _ fun _ => rfl)
    · rfl
  · split
    · exact (direct_send _ _).trans (direct_modGroup _ _ _ fun _ => rfl)
    · rfl
  all_goals rfl

/-- Of what only commands change, a pulse changes its group's stroke, or where it is clamped the saturated flag (R5, R6). -/
theorem direct_pulse (s : State) (g : GroupIx) (extending : Bool) :
    (s.pulse g extending).direct = (s.modGroup g fun r =>
      if (extending && decide (strokeTop ≤ r.stroke)) || (!extending && r.stroke == 0) then { r with saturated := true }
      else { r with stroke := if extending then r.stroke + 1 else r.stroke - 1 }).direct := by
  unfold State.pulse
  dsimp only
  split
  · next hc => exact congrArg State.direct (modGroup_congr (if_pos hc).symm)
  · next hc =>
    rw [direct_send, direct_comparePulse]
    exact congrArg State.direct (modGroup_congr (if_neg hc).symm)

theorem guarded_pulse (s : State) (g : GroupIx) (extending : Bool) :
    (s.pulse g extending).guarded = { s.guarded with groups := (s.pulse g extending).guarded.groups } := by
  rw [State.guarded, direct_pulse]
  rfl

theorem guarded_expireStopTimer (s : State) : s.expireStopTimer.guarded = s.guarded := by
  unfold State.expireStopTimer
  split
  · dsimp only
    split
    · exact (guarded_of_direct (by simp)).trans (rfl : (s.modAdu fun a => { a with stopTimer := none, cutter := .stopped }).guarded = _)
    · rfl
  · rfl

theorem guarded_takeRevolution (s : State) : s.takeRevolution.guarded = s.guarded :=
  (guarded_of_direct (by simp [State.takeRevolution]) : s.takeRevolution.guarded = s.measurePulse.guarded).trans rfl

theorem guarded_expireWait (s : State) (pc : Piece) : (s.expireWait pc).guarded = s.guarded := by
  unfold State.expireWait
  split
  · have hgone : (((s.dequeue pc).setEvent .claimExpired).modRecord fun r =>
        { r with claimsExpired := addUpTo 32767 r.claimsExpired 1 }).guarded = s.guarded :=
      (rfl : _ = (s.dequeue pc).guarded).trans (guarded_of_direct (direct_dequeue s pc))
    dsimp only
    split
    · exact (guarded_of_direct (direct_examineHead _)).trans hgone
    · exact hgone
  · rfl

/-! ## What the requests change of it -/

theorem guarded_requestReference (s : State) (v : GroupIx → Nat) :
    (s.requestReference v).1.guarded = { s.guarded with groups := (s.requestReference v).1.guarded.groups } := by
  unfold State.requestReference
  split
  · rfl
  · dsimp only
    rw [changeGroups_eq]
    rfl

theorem guarded_requestStart (s : State) : s.requestStart.1.guarded = s.guarded := by
  unfold State.requestStart
  split
  · rfl
  · exact guarded_of_direct (direct_enterSpinup s)

theorem guarded_requestStop (s : State) : s.requestStop.1.guarded = s.guarded := by
  have hstop : (s.setCause .stopRequest).enterRundown.guarded = s.guarded := guarded_of_direct (by simp)
  unfold State.requestStop
  split
  case h_4 | h_5 | h_6 => rfl
  all_goals dsimp only; exact hstop

theorem guarded_requestLevel (s : State) (v : Nat) :
    (s.requestLevel v).1.guarded = { s.guarded with lCabin := (s.requestLevel v).1.guarded.lCabin } := by
  unfold State.requestLevel
  split <;> rfl

theorem guarded_requestRing (s : State) (number key : Nat) : (s.requestRing number key).1.guarded = s.guarded := by
  have hopen (t : State) (k : GroupIx) : (t.openRecord number k).guarded = t.guarded := by
    unfold State.openRecord
    rw [guarded_of_direct (direct_setEvent _ _), guarded_of_direct (direct_judgeKeys _ _)]
    rfl
  have hfreeze (t : State) : t.freezeAccounts.guarded = t.guarded := rfl
  unfold State.requestRing
  split
  · rfl
  · dsimp only
    rw [hfreeze, guarded_of_direct (direct_judgeGrout _), guarded_of_direct (direct_idleLines _),
      guarded_of_direct (direct_shutWindows _), hopen, guarded_of_direct (direct_enterCycle _ _)]

theorem guarded_releaseFirst (s : State) : s.releaseFirst.1.guarded = s.guarded := by
  unfold State.releaseFirst
  split <;> rfl

theorem guarded_withPiece (s : State) (code : Nat) (f : Piece → State × Reply) (h : ∀ pc, (f pc).1.guarded = s.guarded) :
    (s.withPiece code f).1.guarded = s.guarded := by
  unfold State.withPiece
  split
  · rfl
  · split
    · rfl
    · exact h _

theorem guarded_requestClaim (s : State) (code : Nat) : (s.requestClaim code).1.guarded = s.guarded := by
  refine guarded_withPiece s code _ fun pc => ?_
  split
  · rfl
  · unfold State.takeClaim
    split
    · exact guarded_of_direct (direct_grant s pc)
    · split <;> rfl

theorem guarded_sendBack (s : State) (pc : Piece) (st : PieceState) : (s.sendBack pc st).guarded = s.guarded :=
  guarded_of_direct (by simp [State.sendBack])

theorem guarded_requestPlaced (s : State) (code : Nat) : (s.requestPlaced code).1.guarded = s.guarded := by
  refine guarded_withPiece s code _ fun pc => ?_
  split
  · exact guarded_sendBack s pc _
  · rfl

theorem guarded_requestWithdraw (s : State) (code : Nat) : (s.requestWithdraw code).1.guarded = s.guarded := by
  refine guarded_withPiece s code _ fun pc => ?_
  split
  case h_2 =>
    dsimp only
    split
    · exact guarded_of_direct (by simp)
    · exact guarded_of_direct (by simp)
  case h_3 => exact guarded_sendBack s pc _
  case h_4 => exact guarded_sendBack s pc _
  all_goals rfl

theorem guarded_requestSuspend (s : State) (index : Nat) : (s.requestSuspend index).1.guarded = s.guarded := by
  unfold State.requestSuspend
  split
  · rfl
  · split
    case h_3 => exact guarded_of_direct ((direct_judgeGrout _).trans (direct_enterPhase s _ .out))
    all_goals rfl

theorem guarded_requestResume (s : State) (index : Nat) : (s.requestResume index).1.guarded = s.guarded := by
  unfold State.requestResume
  split
  · rfl
  · split
    · exact guarded_of_direct ((direct_judgeGrout _).trans ((direct_startLine _ _).trans (direct_modLine s _ _ fun _ => rfl)))
    · rfl

theorem guarded_requestTrainIn (s : State) (n capacity : Nat) :
    (s.requestTrainIn n capacity).1.guarded = { s.guarded with cars := (s.requestTrainIn n capacity).1.guarded.cars } := by
  unfold State.requestTrainIn
  split
  · rfl
  · exact ((Downstream.modMku s _).trans ((Downstream.testCarDue _).trans (Downstream.judgePermit _))).guarded

theorem guarded_requestCarShift (s : State) :
    s.requestCarShift.1.guarded = { s.guarded with cars := s.requestCarShift.1.guarded.cars } := by
  unfold State.requestCarShift
  split
  · rfl
  · exact ((Downstream.modMku s _).trans
      ((ite_along (Downstream.testCarDue _) (Downstream.setEvent _ _)).trans (Downstream.judgePermit _))).guarded

theorem guarded_requestTrainOut (s : State) :
    s.requestTrainOut.1.guarded = { s.guarded with cars := s.requestTrainOut.1.guarded.cars } :=
  ((Downstream.modMku s _).trans (Downstream.judgePermit _)).guarded

theorem guarded_requestMeasure (s : State) (st : Station) (pairs : List (Payload × Payload)) :
    (s.requestMeasure st pairs).1.guarded =
      { s.guarded with
        cars := (s.requestMeasure st pairs).1.guarded.cars, records := (s.requestMeasure st pairs).1.guarded.records } := by
  unfold State.requestMeasure
  split
  · rfl
  · exact guarded_takePairs st pairs s

theorem guarded_requestOverflowClear (s : State) (st : Station) (src : Nat) :
    (s.requestOverflowClear st src).1.guarded = s.guarded := by
  unfold State.requestOverflowClear
  split
  · rfl
  · exact guarded_of_direct (direct_clearOverflow s)

theorem guarded_requestFaultClear (s : State) (st : Station) (cls src : Nat) :
    (s.requestFaultClear st cls src).1.guarded = s.guarded := by
  unfold State.requestFaultClear
  split
  · exact guarded_requestOverflowClear s st src
  · split
    · rfl
    · split
      · rfl
      · split
        · rfl
        · split
          · rfl
          · split
            · rfl
            · exact guarded_of_direct (direct_removeEntry s _)

/-! ## The commands -/

theorem direct_assertStop (s : State) : s.assertStop.direct = { s.direct with estop := true } := by
  unfold State.assertStop
  rw [direct_judgeRate, direct_judgeGrout, direct_dropCycle, direct_suspendTimers, direct_stopDwells, direct_judgePermit,
    direct_idleLines]
  rfl

theorem direct_releaseStop (s : State) : s.releaseStop.direct = { s.direct with estop := false } := by
  unfold State.releaseStop
  rw [direct_examineHead, direct_judgeRate, direct_judgePermit, direct_judgeGrout, direct_startIdleLines, direct_resumeTimers,
    direct_restartDwells]
  rfl

theorem mayChange_self (a : Guarded) (i : Instr) : mayChange a a i = a := by
  cases i <;> rfl

/-- A request changes what its owner changes. -/
theorem guarded_request {s : State} {st : Station} {code : Nat} {owner : State → State × Reply} {i : Instr}
    (h : ∀ u, (owner u).1.guarded = mayChange u.guarded (owner u).1.guarded i) :
    (s.request st code owner).guarded = mayChange s.guarded (s.request st code owner).guarded i := by
  have hfound : (s.attended st).settled.guarded = s.guarded := guarded_settled _
  have hanswer : (s.request st code owner).guarded = (owner (s.attended st).settled).1.guarded := guarded_settled _
  rw [hanswer, ← hfound]
  exact h _

theorem guarded_failFrame (s : State) (st : Station) (code : Nat) (r : Reply) (counter : ErrorCounter) (valid : Bool) :
    (s.failFrame st code r counter valid).guarded = s.guarded := by
  unfold State.failFrame
  rw [guarded_settled]
  cases valid <;> rfl

/-- Run with RESET held or released, a command changes what its effect changes. -/
theorem guarded_run {s t : State} {f : State → State} {i : Instr} (h : s.run f = .next t)
    (hf : (f s).guarded = mayChange s.guarded (f s).guarded i) : t.guarded = mayChange s.guarded t.guarded i := by
  cases hr : s.resetActive with
  | true => rw [run_held hr] at h; cases h; exact (mayChange_self _ i).symm
  | false => rw [run_awake hr] at h; cases h; exact hf

/-- A command changes what it may change and nothing else (`mayChange`). -/
theorem exec_guarded {i : Instr} {s t : State} (h : exec i s = .next t) : t.guarded = mayChange s.guarded t.guarded i := by
  cases i with dsimp only [exec] at h
  | deviceReset => rfl
  | frameEnd st data extra => rfl
  | resetRelease => cases h; rfl
  | estopAssert =>
    have hstop : s.assertStop.settled.guarded = { s.guarded with estop := true } := by
      rw [guarded_settled, State.guarded, direct_assertStop]
      rfl
    cases h
    split
    · rfl
    · split
      · rfl
      · rw [hstop]; rfl
  | estopRelease =>
    have hstop : s.releaseStop.settled.guarded = { s.guarded with estop := false } := by
      rw [guarded_settled, State.guarded, direct_releaseStop]
      rfl
    cases h
    split
    · rfl
    · split
      · rw [hstop]; rfl
      · rfl
  | secondsTick => exact guarded_run h rfl
  | strokePulse g e =>
    refine guarded_run h ?_
    rw [guarded_settled]
    exact guarded_pulse s g e
  | referenceStrokes values =>
    refine guarded_run h ?_
    split
    · exact guarded_request fun u => guarded_requestReference u _
    · rw [guarded_failFrame]; rfl
  | setLevel v =>
    exact guarded_run h (guarded_request fun u => guarded_requestLevel u _)
  | configure pairs =>
    exact guarded_run h
      (guarded_request fun u => (Apart.requestConfigure u pairs).guarded)
  | trainIn n c =>
    exact guarded_run h (guarded_request fun u => guarded_requestTrainIn u _ _)
  | carShift => exact guarded_run h (guarded_request guarded_requestCarShift)
  | trainOut => exact guarded_run h (guarded_request guarded_requestTrainOut)
  | measure st pairs =>
    exact guarded_run h
      (guarded_request fun u => guarded_requestMeasure u st pairs)
  | freshLimitPassed m =>
    refine guarded_run h ?_
    rw [guarded_settled]
    exact guarded_enterStale s m
  | advanceStart => exact guarded_run h (guarded_request guarded_requestStart)
  | advanceStop => exact guarded_run h (guarded_request guarded_requestStop)
  | ringBegin n k => exact guarded_run h (guarded_request fun u => guarded_requestRing u _ _)
  | firstFaultRelease => exact guarded_run h (guarded_request guarded_releaseFirst)
  | claimPiece c => exact guarded_run h (guarded_request fun u => guarded_requestClaim u _)
  | withdrawPiece c => exact guarded_run h (guarded_request fun u => guarded_requestWithdraw u _)
  | piecePlaced c => exact guarded_run h (guarded_request fun u => guarded_requestPlaced u _)
  | lineSuspend l => exact guarded_run h (guarded_request fun u => guarded_requestSuspend u _)
  | lineResume l => exact guarded_run h (guarded_request fun u => guarded_requestResume u _)
  | faultClear st c n => exact guarded_run h (guarded_request fun u => guarded_requestFaultClear u st _ _)
  | overflowClear st n => exact guarded_run h (guarded_request fun u => guarded_requestOverflowClear u st _)
  | portReset st => exact guarded_run h (guarded_request fun u => (PortWork.requestPortReset u st).guarded)
  | selectActive st => exact guarded_run h (PortWork.openFrame s st).guarded
  | headerCheck st w => exact guarded_run h (PortWork.takeHeader s st w).guarded
  | linkWordSent st => exact guarded_run h (PortWork.wordSent s st).guarded
  | dwellTimeExpiry g => exact guarded_run h ((guarded_settled _).trans (guarded_of_direct (direct_expireDwell s g)))
  | revolutionPulse => exact guarded_run h ((guarded_settled _).trans (guarded_takeRevolution s))
  | stopTimerExpiry => exact guarded_run h ((guarded_settled _).trans (guarded_expireStopTimer s))
  | spinupTimeExpiry => exact guarded_run h ((guarded_settled _).trans (guarded_of_direct (direct_expireSpinup s)))
  | silenceTimeExpiry st => exact guarded_run h ((guarded_settled _).trans (PortWork.expireSilence s st).guarded)
  | groutSecondTick => exact guarded_run h ((guarded_settled _).trans (guarded_of_direct (direct_groutTick s)))
  | muckSecondTick => exact guarded_run h ((guarded_settled _).trans (guarded_of_direct (direct_muckTick s)))
  | retryTimeExpiry key => exact guarded_run h ((guarded_settled _).trans (guarded_of_direct (direct_expireRetry s key)))
  | pieceTimerExpiry pc => exact guarded_run h ((guarded_settled _).trans (guarded_of_direct (direct_expirePieceTimer s pc)))
  | queueWaitExpiry pc => exact guarded_run h ((guarded_settled _).trans (guarded_expireWait s pc))

/-! ## Reading what a command leaves -/

theorem guarded_group {s t : State} (h : t.guarded.groups = s.guarded.groups) (g : GroupIx) :
    (t.group g).counted = (s.group g).counted := by
  have hg : t.guarded.groups[g] = s.guarded.groups[g] := by rw [h]
  simpa [State.guarded, Direct.guarded, State.direct, State.group] using hg

theorem guarded_meas {s t : State} (h : t.guarded.records = s.guarded.records) (m : MeasIx) : t.meas m = s.meas m :=
  congrArg (fun r : Vector MeasRecord 15 => r[m]) h

/-- Only a pulse, REFERENCE STROKES, a device reset and the frame of a request change what is counted of the groups. -/
theorem mayChange_groups (a b : Guarded) {i : Instr} (hr : i ≠ .deviceReset) (hf : ∀ st data extra, i ≠ .frameEnd st data extra)
    (hp : ∀ g e, i ≠ .strokePulse g e) (hs : ∀ v, i ≠ .referenceStrokes v) : (mayChange a b i).groups = a.groups := by
  cases i with
  | deviceReset => exact absurd rfl hr
  | frameEnd st data extra => exact absurd rfl (hf st data extra)
  | strokePulse g e => exact absurd rfl (hp g e)
  | referenceStrokes v => exact absurd rfl (hs v)
  | _ => rfl

theorem mayChange_config (a b : Guarded) {i : Instr} (hr : i ≠ .deviceReset) (hf : ∀ st data extra, i ≠ .frameEnd st data extra)
    (hc : ∀ pairs, i ≠ .configure pairs) : (mayChange a b i).config = a.config := by
  cases i with
  | deviceReset => exact absurd rfl hr
  | frameEnd st data extra => exact absurd rfl (hf st data extra)
  | configure pairs => exact absurd rfl (hc pairs)
  | _ => rfl

theorem mayChange_lCabin (a b : Guarded) {i : Instr} (hr : i ≠ .deviceReset) (hf : ∀ st data extra, i ≠ .frameEnd st data extra)
    (hl : ∀ v, i ≠ .setLevel v) : (mayChange a b i).lCabin = a.lCabin := by
  cases i with
  | deviceReset => exact absurd rfl hr
  | frameEnd st data extra => exact absurd rfl (hf st data extra)
  | setLevel v => exact absurd rfl (hl v)
  | _ => rfl

theorem mayChange_seconds (a b : Guarded) {i : Instr} (hr : i ≠ .deviceReset) (hf : ∀ st data extra, i ≠ .frameEnd st data extra)
    (ht : i ≠ .secondsTick) : (mayChange a b i).seconds = a.seconds := by
  cases i with
  | deviceReset => exact absurd rfl hr
  | frameEnd st data extra => exact absurd rfl (hf st data extra)
  | secondsTick => exact absurd rfl ht
  | _ => rfl

theorem mayChange_estop (a b : Guarded) {i : Instr} (hr : i ≠ .deviceReset) (hf : ∀ st data extra, i ≠ .frameEnd st data extra)
    (ha : i ≠ .estopAssert) (he : i ≠ .estopRelease) : (mayChange a b i).estop = a.estop := by
  cases i with
  | deviceReset => exact absurd rfl hr
  | frameEnd st data extra => exact absurd rfl (hf st data extra)
  | estopAssert => exact absurd rfl ha
  | estopRelease => exact absurd rfl he
  | _ => rfl

theorem mayChange_cars (a b : Guarded) {i : Instr} (hr : i ≠ .deviceReset) (hf : ∀ st data extra, i ≠ .frameEnd st data extra)
    (hi : ∀ n c, i ≠ .trainIn n c) (hs : i ≠ .carShift) (ho : i ≠ .trainOut) (hm : ∀ st pairs, i ≠ .measure st pairs)
    (hc : ∀ pairs, i ≠ .configure pairs) : (mayChange a b i).cars = a.cars := by
  cases i with
  | deviceReset => exact absurd rfl hr
  | frameEnd st data extra => exact absurd rfl (hf st data extra)
  | trainIn n c => exact absurd rfl (hi n c)
  | carShift => exact absurd rfl hs
  | trainOut => exact absurd rfl ho
  | measure st pairs => exact absurd rfl (hm st pairs)
  | configure pairs => exact absurd rfl (hc pairs)
  | _ => rfl

theorem mayChange_records (a b : Guarded) {i : Instr} (hr : i ≠ .deviceReset) (hf : ∀ st data extra, i ≠ .frameEnd st data extra)
    (hm : ∀ st pairs, i ≠ .measure st pairs) (hl : ∀ m, i ≠ .freshLimitPassed m) (hc : ∀ pairs, i ≠ .configure pairs) :
    (mayChange a b i).records = a.records := by
  cases i with
  | deviceReset => exact absurd rfl hr
  | frameEnd st data extra => exact absurd rfl (hf st data extra)
  | measure st pairs => exact absurd rfl (hm st pairs)
  | freshLimitPassed m => exact absurd rfl (hl m)
  | configure pairs => exact absurd rfl (hc pairs)
  | _ => rfl

/-- Settles O60: each clause reads one place of `mayChange`. -/
theorem onlyTheirCommandsChangeThem : Obligations.OnlyTheirCommandsChangeThem := by
  intro i s t h hr hf
  have hg := exec_guarded h
  refine ⟨fun hp hs g => ?_, fun hc => ?_, fun hl => ?_, fun ht => ?_, fun ha he => ?_, fun hi hs ho hm hc => ?_,
    fun hm hl hc m => ?_⟩
  · exact congrArg Counted.stroke (guarded_group ((congrArg Guarded.groups hg).trans (mayChange_groups _ _ hr hf hp hs)) g)
  · exact (congrArg Guarded.config hg).trans (mayChange_config _ _ hr hf hc)
  · exact (congrArg Guarded.lCabin hg).trans (mayChange_lCabin _ _ hr hf hl)
  · exact (congrArg Guarded.seconds hg).trans (mayChange_seconds _ _ hr hf ht)
  · exact (congrArg Guarded.estop hg).trans (mayChange_estop _ _ hr hf ha he)
  · exact (congrArg Guarded.cars hg).trans (mayChange_cars _ _ hr hf hi hs ho hm hc)
  · exact guarded_meas ((congrArg Guarded.records hg).trans (mayChange_records _ _ hr hf hm hl hc)) m

end Sys2Proof.Machine
end

section
/-! Step pulses: what every one of them counts, what a clamped one does, and how long the saturated flag stays. -/

namespace Sys2Proof.Machine

/-! ## Counting -/

/-- What R5 and R6 give of what is counted. -/
def Counted.pulsed (extending : Bool) (c : Counted) : Counted :=
  if extending then if c.stroke < 32767 then { c with stroke := c.stroke + 1 } else { c with saturated := true }
  else if 0 < c.stroke then { c with stroke := c.stroke - 1 } else { c with saturated := true }

theorem counted_pulsed (extending : Bool) (r : Group) :
    (if (extending && decide (strokeTop ≤ r.stroke)) || (!extending && r.stroke == 0) then { r with saturated := true }
      else { r with stroke := if extending then r.stroke + 1 else r.stroke - 1 } : Group).counted =
        r.counted.pulsed extending := by
  cases extending with
  | true =>
    by_cases h : r.stroke < 32767
    · have : ¬32767 ≤ r.stroke := by omega
      simp [Counted.pulsed, Group.counted, strokeTop, h, this]
    · have : 32767 ≤ r.stroke := by omega
      simp [Counted.pulsed, Group.counted, strokeTop, h, this]
  | false =>
    by_cases h : r.stroke = 0
    · simp [Counted.pulsed, Group.counted, h]
    · have : 0 < r.stroke := by omega
      simp [Counted.pulsed, Group.counted, h, this]

theorem map_counted_modAt (t : Vector Group 10) (g : GroupIx) (f : Group → Group) (f' : Counted → Counted)
    (h : ∀ r, (f r).counted = f' r.counted) : (modAt t g f).map Group.counted = modAt (t.map Group.counted) g f' := by
  ext j hj : 1
  have hl := modAt_getElem t g ⟨j, hj⟩ f
  have hr := modAt_getElem (t.map Group.counted) g ⟨j, hj⟩ f'
  simp only [Fin.getElem_fin, Vector.getElem_map] at hl hr
  rw [Vector.getElem_map, hl, hr, ← h]
  split <;> rfl

theorem direct_pulse_counted (s : State) (g : GroupIx) (extending : Bool) :
    (s.pulse g extending).direct = { s.direct with groups := modAt s.direct.groups g (Counted.pulsed extending) } := by
  rw [direct_pulse, State.direct, State.direct, modGroup_groups, map_counted_modAt _ _ _ _ (counted_pulsed extending)]
  rfl

/-- Settles O9: what a pulse sets going leaves what is counted as the pulse itself made it. -/
theorem strokePulsesAreCounted : Obligations.StrokePulsesAreCounted := by
  intro s g extending hr
  refine ⟨_, (exec_strokePulse g extending s).trans (run_awake hr _), ?_⟩
  rw [direct_settled, direct_pulse_counted]
  rfl

theorem group_counted (s : State) (g : GroupIx) : (s.group g).counted = s.direct.groups[g] := by
  simp [State.direct, State.group]

/-! ## Device reset -/

theorem exec_deviceReset (s : State) : exec .deviceReset s = .next s.deviceReset := rfl

theorem exec_resetRelease (s : State) : exec .resetRelease s = .next { s with resetActive := false } := rfl

theorem deviceReset_group (s : State) (g : GroupIx) : s.deviceReset.group g = Group.reset := by
  simp [State.group, State.deviceReset, State.reset]

theorem deviceReset_valveMode (s : State) (g : GroupIx) : s.deviceReset.valveMode g = .block := by
  have hlocked : (s.deviceReset.group g).state = .locked := by rw [deviceReset_group]; rfl
  unfold State.valveMode
  rw [hlocked]
  split
  · rfl
  · rfl

/-- Settles O3: every record is evaluated at the reset, and the first pulse after the release is counted. -/
theorem deviceResetLocksTheGroups : Obligations.DeviceResetLocksTheGroups := by
  intro s g
  have hheld (h : GroupIx) (e : Bool) : exec (.strokePulse h e) s.deviceReset = .next s.deviceReset :=
    exec_held rfl _ (by simp) (by simp) (by simp) (by simp)
  have hawake := run_awake (s := { s.deviceReset with resetActive := false }) rfl fun t => (t.pulse g true).settled
  refine ⟨_, exec_deviceReset s, deviceReset_group s, deviceReset_valveMode s, hheld, _, _, exec_resetRelease _, hawake, ?_⟩
  have hstroke (h : GroupIx) : ((State.settled
      (({ s.deviceReset with resetActive := false } : State).pulse g true)).group h).stroke = if g = h then 1 else 0 := by
    have hreset : s.deviceReset.direct.groups[h] = Group.reset.counted := by rw [← group_counted, deviceReset_group]
    have hcounted := group_counted (({ s.deviceReset with resetActive := false } : State).pulse g true).settled h
    rw [direct_settled, direct_pulse_counted, modAt_getElem, show ({ s.deviceReset with resetActive := false } : State).direct.groups
      = s.deviceReset.direct.groups from rfl, hreset] at hcounted
    refine (congrArg Counted.stroke hcounted).trans ?_
    split <;> rfl
  exact ⟨by rw [hstroke, if_pos rfl], fun h hne => by rw [hstroke, if_neg hne.symm]⟩

/-! ## A clamped pulse -/

theorem quiet_modGroup {s : State} (h : s.quiet = true) (g : GroupIx) (f : Group → Group) : (s.modGroup g f).quiet = true :=
  (quiet_of_watched rfl rfl).trans h

theorem exec_strokePulse_clamped {s : State} {g : GroupIx} {extending : Bool} (hc : s.calm = true)
    (hs : (extending && decide (strokeTop ≤ (s.group g).stroke)) || (!extending && (s.group g).stroke == 0)) :
    exec (.strokePulse g extending) s = .next (s.modGroup g fun r => { r with saturated := true }) := by
  have hpulse : s.pulse g extending = s.modGroup g fun r => { r with saturated := true } := by
    unfold State.pulse
    exact if_pos hs
  rw [exec_strokePulse]
  exact run_calm (f := fun t => t.pulse g extending) hc hpulse (quiet_modGroup (calm_iff.mp hc).2 g _)

/-! ## How long the saturated flag stays -/

/-- CABIN's slot shows an accepted REFERENCE STROKES. -/
def State.referenceAccepted (s : State) : Prop :=
  (s.port .cabin).slot.request = 2 ∧ (s.port .cabin).slot.outcome = .accepted

theorem port_link (s : State) (st : Station) : (s.port st).link = s.direct.ports[st.idx] := by
  simp [State.direct, State.port]

theorem settled_slot (s : State) (st : Station) : (s.settled.port st).slot = (s.port st).slot := by
  have hlink : (s.settled.port st).link = (s.port st).link := by rw [port_link, port_link, direct_settled]
  exact (congrArg Port.slot hlink :)

/-- The answer of a request stands in the slot once the request has been followed to its end (R161). -/
theorem request_slot (s : State) (st : Station) (code : Nat) (owner : State → State × Reply) :
    let r := (owner (s.attended st).settled).2
    ((s.request st code owner).port st).slot =
      { request := code, outcome := r.outcome, reason := r.reason, skip := r.skip, shown := false } := by
  unfold State.request
  rw [settled_slot, modPort_port, if_pos rfl]
  rfl

/-- REFERENCE STROKES is accepted, or it changes no group (R8, R9). -/
theorem requestReference_cases (s : State) (v : GroupIx → Nat) :
    (s.requestReference v).1 = s ∨ (s.requestReference v).2 = .accepted := by
  unfold State.requestReference
  split
  · exact .inl rfl
  · exact .inr rfl

theorem request_reference_groups (s : State) (v : GroupIx → Nat) :
    (s.request .cabin 2 fun u => u.requestReference v).guarded.groups = s.guarded.groups ∨
      (s.request .cabin 2 fun u => u.requestReference v).referenceAccepted := by
  rcases requestReference_cases (s.attended .cabin).settled v with h | h
  · refine .inl ?_
    have hanswer : (s.request .cabin 2 fun u => u.requestReference v).guarded =
      ((s.attended .cabin).settled.requestReference v).1.guarded := guarded_settled _
    rw [hanswer, h, guarded_settled]
    rfl
  · refine .inr ?_
    unfold State.referenceAccepted
    rw [request_slot, h]
    exact ⟨rfl, rfl⟩

/-- No request but REFERENCE STROKES changes what is counted of the groups. -/
theorem guarded_ownerOf (st : Station) {code : Nat} (hcode : code ≠ 2) (data : List Payload) (s : State) :
    (ownerOf st code data s).1.guarded.groups = s.guarded.groups := by
  unfold ownerOf
  split
  · rw [(Apart.requestConfigure s _).guarded]
  · exact absurd rfl hcode
  · rw [guarded_requestStart]
  · rw [guarded_requestStop]
  · rw [guarded_requestLevel]
  · rw [guarded_requestRing]
  · rw [guarded_releaseFirst]
  · rw [guarded_requestClaim]
  · rw [guarded_requestWithdraw]
  · rw [guarded_requestPlaced]
  · rw [guarded_requestSuspend]
  · rw [guarded_requestResume]
  · rw [guarded_requestTrainIn]
  · rw [guarded_requestCarShift]
  · rw [guarded_requestTrainOut]
  · rw [guarded_requestMeasure]
  · rw [guarded_requestFaultClear]
  · rw [(PortWork.requestPortReset s st).guarded]

/-- A request frame that reaches REFERENCE STROKES' owner is CABIN's (Table 9-3). -/
theorem cabin_of_judgeFrame {st : Station} {header : Option LinkWord} {data : List LinkWord} {extra : Nat}
    (h : judgeFrame st header data extra = .request) (hcode : storedCode header = 2) : st = .cabin := by
  unfold judgeFrame at h
  split at h
  · cases h
  · next w =>
    split at h; · cases h
    split at h; · cases h
    split at h; · cases h
    split at h
    · unfold judgeRead at h
      split at h <;> cases h
    · next hread =>
      have hw : headerCode w = 2 := by simpa [storedCode, hread] using hcode
      rw [hw] at h
      unfold judgeRequest at h
      split at h; · cases h
      split at h; · cases h
      split at h; · cases h
      split at h; · cases h
      next hpermitted => cases st <;> simp [permitted] at hpermitted ⊢

theorem closeFrame_groups (s : State) (st : Station) (data : List LinkWord) (extra : Nat) :
    (s.closeFrame st data extra).guarded.groups = s.guarded.groups ∨ (s.closeFrame st data extra).referenceAccepted := by
  unfold State.closeFrame
  split
  · exact .inl rfl
  · next f _ =>
    unfold State.finishFrame
    split
    · rw [guarded_failFrame]; exact .inl rfl
    · rw [guarded_settled]; exact .inl rfl
    · next hrequest =>
      by_cases hcode : storedCode f.header = 2
      · rw [hcode, cabin_of_judgeFrame hrequest hcode]
        exact request_reference_groups s _
      · refine .inl ?_
        have hanswer : (s.request st (storedCode f.header) (ownerOf st (storedCode f.header) (data.map payloadOf))).guarded =
          (ownerOf st (storedCode f.header) (data.map payloadOf) (s.attended st).settled).1.guarded := guarded_settled _
        rw [hanswer, guarded_ownerOf st hcode, guarded_settled]
        rfl

theorem exec_frameEnd (st : Station) (data : List LinkWord) (extra : Nat) (s : State) :
    exec (.frameEnd st data extra) s = s.run fun t => t.closeFrame st data extra := rfl

/-- A frame of another length than ten data words fails row 8 of Table 9-2. -/
theorem exec_referenceStrokes (values : List Payload) (s : State) :
    exec (.referenceStrokes values) s = s.run fun t =>
      if values.length = 10 then t.request .cabin 2 fun u => u.requestReference (strokesOf values)
      else t.failFrame .cabin 2 { outcome := .frame, reason := 2, skip := 0 } .frame true := rfl

/-- Run with RESET held or released, a command leaves what is counted of the groups or ends in an accepted REFERENCE STROKES, where its
effect does. -/
theorem run_groups {s t : State} {f : State → State} (h : s.run f = .next t)
    (hf : (f s).guarded.groups = s.guarded.groups ∨ (f s).referenceAccepted) :
    t.guarded.groups = s.guarded.groups ∨ t.referenceAccepted := by
  cases hr : s.resetActive with
  | true => rw [run_held hr] at h; cases h; exact .inl rfl
  | false => rw [run_awake hr] at h; cases h; exact hf

theorem Counted.pulsed_saturated {c : Counted} (h : c.saturated = true) (extending : Bool) : (c.pulsed extending).saturated = true := by
  unfold Counted.pulsed
  split_ifs
  · exact h
  · rfl
  · exact h
  · rfl

/-- No command but DEVICE_RESET clears a saturated flag, unless CABIN's slot then shows an accepted REFERENCE STROKES (R6). -/
theorem exec_saturated {i : Instr} {s t : State} {g : GroupIx} (hi : i ≠ .deviceReset) (h : exec i s = .next t)
    (hs : (s.group g).saturated = true) : (t.group g).saturated = true ∨ t.referenceAccepted := by
  have hkept (ht : t.guarded.groups = s.guarded.groups) : (t.group g).saturated = true :=
    (congrArg Counted.saturated (guarded_group ht g)).trans hs
  by_cases hf : ∃ st data extra, i = .frameEnd st data extra
  · obtain ⟨st, data, extra, rfl⟩ := hf
    rw [exec_frameEnd] at h
    exact (run_groups h (closeFrame_groups s st data extra)).imp_left hkept
  by_cases hv : ∃ v, i = .referenceStrokes v
  · obtain ⟨v, rfl⟩ := hv
    rw [exec_referenceStrokes] at h
    refine (run_groups h ?_).imp_left hkept
    split
    · exact request_reference_groups s _
    · rw [guarded_failFrame]; exact .inl rfl
  by_cases hp : ∃ h e, i = .strokePulse h e
  · obtain ⟨k, e, rfl⟩ := hp
    refine .inl ?_
    cases hr : s.resetActive with
    | true => rw [exec_held hr _ (by simp) (by simp) (by simp) (by simp)] at h; cases h; exact hs
    | false =>
      rw [exec_strokePulse, run_awake hr] at h
      cases h
      have hcounted := group_counted (s.pulse k e).settled g
      rw [direct_settled, direct_pulse_counted, modAt_getElem, ← group_counted] at hcounted
      refine (congrArg Counted.saturated hcounted).trans ?_
      split
      · exact Counted.pulsed_saturated hs e
      · exact hs
  · refine .inl (hkept ((congrArg Guarded.groups (exec_guarded h)).trans (mayChange_groups _ _ hi ?_ ?_ ?_)))
    · exact fun st data extra he => hf ⟨st, data, extra, he⟩
    · exact fun k e he => hp ⟨k, e, he⟩
    · exact fun v he => hv ⟨v, he⟩

/-! ## REFERENCE STROKES clears the flag, and ADVANCE START is refused while it stands -/

theorem firstFailing_append_none {l l' : List (Bool × Reply)} (h : firstFailing l = none) : firstFailing (l ++ l') = firstFailing l' := by
  induction l with
  | nil => rfl
  | cons c l ih =>
    obtain ⟨ok, r⟩ := c
    cases ok with
    | true => exact ih h
    | false => cases h

theorem firstFailing_map_none {α : Type} {l : List α} {ok : α → Bool} {r : α → Reply} :
    firstFailing (l.map fun a => (ok a, r a)) = none ↔ ∀ a ∈ l, ok a = true := by
  induction l with
  | nil => simp [firstFailing]
  | cons a l ih =>
    rw [List.map_cons, firstFailing, List.forall_mem_cons, ← ih]
    cases ok a <;> simp

theorem mem_allGroups (g : GroupIx) : g ∈ allGroups := by fin_cases g <;> decide

/-- The checks of REFERENCE STROKES all pass (R8). -/
theorem referenceChecks_pass {s : State} {v : GroupIx → Nat} (hc : s.adu.cycle = .standstill) (hv : ∀ g, v g ≤ 32000)
    (hb : ∀ g, captureInRange ((s.group g).shifted (v g)) = true) : firstFailing (s.referenceChecks v) = none := by
  unfold State.referenceChecks
  rw [List.cons_append, firstFailing, hc, if_pos (by rfl), firstFailing_append_none, firstFailing_map_none]
  · exact fun g _ => hb g
  · exact firstFailing_map_none.mpr fun g _ => decide_eq_true (hv g)

/-- The strokes of ten data words at most 32,000 are at most 32,000. -/
theorem strokesOf_bound {values : List Payload} (hl : values.length = 10) (h : ∀ v ∈ values, v.toNat ≤ 32000) (g : GroupIx) :
    strokesOf values g ≤ 32000 := by
  have hg : g.val < values.length := by rw [hl]; exact g.isLt
  unfold strokesOf
  rw [List.getD_eq_getElem _ _ hg]
  exact h _ (List.getElem_mem hg)

theorem Group.reference_saturated (r : Group) (v : Nat) : (r.reference v).saturated = false := by
  unfold Group.reference
  dsimp only
  split <;> rfl

theorem exec_referenceStrokes_ten {values : List Payload} (hl : values.length = 10) (s : State) :
    exec (.referenceStrokes values) s = s.run fun t => t.request .cabin 2 fun u => u.requestReference (strokesOf values) := by
  simpa only [hl, if_true] using exec_referenceStrokes values s

theorem exec_advanceStart (s : State) : exec .advanceStart s = s.run fun t => t.request .cabin 3 State.requestStart := rfl

/-- Of the checks of ADVANCE START, a saturated flag fails the fourth (Table 2-3). -/
theorem startChecks_saturated {s : State} {g : GroupIx} (h : (s.group g).saturated = true) :
    ∃ reason, reason ∈ [1, 5, 2, 3] ∧ firstFailing s.startChecks = some (.refusedState reason) := by
  have hflag : (allGroups.all fun k => !(s.group k).saturated) = false :=
    List.all_eq_false.mpr ⟨g, mem_allGroups g, by simp [h]⟩
  unfold State.startChecks
  rw [hflag]
  cases !s.adu.cycle.underWay
  · exact ⟨1, by simp, rfl⟩
  cases s.adu.cycle != .ringBuild
  · exact ⟨5, by simp, rfl⟩
  cases allGroups.all fun k => (s.group k).referenced
  · exact ⟨2, by simp, rfl⟩
  · exact ⟨3, by simp, rfl⟩

/-- Settles O10: a group's saturated flag falls only with what is counted of the group, which REFERENCE STROKES and the reset change. -/
theorem clampedPulsesSaturate : Obligations.ClampedPulsesSaturate := by
  intro s g
  refine ⟨fun hc hs => ?_, fun hc hs => ?_, fun i t hi h hs => exec_saturated hi h hs, fun values hready hl hcycle hv hb => ?_,
    ⟨_, exec_deviceReset s, by rw [deviceReset_group]; rfl⟩, fun hready hs => ?_⟩
  · exact exec_strokePulse_clamped hc (by simp [hs])
  · exact exec_strokePulse_clamped hc (by simp [hs, strokeTop])
  · obtain ⟨hr, hq⟩ := ready_iff.mp hready
    rw [exec_referenceStrokes_ten hl]
    refine ⟨_, run_awake hr _, fun h => ?_⟩
    have hpass : firstFailing ((s.attended .cabin).referenceChecks (strokesOf values)) = none :=
      referenceChecks_pass hcycle (strokesOf_bound hl hv) hb
    have hanswer : (s.request .cabin 2 fun u => u.requestReference (strokesOf values)).guarded =
        ((s.attended .cabin).requestReference (strokesOf values)).1.guarded := by
      rw [← settled_of_quiet hq]; exact guarded_settled _
    have hgroup := guarded_group (congrArg Guarded.groups hanswer) h
    refine (congrArg Counted.saturated hgroup).trans ?_
    rw [State.requestReference, hpass]
    dsimp only
    rw [changeGroups_eq]
    have hchanged : (mapIx (s.attended .cabin).groups fun k r => r.reference (strokesOf values k))[h] =
      ((s.attended .cabin).group h).reference (strokesOf values h) := mapIx_getElem ..
    exact (congrArg Group.saturated hchanged).trans (Group.reference_saturated _ _)
  · obtain ⟨reason, hmem, hfail⟩ := startChecks_saturated (s := s.attended .cabin) (g := g) hs
    refine ⟨reason, hmem, ?_⟩
    rw [exec_advanceStart]
    exact run_refused hready (by rw [State.requestStart, hfail])

end Sys2Proof.Machine
end

section
/-! How the notices of a change of groups are taken: those of arrivals, the examination of the claim queue's head that follows them, and
a reported stroke change. -/

namespace Sys2Proof.Machine

/-! ## Changes of one record -/

theorem modAt_modAt {α : Type} {n : Nat} (t : Vector α n) (i : Fin n) (f g : α → α) :
    modAt (modAt t i f) i g = modAt t i fun a => g (f a) := by
  ext j hj : 1
  have h1 := modAt_getElem (modAt t i f) i ⟨j, hj⟩ g
  have h2 := modAt_getElem t i ⟨j, hj⟩ f
  have h3 := modAt_getElem t i ⟨j, hj⟩ fun a => g (f a)
  simp only [Fin.getElem_fin] at h1 h2 h3
  rw [h1, h2, h3]
  split <;> rfl

theorem modGroup_modGroup (s : State) (g : GroupIx) (f f' : Group → Group) :
    (s.modGroup g f).modGroup g f' = s.modGroup g fun r => f' (f r) := by
  simp only [State.modGroup, modAt_modAt]

theorem modPiece_modPiece (s : State) (pc : Piece) (f f' : PieceRecord → PieceRecord) :
    (s.modPiece pc f).modPiece pc f' = s.modPiece pc fun r => f' (f r) := by
  simp only [State.modPiece, State.modRecord, modAt_modAt]

theorem modPiece_congr {s : State} {pc : Piece} {f f' : PieceRecord → PieceRecord} (h : f (s.piece pc) = f' (s.piece pc)) :
    s.modPiece pc f = s.modPiece pc f' := by
  unfold State.modPiece State.modRecord modAt
  exact congrArg (fun r => ({ s with rbu := { s.rbu with record := { s.rbu.record with
    pieces := s.rbu.record.pieces.set pc.idx.val r pc.idx.isLt } } } : State)) h

theorem mapIx_one {α : Type} {n : Nat} (t : Vector α n) (i : Fin n) (f : α → α) :
    (mapIx t fun j a => if j = i then f a else a) = modAt t i f := by
  ext j hj : 1
  have hl := mapIx_getElem t (fun j a => if j = i then f a else a) ⟨j, hj⟩
  have hr := modAt_getElem t i ⟨j, hj⟩ f
  simp only [Fin.getElem_fin] at hl hr
  rw [hl, hr]
  simp only [eq_comm]

theorem filterMap_allGroups_one (g : GroupIx) (n : GroupIx → Notice) :
    (allGroups.filterMap fun k => if k = g then some (n k) else none) = [n g] := by
  fin_cases g <;> rfl

/-- A change of one group's state sends its notice (R25). -/
theorem changeGroups_one {s : State} {g : GroupIx} {f : Group → Group} (h : (s.group g).state ≠ (f (s.group g)).state) :
    (s.changeGroups fun k r => if k = g then f r else r) =
      { s.modGroup g f with notices := s.notices ++ [Group.notice g (s.group g) (f (s.group g))] } := by
  have hnotices : changeNotices s (fun k r => if k = g then f r else r) = [Group.notice g (s.group g) (f (s.group g))] := by
    unfold changeNotices
    rw [← filterMap_allGroups_one g fun k => Group.notice k (s.group k) (f (s.group k))]
    congr 1
    funext k
    by_cases hk : k = g
    · subst hk; simp [h]
    · simp [hk]
  rw [changeGroups_eq, hnotices, mapIx_one]
  rfl

/-! ## One notice after another -/

/-- The part with these notices waiting. -/
def State.waiting (s : State) (l : List Notice) : State := { s with notices := l }

theorem waiting_nil {s : State} (h : s.notices = []) : s.waiting [] = s := by rw [State.waiting, ← h]

theorem waiting_unmarked (s : State) (l : List Notice) : (s.waiting l).unmarked = s.unmarked := unmarked_of_watched rfl

theorem quiet_iff {s : State} : s.quiet = true ↔ s.unmarked = none ∧ s.notices = [] := by simp [State.quiet]

theorem waiting_nil_quiet {s : State} (hu : s.unmarked = none) : (s.waiting []).quiet = true :=
  quiet_iff.mpr ⟨(waiting_unmarked s []).trans hu, rfl⟩

/-- The oldest notice is taken in the state with the others waiting. -/
theorem settle_waiting {s : State} (hu : s.unmarked = none) (n : Nat) (x : Notice) (rest : List Notice) :
    settle (n + 1) (s.waiting (x :: rest)) = settle n ((s.waiting rest).take x) :=
  settle_notice n ((waiting_unmarked s _).trans hu) rfl

/-- A stroke change outside BORING and PAUSED comes to nothing (R37). -/
theorem take_strokeChange {s : State} (hb : s.adu.cycle ≠ .boring) (hp : s.adu.cycle ≠ .paused) : s.take .strokeChange = s := by
  unfold State.take State.takeStrokeChange
  cases hc : s.adu.cycle <;> simp_all

/-- Outside BORING and PAUSED and with an empty claim queue, notices of no arrival and the stroke change behind them come to nothing. -/
theorem settle_moves {s : State} (hu : s.unmarked = none) (hq : s.rbu.queue = []) (hb : s.adu.cycle ≠ .boring)
    (hp : s.adu.cycle ≠ .paused) (l : List Notice) (hl : noArrivals l) (n : Nat) (hn : l.length + 1 ≤ n) :
    settle n (s.waiting (l ++ [.strokeChange])) = s.waiting [] := by
  induction l generalizing n with
  | nil =>
    obtain ⟨m, rfl⟩ : ∃ m, n = m + 1 := ⟨n - 1, by simp at hn; omega⟩
    rw [List.nil_append, settle_waiting hu, take_strokeChange (s := s.waiting []) hb hp, settle_of_quiet _ (waiting_nil_quiet hu)]
  | cons x l ih =>
    obtain ⟨m, rfl⟩ : ∃ m, n = m + 1 := ⟨n - 1, by simp at hn; omega⟩
    obtain ⟨g, st, owner, rfl⟩ := hl x List.mem_cons_self
    have hempty : (s.waiting (l ++ [.strokeChange])).rbu.queue = [] := hq
    have htake : (s.waiting (l ++ [.strokeChange])).take (.groupState g st owner none) = s.waiting (l ++ [.strokeChange]) := by
      rw [State.take, takeGroupState_none hempty]
    rw [List.cons_append, settle_waiting hu, htake]
    exact ih (fun y hy => hl y (List.mem_cons_of_mem _ hy)) m (by simp at hn; omega)

/-- An arrival in CLEAR for a RETRACTING piece (R84). -/
theorem arriveClear_eq {s : State} {pc : Piece} (h : (s.piece pc).state = .retracting) (g : GroupIx) :
    s.arriveClear g pc =
      if (s.piece pc).awaited.filter (fun k => k != g) = [] then
        (s.modPiece pc fun r => r.arrived .clear).setEvent .pieceClear
      else s.modPiece pc fun r => { r with awaited := (s.piece pc).awaited.filter fun k => k != g } := by
  simp [State.arriveClear, h]

theorem examineHead_empty {s : State} (h : s.rbu.queue = []) : s.examineHead = s := by simp [State.examineHead, h]

/-! ## The grant of the head of the claim queue -/

/-- What the claim of a piece depends on. -/
theorem claimable_congr {s t : State} {pc : Piece} (hg : t.groups = s.groups) (hp : (t.piece pc).groups = (s.piece pc).groups)
    (hc : t.config = s.config) (hf : t.fsv = s.fsv) (he : t.estop = s.estop) : t.claimable pc ↔ s.claimable pc := by
  simp only [State.claimable, State.group, State.item, State.inForce, hg, hp, hc, hf, he]

/-- The head of the claim queue is not granted where it is not claimable (R81). -/
theorem examineHead_of_not_claimable {s : State} (h : ∀ e ∈ s.rbu.queue.head?, ¬s.claimable e.piece) : s.examineHead = s := by
  unfold State.examineHead
  split
  · rfl
  · next e rest hq =>
    have hnot := h e (by rw [hq]; rfl)
    rw [← grantChecks_pass_iff] at hnot
    split
    · rfl
    · next hpass => exact absurd hpass hnot

theorem examineHead_of_claimable {s : State} {e : QueueEntry} {rest : List QueueEntry} (hq : s.rbu.queue = e :: rest)
    (h : s.claimable e.piece) : s.examineHead = (s.modRbu fun b => { b with queue := rest }).grant e.piece := by
  unfold State.examineHead
  rw [hq]
  dsimp only
  rw [(grantChecks_pass_iff s e.piece).mpr h]

/-- The group of a granted piece stays above CLEAR_STROKE, and is awaited (R16). -/
def State.toRetract (s : State) (g : GroupIx) : Bool := decide (s.item .clearStroke < (s.group g).stroke)

/-- What the retract request does to a bearing group (R16). -/
def Group.lend (clearStroke : Nat) (pc : Piece) (r : Group) : Group :=
  { r with state := if clearStroke < r.stroke then .retract else .clear, owner := some pc, contact := false }

theorem Group.retractFor_eq_lend {r : Group} (h : r.state = .hold ∨ r.state = .push) (c : Nat) (pc : Piece) :
    r.retractFor c pc = r.lend c pc := by
  unfold Group.retractFor
  rcases h with h | h <;> rw [h] <;> rfl

/-- The group table once the retract request of a piece has been answered, where the piece bears. -/
def State.lendGroups (s : State) (pc : Piece) : Vector Group 10 :=
  mapIx s.groups fun g r => if g ∈ (s.piece pc).groups then r.lend (s.item .clearStroke) pc else r

/-- The part while the notices of a grant are taken: the groups moved, CLAIM_GRANTED set, and the piece's record `q`. -/
def State.lending (s : State) (pc : Piece) (q : PieceRecord) : State :=
  (({ s with groups := s.lendGroups pc } : State).modPiece pc fun _ => q).setEvent .claimGranted

/-- The notice of a group that a grant has moved (R25). -/
def State.lendNotice (s : State) (pc : Piece) (g : GroupIx) : Notice :=
  if s.toRetract g then .groupState g .retract (some pc) none else .groupState g .clear (some pc) (some pc)

/-- A granted piece's record before any of its groups has arrived, `aw` being the groups it awaits (R78). -/
def State.grantedRecord (s : State) (pc : Piece) (aw : List GroupIx) : PieceRecord :=
  { s.piece pc with
    state := .retracting, claimTime := some ((s.piece pc).claimTime.getD s.seconds), awaited := aw
    timer := { state := .running, kind := .retract, left := 1000 * s.item .retractTime } }

section
variable (s : State) (pc : Piece) (q : PieceRecord)

theorem lending_piece : (s.lending pc q).piece pc = q := by
  have h := modPiece_piece { s with groups := s.lendGroups pc } pc pc fun _ => q
  rw [if_pos rfl] at h
  exact h

theorem lending_modPiece (f : PieceRecord → PieceRecord) : (s.lending pc q).modPiece pc f = s.lending pc (f q) :=
  congrArg (fun u : State => u.setEvent .claimGranted) (modPiece_modPiece { s with groups := s.lendGroups pc } pc (fun _ => q) f)

theorem lending_unmarked : (s.lending pc q).unmarked = s.unmarked :=
  unmarked_of_watched ((watched_setEvent _ _).trans rfl)

/-- While a grant's notices are taken, whether another claim may be granted stays the same. -/
theorem lending_claimable (hq : q.groups = (s.piece pc).groups) (other : Piece) :
    (s.lending pc q).claimable other ↔ ({ s with groups := s.lendGroups pc } : State).claimable other := by
  refine claimable_congr rfl ?_ rfl rfl rfl
  have h := modPiece_piece { s with groups := s.lendGroups pc } pc other fun _ => q
  refine (congrArg PieceRecord.groups h).trans ?_
  split
  · next he => subst he; exact hq
  · rfl

end

theorem filterMap_ite_some {α β : Type} (l : List α) (c : α → Bool) (f : α → β) :
    (l.filterMap fun a => if c a then some (f a) else none) = (l.filter c).map f := by
  induction l with
  | nil => rfl
  | cons a l ih => cases h : c a <;> simp [h, ih]

theorem mapIx_congr {α β : Type} {n : Nat} {t : Vector α n} {f f' : Fin n → α → β} (h : ∀ i, f i t[i] = f' i t[i]) :
    mapIx t f = mapIx t f' := by
  unfold mapIx
  exact congrArg Vector.ofFn (funext h)

/-- The retract request as a move of the group table (R16). -/
def State.retractMove (s : State) (pc : Piece) (g : GroupIx) (r : Group) : Group :=
  if (s.piece pc).groups.contains g then r.retractFor (s.item .clearStroke) pc else r

section
variable {s : State} {pc : Piece} (hb : s.bearing pc)
include hb

theorem retractMove_bearing (g : GroupIx) :
    s.retractMove pc g (s.group g) =
      if g ∈ (s.piece pc).groups then (s.group g).lend (s.item .clearStroke) pc else s.group g := by
  unfold State.retractMove
  by_cases hm : g ∈ (s.piece pc).groups
  · simp [hm, Group.retractFor_eq_lend (hb.2 g hm)]
  · simp [hm]

theorem changeNotices_retractMove :
    changeNotices s (s.retractMove pc) = (allGroups.filter (s.piece pc).groups.contains).map (s.lendNotice pc) := by
  rw [← filterMap_ite_some]
  refine List.filterMap_congr fun g _ => ?_
  rw [retractMove_bearing hb]
  by_cases hm : g ∈ (s.piece pc).groups
  · have hleft : (s.group g).state ≠ ((s.group g).lend (s.item .clearStroke) pc).state := by
      unfold Group.lend
      rcases hb.2 g hm with hs | hs <;> rw [hs] <;> dsimp only <;> split <;> simp
    simp only [hm, if_true, List.contains_iff_mem, bne_iff_ne.mpr hleft, State.lendNotice, State.toRetract]
    by_cases hc : s.item .clearStroke < (s.group g).stroke <;> simp [Group.notice, Group.lend, hc]
  · simp [hm]

/-- A granted bearing piece's groups are moved, and their notices wait (R16, R78). -/
theorem grant_eq (hf : s.frozen = false) :
    s.grant pc =
      (s.lending pc (s.grantedRecord pc (s.piece pc).groups)).waiting
        (s.notices ++ (allGroups.filter (s.piece pc).groups.contains).map (s.lendNotice pc)) := by
  have hrecord : (s.modPiece pc fun r =>
      { r with state := .retracting, claimTime := some (r.claimTime.getD s.seconds), awaited := r.groups
               timer := s.startedTimer .retract (1000 * s.item .retractTime) }) =
      s.modPiece pc fun _ => s.grantedRecord pc (s.piece pc).groups :=
    modPiece_congr (by simp [State.startedTimer, hf, State.grantedRecord])
  have hgroups : mapIx s.groups (s.retractMove pc) = s.lendGroups pc := mapIx_congr (retractMove_bearing hb)
  have hgrant : s.grant pc =
      { (s.modPiece pc fun r =>
          { r with state := .retracting, claimTime := some (r.claimTime.getD s.seconds), awaited := r.groups
                   timer := s.startedTimer .retract (1000 * s.item .retractTime) }).setEvent .claimGranted with
        groups := mapIx s.groups (s.retractMove pc), notices := s.notices ++ changeNotices s (s.retractMove pc) } :=
    changeGroups_eq _ _
  rw [hgrant, hrecord, hgroups, changeNotices_retractMove hb]
  rfl

end

/-- The groups that a granted piece goes on awaiting once every notice of the grant has been taken. -/
def State.leftToRetract (s : State) (pc : Piece) : List GroupIx := (s.piece pc).groups.filter s.toRetract

theorem granted_eq (s : State) (pc : Piece) :
    s.granted pc =
      if s.leftToRetract pc = [] then (s.lending pc ((s.grantedRecord pc []).arrived .clear)).setEvent .pieceClear
      else s.lending pc (s.grantedRecord pc (s.leftToRetract pc)) := by
  have hmod (f : PieceRecord → PieceRecord) (q : PieceRecord) (h : f (s.piece pc) = q) :
      ({ s with groups := s.lendGroups pc } : State).modPiece pc f =
        ({ s with groups := s.lendGroups pc } : State).modPiece pc fun _ => q :=
    modPiece_congr (s := { s with groups := s.lendGroups pc }) h
  unfold State.lending
  by_cases h : s.leftToRetract pc = []
  · rw [if_pos h]
    refine (if_pos h).trans (congrArg (fun u : State => (u.setEvent .claimGranted).setEvent .pieceClear) ?_)
    refine hmod _ _ ?_
    have hleft : (s.piece pc).groups.filter (fun g => decide (s.item .clearStroke < (s.group g).stroke)) = [] := h
    simp [hleft, State.grantedRecord, PieceRecord.arrived, PieceTimer.idle]
  · rw [if_neg h]
    refine (if_neg h).trans (congrArg (fun u : State => u.setEvent .claimGranted) ?_)
    refine hmod _ _ ?_
    have hleft : (s.piece pc).groups.filter (fun g => decide (s.item .clearStroke < (s.group g).stroke)) ≠ [] := h
    simp only [hleft, if_false]
    rfl

theorem granted_claimable (s : State) (pc other : Piece) :
    (s.granted pc).claimable other ↔ ({ s with groups := s.lendGroups pc } : State).claimable other := by
  rw [granted_eq]
  split
  · have hevent : ((s.lending pc ((s.grantedRecord pc []).arrived .clear)).setEvent .pieceClear).claimable other ↔
      (s.lending pc ((s.grantedRecord pc []).arrived .clear)).claimable other := claimable_congr rfl rfl rfl rfl rfl
    rw [hevent]
    exact lending_claimable s pc ((s.grantedRecord pc []).arrived .clear) rfl other
  · exact lending_claimable s pc (s.grantedRecord pc (s.leftToRetract pc)) rfl other

theorem granted_notices (s : State) (pc : Piece) : (s.granted pc).notices = s.notices := by
  rw [granted_eq]
  split <;> rfl

/-- While a grant's notices are taken, the head of the claim queue is not granted where it is not claimable after the grant. -/
theorem examineHead_lending {s t : State} {pc : Piece} {q : PieceRecord} (hq : q.groups = (s.piece pc).groups)
    (hnext : ∀ e ∈ s.rbu.queue.head?, ¬({ s with groups := s.lendGroups pc } : State).claimable e.piece)
    (ht : t = { s.lending pc q with ports := t.ports, notices := t.notices }) : t.examineHead = t := by
  refine examineHead_of_not_claimable fun e he => ?_
  rw [ht] at he
  have hsame : t.claimable e.piece ↔ (s.lending pc q).claimable e.piece := by
    rw [ht]; exact claimable_congr rfl rfl rfl rfl rfl
  rw [hsame, lending_claimable s pc q hq]
  exact hnext e he

/-- A notice of a grant is taken: an arrival in CLEAR is no longer awaited, and the last one makes the piece CLEAR (R84). -/
theorem take_lendNotice {s : State} {pc : Piece} {q : PieceRecord} (hq : q.groups = (s.piece pc).groups) (hs : q.state = .retracting)
    (hnext : ∀ e ∈ s.rbu.queue.head?, ¬({ s with groups := s.lendGroups pc } : State).claimable e.piece)
    (g : GroupIx) (rest : List Notice) :
    ((s.lending pc q).waiting rest).take (s.lendNotice pc g) =
      if s.toRetract g then (s.lending pc q).waiting rest
      else if q.awaited.filter (fun h => h != g) = [] then
        ((s.lending pc (q.arrived .clear)).setEvent .pieceClear).waiting rest
      else (s.lending pc { q with awaited := q.awaited.filter fun h => h != g }).waiting rest := by
  have hpiece : ((s.lending pc q).waiting rest).piece pc = q := lending_piece s pc q
  have hmod (f : PieceRecord → PieceRecord) : ((s.lending pc q).waiting rest).modPiece pc f = (s.lending pc (f q)).waiting rest :=
    congrArg (State.waiting · rest) (lending_modPiece s pc q f)
  unfold State.lendNotice
  split
  · exact examineHead_lending hq hnext rfl
  · have hstate : (((s.lending pc q).waiting rest).piece pc).state = .retracting := by rw [hpiece, hs]
    show (((s.lending pc q).waiting rest).arriveClear g pc).examineHead = _
    rw [arriveClear_eq hstate, hpiece, hmod, hmod]
    split
    · exact examineHead_lending (q := q.arrived .clear) hq hnext rfl
    · exact examineHead_lending (q := { q with awaited := q.awaited.filter fun h => h != g }) hq hnext rfl

/-- The groups that a granted piece awaits while the notices of the groups `ks` still wait. -/
def State.awaitedWith (s : State) (pc : Piece) (ks : List GroupIx) : List GroupIx :=
  (s.piece pc).groups.filter fun h => s.toRetract h || ks.contains h

theorem awaitedWith_nil (s : State) (pc : Piece) : s.awaitedWith pc [] = s.leftToRetract pc := by
  simp [State.awaitedWith, State.leftToRetract]

theorem awaitedWith_all {s : State} {pc : Piece} {ks : List GroupIx} (h : ∀ g ∈ (s.piece pc).groups, g ∈ ks) :
    s.awaitedWith pc ks = (s.piece pc).groups :=
  List.filter_eq_self.mpr fun g hg => by simp [h g hg]

theorem awaitedWith_cons_retract {s : State} {pc : Piece} {k : GroupIx} (h : s.toRetract k = true) (ks : List GroupIx) :
    s.awaitedWith pc (k :: ks) = s.awaitedWith pc ks := by
  refine List.filter_congr fun g _ => ?_
  by_cases hg : g = k
  · simp [hg, h]
  · simp [hg]

theorem awaitedWith_cons_clear {s : State} {pc : Piece} {k : GroupIx} (h : s.toRetract k = false) {ks : List GroupIx} (hk : k ∉ ks) :
    (s.awaitedWith pc (k :: ks)).filter (fun g => g != k) = s.awaitedWith pc ks := by
  unfold State.awaitedWith
  rw [List.filter_filter]
  refine List.filter_congr fun g _ => ?_
  by_cases hg : g = k
  · subst hg; simp [h, hk]
  · simp [hg]

/-- The notices of a grant bring the granted piece to where R78, R16 and R84 together leave it. -/
theorem settle_lending {s : State} {pc : Piece} (hu : s.unmarked = none)
    (hnext : ∀ e ∈ s.rbu.queue.head?, ¬({ s with groups := s.lendGroups pc } : State).claimable e.piece)
    (ks : List GroupIx) (hnodup : ks.Nodup) (hks : ∀ k ∈ ks, k ∈ (s.piece pc).groups) (haw : s.awaitedWith pc ks ≠ [])
    (n : Nat) (hn : ks.length ≤ n) :
    settle n ((s.lending pc (s.grantedRecord pc (s.awaitedWith pc ks))).waiting (ks.map (s.lendNotice pc))) =
      (s.granted pc).waiting [] := by
  induction ks generalizing n with
  | nil =>
    rw [awaitedWith_nil] at haw ⊢
    rw [granted_eq, if_neg haw]
    exact settle_of_quiet _ (waiting_nil_quiet ((lending_unmarked ..).trans hu))
  | cons k ks ih =>
    obtain ⟨m, rfl⟩ : ∃ m, n = m + 1 := ⟨n - 1, by simp at hn; omega⟩
    obtain ⟨hk, hnodup⟩ := List.nodup_cons.mp hnodup
    obtain ⟨hmem, hks⟩ := List.forall_mem_cons.mp hks
    have hm : ks.length ≤ m := by simpa using hn
    rw [List.map_cons, settle_waiting ((lending_unmarked ..).trans hu), take_lendNotice (q := s.grantedRecord pc (s.awaitedWith pc (k :: ks))) rfl rfl hnext]
    by_cases hr : s.toRetract k = true
    · rw [if_pos hr]
      rw [awaitedWith_cons_retract hr] at haw ⊢
      exact ih hnodup hks haw m hm
    · have hr : s.toRetract k = false := by simpa using hr
      have hrest : (s.grantedRecord pc (s.awaitedWith pc (k :: ks))).awaited.filter (fun g => g != k) = s.awaitedWith pc ks :=
        awaitedWith_cons_clear hr hk
      rw [if_neg (by simp [hr]), hrest]
      split
      · next he =>
        have hnone : ks = [] := List.eq_nil_iff_forall_not_mem.mpr fun g hg =>
          List.filter_eq_nil_iff.mp he g (hks g hg) (by simp [hg])
        subst hnone
        rw [awaitedWith_nil] at he
        rw [granted_eq, if_pos he]
        refine settle_of_quiet _ (waiting_nil_quiet ((unmarked_of_watched (watched_setEvent _ _)).trans
          ((lending_unmarked ..).trans hu)))
      · next he => exact ih hnodup hks he m hm

theorem allGroups_nodup : allGroups.Nodup := by decide

theorem settle_grant {s : State} {pc : Piece} (h : s.quiet = true) (hb : s.bearing pc) (hf : s.frozen = false)
    (hnext : ∀ e ∈ s.rbu.queue.head?, ¬(s.granted pc).claimable e.piece) {n : Nat} (hn : 10 ≤ n) :
    settle n (s.grant pc) = s.granted pc := by
  obtain ⟨hu, hnotices⟩ := quiet_iff.mp h
  have hawaited : s.awaitedWith pc (allGroups.filter (s.piece pc).groups.contains) = (s.piece pc).groups :=
    awaitedWith_all fun g hg => List.mem_filter.mpr ⟨mem_allGroups g, by simpa using hg⟩
  rw [grant_eq hb hf, hnotices, List.nil_append, ← waiting_nil ((granted_notices s pc).trans hnotices)]
  nth_rw 1 [← hawaited]
  refine settle_lending hu (fun e he => ?_) _ (allGroups_nodup.filter _) (fun k hk => ?_) ?_ n ?_
  · rw [← granted_claimable]; exact hnext e he
  · simpa using (List.mem_filter.mp hk).2
  · rw [hawaited]; exact hb.1
  · exact (List.length_filter_le _ _).trans hn

/-- Where nothing else waits, the examination of the head of the claim queue and what it sets going are what R81 gives. -/
theorem examinesTo_settle {s : State} (h : s.quiet = true) {n : Nat} (hn : 10 ≤ n) : s.examinesTo (settle n s.examineHead) := by
  unfold State.examinesTo
  split
  · next hq => rw [examineHead_empty hq, settle_of_quiet _ h]
  · next e rest hq =>
    refine ⟨fun hnot => ?_, fun hclaim hbear hnext => ?_⟩
    · rw [examineHead_of_not_claimable (by rw [hq]; simpa using hnot), settle_of_quiet _ h]
    · have hquiet : (s.modRbu fun b => { b with queue := rest }).quiet = true := (quiet_of_watched rfl rfl).trans h
      have hfrozen : s.frozen = false := Bool.or_eq_false_iff.mpr hclaim.2.2
      rw [examineHead_of_claimable hq hclaim]
      exact settle_grant hquiet hbear hfrozen hnext hn

end Sys2Proof.Machine
end

section
/-! Pulses judged by their group's state, and the end of a dwell time. -/

namespace Sys2Proof.Machine

/-! ## A counted pulse -/

/-- A group whose stroke a pulse has counted. -/
def State.counting (s : State) (g : GroupIx) (v : Nat) : State := s.modGroup g fun r => { r with stroke := v }

theorem counting_group (s : State) (g : GroupIx) (v : Nat) : (s.counting g v).group g = { s.group g with stroke := v } := by
  rw [State.counting, modGroup_group, if_pos rfl]

theorem counting_quiet {s : State} (h : s.quiet = true) (g : GroupIx) (v : Nat) : (s.counting g v).quiet = true :=
  quiet_modGroup h g _

/-- A retracting pulse above stroke 0 is counted, judged and reported (R5, R6, R7). -/
theorem pulse_retracting {s : State} {g : GroupIx} (hs : 0 < (s.group g).stroke) :
    s.pulse g false = ((s.counting g ((s.group g).stroke - 1)).comparePulse g).send .strokeChange := by
  have hclamp : (s.group g).stroke ≠ 0 := by omega
  simp [State.pulse, State.counting, hclamp]

theorem exec_strokePulse_true {s : State} {g : GroupIx} (hc : s.calm = true) (hs : (s.group g).stroke < 32767) :
    exec (.strokePulse g true) s =
      .next (((s.counting g ((s.group g).stroke + 1)).comparePulse g).send .strokeChange).settled := by
  rw [exec_strokePulse, run_awake (calm_iff.mp hc).1, pulse_extending hs]
  rfl

theorem exec_strokePulse_false {s : State} {g : GroupIx} (hc : s.calm = true) (hs : 0 < (s.group g).stroke) :
    exec (.strokePulse g false) s =
      .next (((s.counting g ((s.group g).stroke - 1)).comparePulse g).send .strokeChange).settled := by
  rw [exec_strokePulse, run_awake (calm_iff.mp hc).1, pulse_retracting hs]

/-! ## The comparisons -/

section
variable {s : State} {g : GroupIx} {v : Nat}

/-- In LOCKED and CLEAR a counted pulse is compared with nothing (Table 1-2). -/
theorem comparePulse_locked_clear (h : (s.group g).state = .locked ∨ (s.group g).state = .clear) : s.comparePulse g = s := by
  rcases h with h | h <;> simp [State.comparePulse, h]

/-- While a forcing of R12 or R13 holds, a counted pulse in RETURN takes no new dwell reference (R22). -/
theorem comparePulse_returning_forced (h : (s.group g).state = .returning) (hf : s.frozen = true) : s.comparePulse g = s := by
  simp [State.comparePulse, h, hf]

theorem comparePulse_hold_within (h : (s.group g).state = .hold)
    (hc : (s.group g).stroke ≤ (s.group g).contactCapture + s.item .contactSlack ∨ (s.group g).contact = false) :
    s.comparePulse g = s := by
  have hnot : ((s.group g).contact && decide ((s.group g).contactCapture + s.item .contactSlack < (s.group g).stroke)) = false := by
    rcases hc with hc | hc
    · simp [Nat.not_lt.mpr hc]
    · simp [hc]
  simp [State.comparePulse, h, hnot]

/-- A stroke above the contact capture by more than CONTACT_SLACK loses the contact (R17). -/
theorem comparePulse_hold_above (h : (s.group g).state = .hold) (hc : (s.group g).contact = true)
    (ha : (s.group g).contactCapture + s.item .contactSlack < (s.group g).stroke) :
    s.comparePulse g = (s.modGroup g fun r => { r with contact := false }).raise (.contactLoss g) := by
  simp [State.comparePulse, h, hc, ha]

/-- Stroke end is reported once in a stay in PUSH (R24). -/
theorem comparePulse_push (h : (s.group g).state = .push) :
    s.comparePulse g =
      if !(s.group g).strokeEndReported && decide (s.item .strokeEnd ≤ (s.group g).stroke) then
        (s.modGroup g fun r => { r with strokeEndReported := true }).send (.strokeEnd g)
      else s := by
  simp [State.comparePulse, h]

theorem comparePulse_retract_above (h : (s.group g).state = .retract) (ha : s.item .clearStroke < (s.group g).stroke) :
    s.comparePulse g = s := by
  have hnot : ¬(s.group g).stroke ≤ s.item .clearStroke := by omega
  simp [State.comparePulse, h, hnot]

/-- At or below CLEAR_STROKE a retracting group is CLEAR, and has arrived for its owning piece (R23, R25). -/
theorem comparePulse_retract_clear (h : (s.group g).state = .retract) (ha : (s.group g).stroke ≤ s.item .clearStroke) :
    s.comparePulse g =
      (s.modGroup g fun r => { r with state := .clear }).waiting
        (s.notices ++ [.groupState g .clear (s.group g).owner (s.group g).owner]) := by
  have hchange : s.comparePulse g = s.changeGroups fun k r => if k = g then { r with state := .clear } else r := by
    simp [State.comparePulse, h, ha]
  rw [hchange, changeGroups_one (f := fun r => { r with state := .clear }) (by simp [h])]
  rfl

end

/-- A pulse outside BORING and PAUSED that sends nothing but the stroke change is over with its comparisons. -/
theorem settled_compared {s t : State} {g : GroupIx} (ht : s.comparePulse g = t) (hq : t.quiet = true) (hb : t.adu.cycle ≠ .boring)
    (hp : t.adu.cycle ≠ .paused) : ((s.comparePulse g).send .strokeChange).settled = t := by
  rw [ht]
  exact settled_strokeChange hq hb hp

section
variable {s : State} {g : GroupIx} (hc : s.calm = true)
include hc

theorem exec_strokePulse_push (hs : (s.group g).stroke < 32767) (hg : (s.group g).state = .push) :
    let v := (s.group g).stroke + 1
    let ends := !(s.group g).strokeEndReported && decide (s.item .strokeEnd ≤ v)
    let t := s.modGroup g fun r => { r with stroke := v, strokeEndReported := r.strokeEndReported || ends }
    exec (.strokePulse g true) s = .next ((if ends then t.send (.strokeEnd g) else t).send .strokeChange).settled := by
  intro v ends t
  have hgroup := counting_group s g v
  have hpush : ((s.counting g v).group g).state = .push := by rw [hgroup]; exact hg
  rw [exec_strokePulse_true hc hs, comparePulse_push hpush, hgroup]
  have hcase : (if ends then ((s.counting g v).modGroup g fun r => { r with strokeEndReported := true }).send (.strokeEnd g)
      else s.counting g v) = if ends then t.send (.strokeEnd g) else t := by
    cases he : ends with
    | true =>
      refine congrArg (State.send · (.strokeEnd g)) ?_
      rw [State.counting, modGroup_modGroup]
      exact modGroup_congr (by simp [he])
    | false => exact modGroup_congr (by simp [he])
  exact congrArg (fun u : State => Host.Outcome.next (u.send .strokeChange).settled) hcase

/-- Outside BORING and PAUSED a pulse that is compared with nothing, or passes its comparison, only counts. -/
theorem exec_strokePulse_counts (hb : s.adu.cycle ≠ .boring) (hp : s.adu.cycle ≠ .paused) (hs : (s.group g).stroke < 32767)
    (h : (s.counting g ((s.group g).stroke + 1)).comparePulse g = s.counting g ((s.group g).stroke + 1)) :
    exec (.strokePulse g true) s = .next (s.counting g ((s.group g).stroke + 1)) := by
  rw [exec_strokePulse_true hc hs, settled_compared h (counting_quiet (calm_iff.mp hc).2 g _) hb hp]

theorem exec_strokePulse_contactLoss (hs : (s.group g).stroke < 32767) (hg : (s.group g).state = .hold)
    (hcontact : (s.group g).contact = true)
    (ha : (s.group g).contactCapture + s.item .contactSlack < (s.group g).stroke + 1) :
    exec (.strokePulse g true) s =
      .next (((s.modGroup g fun r => { r with stroke := (s.group g).stroke + 1, contact := false }).raise (.contactLoss g)).send
        .strokeChange).settled := by
  have hgroup := counting_group s g ((s.group g).stroke + 1)
  have hcompared : (s.counting g ((s.group g).stroke + 1)).comparePulse g =
      ((s.counting g ((s.group g).stroke + 1)).modGroup g fun r => { r with contact := false }).raise (.contactLoss g) :=
    comparePulse_hold_above (by rw [hgroup]; exact hg) (by rw [hgroup]; exact hcontact) (by rw [hgroup]; exact ha)
  rw [exec_strokePulse_true hc hs, hcompared, State.counting, modGroup_modGroup]

/-- In a part at rest outside BORING and PAUSED with an empty claim queue, a retracting pulse that reaches CLEAR_STROKE brings the group
to CLEAR for its owning piece (R23, R25, R84). -/
theorem exec_strokePulse_clear {pc : Piece} (hb : s.adu.cycle ≠ .boring) (hp : s.adu.cycle ≠ .paused) (hq : s.rbu.queue = [])
    (hg : (s.group g).state = .retract) (hs : 0 < (s.group g).stroke) (ha : (s.group g).stroke - 1 ≤ s.item .clearStroke)
    (ho : (s.group g).owner = some pc) (hpc : (s.piece pc).state = .retracting) :
    let t := s.modGroup g fun r => { r with stroke := (s.group g).stroke - 1, state := .clear }
    exec (.strokePulse g false) s =
      .next (if (s.piece pc).awaited.filter (fun k => k != g) = [] then
        (t.modPiece pc fun r => r.arrived .clear).setEvent .pieceClear
      else t.modPiece pc fun r => { r with awaited := (s.piece pc).awaited.filter fun k => k != g }) := by
  intro t
  obtain ⟨hu, hnotices⟩ := quiet_iff.mp (calm_iff.mp hc).2
  have hgroup := counting_group s g ((s.group g).stroke - 1)
  have hcompared : (s.counting g ((s.group g).stroke - 1)).comparePulse g =
      ((s.counting g ((s.group g).stroke - 1)).modGroup g fun r => { r with state := .clear }).waiting
        (s.notices ++ [.groupState g .clear (some pc) (some pc)]) := by
    rw [comparePulse_retract_clear (by rw [hgroup]; exact hg) (by rw [hgroup]; exact ha), hgroup, ho]
    rfl
  have hwaiting : ((s.counting g ((s.group g).stroke - 1)).comparePulse g).send .strokeChange =
      t.waiting [.groupState g .clear (some pc) (some pc), .strokeChange] := by
    rw [hcompared, State.counting, modGroup_modGroup, hnotices]
    rfl
  have hunmarked : t.unmarked = none := (unmarked_of_watched rfl).trans hu
  have hstate : ((t.waiting [.strokeChange]).piece pc).state = .retracting := hpc
  have htake : (t.waiting [.strokeChange]).take (.groupState g .clear (some pc) (some pc)) =
      ((t.waiting [.strokeChange]).arriveClear g pc).examineHead := rfl
  rw [exec_strokePulse_false hc hs, hwaiting, State.settled, settleBound, settle_waiting hunmarked, htake, arriveClear_eq hstate]
  refine congrArg Host.Outcome.next ?_
  have hrest (u : State) (hu : u.unmarked = none) (hq : u.rbu.queue = []) (hb : u.adu.cycle ≠ .boring) (hp : u.adu.cycle ≠ .paused)
      (hn : u.notices = []) : settle 3999 (u.waiting [.strokeChange]).examineHead = u := by
    rw [examineHead_empty (s := u.waiting [.strokeChange]) hq]
    exact (settle_moves hu hq hb hp [] (by simp [noArrivals]) 3999 (by simp)).trans (waiting_nil hn)
  have hpiece : (t.waiting [.strokeChange]).piece pc = s.piece pc := rfl
  rw [hpiece]
  split
  · exact hrest ((t.modPiece pc fun r => r.arrived .clear).setEvent .pieceClear)
      ((unmarked_of_watched (watched_setEvent _ _)).trans hunmarked) hq hb hp hnotices
  · exact hrest (t.modPiece pc fun r => { r with awaited := (s.piece pc).awaited.filter fun k => k != g })
      ((unmarked_of_watched rfl).trans hunmarked) hq hb hp hnotices

end

/-- Settles O11: one comparison lemma for each state of the pulsed group, followed to its end by what the stroke change sets going. -/
theorem pulsesJudgeTheGroupsState : Obligations.PulsesJudgeTheGroupsState := by
  refine ⟨fun s g hc hs => ⟨exec_strokePulse_push hc hs, fun hb hp => ⟨fun hg => ?_, fun hg he hf => ?_, fun hg hf => ?_,
    fun hg hcase => ?_, fun hg hcontact ha => exec_strokePulse_contactLoss hc hs hg hcontact ha⟩⟩,
    fun s g pc hc hb hp hq hg hs => ⟨fun ha => ?_, fun ha ho hpc => exec_strokePulse_clear hc hb hp hq hg hs ha ho hpc⟩⟩
  · refine exec_strokePulse_counts hc hb hp hs (comparePulse_locked_clear ?_)
    rw [counting_group]
    exact hg
  · rw [exec_strokePulse_returning hc hb hp hg (Bool.or_eq_false_iff.mpr ⟨hf, he⟩) hs, State.pulsedInReturn, modGroup_modGroup]
    rfl
  · refine exec_strokePulse_counts hc hb hp hs (comparePulse_returning_forced ?_ ?_)
    · rw [counting_group]; exact hg
    · exact Bool.or_eq_true_iff.mpr hf.symm
  · refine exec_strokePulse_counts hc hb hp hs (comparePulse_hold_within ?_ ?_)
    · rw [counting_group]; exact hg
    · rw [counting_group]; exact hcase
  · rw [exec_strokePulse_false hc hs]
    refine congrArg Host.Outcome.next (settled_compared (comparePulse_retract_above ?_ ?_) ?_ hb hp)
    · rw [counting_group]; exact hg
    · rw [counting_group]; exact ha
    · exact counting_quiet (calm_iff.mp hc).2 g _

end Sys2Proof.Machine
end

section
/-! The end of a dwell time, and REFERENCE STROKES. -/

namespace Sys2Proof.Machine

/-! ## The end of a dwell time -/

theorem exec_dwellTimeExpiry (g : GroupIx) (s : State) :
    exec (.dwellTimeExpiry g) s = s.run fun t => (t.expireDwell g).settled := rfl

/-- A dwell time that is not running does not run out (log entry 7). -/
theorem expireDwell_stopped {s : State} {g : GroupIx} (h : (s.group g).state ≠ .returning ∨ (s.group g).dwell = none) :
    s.expireDwell g = s := by
  unfold State.expireDwell
  rcases h with h | h <;> simp [h]

theorem expireDwell_running {s : State} {g : GroupIx} (hg : (s.group g).state = .returning) (hd : (s.group g).dwell.isSome = true) :
    s.expireDwell g =
      (s.modGroup g Group.enterHold).waiting (s.notices ++ [.groupState g .hold none (s.group g).owner]) := by
  have hchange : s.expireDwell g = s.changeGroups fun k r => if k = g then r.enterHold else r := by
    simp [State.expireDwell, hg, hd]
  rw [hchange, changeGroups_one (by simp [hg, Group.enterHold])]
  rfl

/-! ## An arrival in HOLD -/

section
variable {s : State} {g : GroupIx} {pc : Piece}

/-- A piece that awaits another group too goes on awaiting it (R86, R90). -/
theorem arriveHold_awaiting (hs : (s.piece pc).state = .placed ∨ (s.piece pc).state = .releasing)
    (ho : (s.piece pc).awaited.filter (fun k => k != g) ≠ []) :
    s.arriveHold g pc = s.modPiece pc fun r => { r with awaited := (s.piece pc).awaited.filter fun k => k != g } := by
  rcases hs with hs | hs <;> simp [State.arriveHold, hs, ho]

/-- The last arrival of a PLACED piece makes it SET; the ring is not complete while another piece is not (R86). -/
theorem arriveHold_set (hs : (s.piece pc).state = .placed) (ho : (s.piece pc).awaited.filter (fun k => k != g) = [])
    (hother : ∃ q, q ≠ pc ∧ (s.piece q).state ≠ .set) :
    s.arriveHold g pc = (s.modPiece pc fun r => r.arrived .set).setEvent .pieceSet := by
  obtain ⟨q, hne, hq⟩ := hother
  have hpiece : ((s.modPiece pc fun r => r.arrived .set).setEvent .pieceSet).piece q = s.piece q :=
    (modPiece_piece s pc q _).trans (if_neg hne.symm)
  have hmem : q ∈ allPieces := by cases q <;> decide
  have hnot : ((s.modPiece pc fun r => r.arrived .set).setEvent .pieceSet).allSet = false :=
    List.all_eq_false.mpr ⟨q, hmem, by rw [hpiece]; simpa using hq⟩
  simp only [State.arriveHold, hs, ho, List.isEmpty_nil, if_true, hnot]
  rfl

/-- The last arrival of a RELEASING piece makes it PENDING (R90). -/
theorem arriveHold_released (hs : (s.piece pc).state = .releasing) (ho : (s.piece pc).awaited.filter (fun k => k != g) = []) :
    s.arriveHold g pc = (s.modPiece pc PieceRecord.toPending).setEvent .released := by
  simp [State.arriveHold, hs, ho]

end

/-- In a part at rest the end of a dwell time applies the arrival in HOLD and has the head of the claim queue examined. -/
theorem exec_dwellTimeExpiry_arrives {s r : State} {g : GroupIx} {pc : Piece} (hc : s.calm = true)
    (hg : (s.group g).state = .returning) (hd : (s.group g).dwell.isSome = true) (ho : (s.group g).owner = some pc)
    (hr : (s.modGroup g Group.enterHold).arriveHold g pc = r) (hq : r.quiet = true) :
    ∃ v, exec (.dwellTimeExpiry g) s = .next v ∧ r.examinesTo v := by
  obtain ⟨hawake, hquiet⟩ := calm_iff.mp hc
  obtain ⟨hu, hnotices⟩ := quiet_iff.mp hquiet
  have hunmarked : (s.modGroup g Group.enterHold).unmarked = none := (unmarked_of_watched rfl).trans hu
  have htake : ((s.modGroup g Group.enterHold).waiting []).take (.groupState g .hold none (some pc)) = r.examineHead := by
    rw [waiting_nil (s := s.modGroup g Group.enterHold) hnotices, ← hr]; rfl
  refine ⟨settle 3999 r.examineHead, ?_, examinesTo_settle hq (by omega)⟩
  rw [exec_dwellTimeExpiry, run_awake hawake, expireDwell_running hg hd, ho, hnotices, List.nil_append, State.settled, settleBound,
    settle_waiting hunmarked, htake]

/-- With an empty claim queue the examination of its head changes nothing. -/
theorem eq_of_examinesTo {s t : State} (hq : s.rbu.queue = []) (h : s.examinesTo t) : t = s := by
  unfold State.examinesTo at h
  rw [hq] at h
  exact h

/-- Settles O12: the one notice of the entry into HOLD is the arrival, and with an empty claim queue the head's examination is nothing. -/
theorem dwellExpiryMakesContact : Obligations.DwellExpiryMakesContact := by
  have harrives (s : State) (g : GroupIx) (pc : Piece) (hc : s.calm = true) (hg : (s.group g).state = .returning)
      (hd : (s.group g).dwell.isSome = true) (ho : (s.group g).owner = some pc) :
      let t := s.modGroup g Group.enterHold
      let others := (s.piece pc).awaited.filter fun h => h != g
      let becomes (r : State) : Prop := ∃ v, exec (.dwellTimeExpiry g) s = .next v ∧ r.examinesTo v
      ((s.piece pc).state = .placed ∨ (s.piece pc).state = .releasing → others ≠ [] →
        becomes (t.modPiece pc fun r => { r with awaited := others })) ∧
      ((s.piece pc).state = .placed → others = [] → (∃ q, q ≠ pc ∧ (s.piece q).state ≠ .set) →
        becomes ((t.modPiece pc fun r => r.arrived .set).setEvent .pieceSet)) ∧
      ((s.piece pc).state = .releasing → others = [] →
        becomes ((t.modPiece pc PieceRecord.toPending).setEvent .released)) := by
    have hquiet := quiet_modGroup (calm_iff.mp hc).2 g Group.enterHold
    refine ⟨fun hs hne => ?_, fun hs he hother => ?_, fun hs he => ?_⟩
    · exact exec_dwellTimeExpiry_arrives hc hg hd ho (arriveHold_awaiting (s := s.modGroup g Group.enterHold) hs hne)
        ((quiet_of_watched rfl rfl).trans hquiet)
    · exact exec_dwellTimeExpiry_arrives hc hg hd ho (arriveHold_set (s := s.modGroup g Group.enterHold) hs he hother)
        ((quiet_setEvent _ _).trans ((quiet_of_watched rfl rfl).trans hquiet))
    · exact exec_dwellTimeExpiry_arrives hc hg hd ho (arriveHold_released (s := s.modGroup g Group.enterHold) hs he)
        ((quiet_setEvent _ _).trans ((quiet_of_watched rfl rfl).trans hquiet))
  refine ⟨fun s g pc hc hq => ⟨fun h => ?_, fun hg hd ho => ?_⟩, harrives⟩
  · rw [exec_dwellTimeExpiry, run_awake (calm_iff.mp hc).1, expireDwell_stopped h, settled_of_quiet (calm_iff.mp hc).2]
  · have hbecomes {r : State} (hr : r.rbu.queue = []) (h : ∃ v, exec (.dwellTimeExpiry g) s = .next v ∧ r.examinesTo v) :
        exec (.dwellTimeExpiry g) s = .next r := by
      obtain ⟨v, hv, hexamines⟩ := h
      rw [hv, eq_of_examinesTo hr hexamines]
    obtain ⟨hawaiting, hset, hreleased⟩ := harrives s g pc hc hg hd ho
    exact ⟨fun hs hne => hbecomes hq (hawaiting hs hne), fun hs he hother => hbecomes hq (hset hs he hother),
      fun hs he => hbecomes hq (hreleased hs he)⟩

/-! ## REFERENCE STROKES -/

/-- What an accepted REFERENCE STROKES makes of the group table (R9). -/
def State.referencedGroups (s : State) (v : GroupIx → Nat) : Vector Group 10 := mapIx s.groups fun g r => r.reference (v g)

/-- REFERENCE STROKES changes no group's state but from LOCKED to HOLD. -/
theorem Group.reference_state (r : Group) (v : Nat) : (r.reference v).state = r.state ∨ r.state = .locked := by
  unfold Group.reference
  cases r.state <;> simp [Group.enterHold]

/-- Where no LOCKED group is owned, the state notices of REFERENCE STROKES tell of no arrival. -/
theorem noArrivals_reference {s : State} (h : ∀ g, (s.group g).state = .locked → (s.group g).owner = none) (v : GroupIx → Nat) :
    noArrivals (changeNotices s fun g r => r.reference (v g)) := by
  intro n hn
  obtain ⟨g, -, hg⟩ := List.mem_filterMap.mp hn
  split at hg
  · next hne =>
    have hlocked : (s.group g).state = .locked :=
      ((s.group g).reference_state (v g)).resolve_left fun he => (bne_iff_ne.mp hne) he.symm
    have hhold : ((s.group g).reference (v g)).state = .hold := by simp [Group.reference, hlocked, Group.enterHold]
    refine ⟨g, .hold, ((s.group g).reference (v g)).owner, (Option.some_inj.mp hg).symm.trans ?_⟩
    rw [Group.notice, hhold, h g hlocked]
  · cases hg

theorem requestReference_accepted {s : State} {v : GroupIx → Nat} (h : firstFailing (s.referenceChecks v) = none) :
    s.requestReference v =
      (({ s with groups := s.referencedGroups v } : State).waiting
        (s.notices ++ (changeNotices s fun g r => r.reference (v g)) ++ [.strokeChange]), .accepted) := by
  unfold State.requestReference
  rw [h]
  dsimp only
  rw [changeGroups_eq]
  rfl

theorem requestReference_refused {s : State} {v : GroupIx → Nat} {r : Reply} (h : firstFailing (s.referenceChecks v) = some r) :
    s.requestReference v = (s, r) := by
  unfold State.requestReference
  rw [h]

theorem exec_referenceStrokes_refused {s : State} {values : List Payload} {r : Reply} (hready : s.ready .cabin = true)
    (hl : values.length = 10) (h : firstFailing ((s.attended .cabin).referenceChecks (strokesOf values)) = some r) :
    exec (.referenceStrokes values) s = .next ((s.attended .cabin).answer .cabin 2 r) := by
  rw [exec_referenceStrokes_ten hl]
  exact run_refused hready (requestReference_refused h)

theorem exec_referenceStrokes_accepted {s : State} {values : List Payload} (hready : s.ready .cabin = true)
    (hl : values.length = 10) (hcycle : s.adu.cycle = .standstill) (hq : s.rbu.queue = [])
    (hlocked : ∀ g, (s.group g).state = .locked → (s.group g).owner = none)
    (h : firstFailing ((s.attended .cabin).referenceChecks (strokesOf values)) = none) :
    exec (.referenceStrokes values) s =
      .next (({ s.attended .cabin with groups := (s.attended .cabin).referencedGroups (strokesOf values) } : State).answer .cabin 2
        .accepted) := by
  obtain ⟨hawake, hquiet⟩ := ready_iff.mp hready
  obtain ⟨hu, hnotices⟩ := quiet_iff.mp hquiet
  have hfound : ((s.endFrame .cabin).renewPresence .cabin).settled = s.attended .cabin := settled_of_quiet hquiet
  rw [exec_referenceStrokes_ten hl, run_awake hawake, State.request, hfound, requestReference_accepted h, hnotices, List.nil_append]
  refine congrArg Host.Outcome.next ?_
  have hunmarked : (({ s.attended .cabin with groups := (s.attended .cabin).referencedGroups (strokesOf values) } : State).answer
      .cabin 2 .accepted).unmarked = none := (unmarked_of_watched (watched_answer ..)).trans hu
  have hmoves := settle_moves hunmarked hq (by show s.adu.cycle ≠ _; simp [hcycle]) (by show s.adu.cycle ≠ _; simp [hcycle])
    (changeNotices (s.attended .cabin) fun g r => r.reference (strokesOf values g))
    (noArrivals_reference (s := s.attended .cabin) hlocked _) 4000
    (by have := changeNotices_length (s.attended .cabin) fun g r => r.reference (strokesOf values g); omega)
  exact hmoves.trans (waiting_nil hnotices)

/-- A value of REFERENCE STROKES and its shift as the statements write them. -/
theorem Group.reference_eq (r : Group) (v : Nat) :
    r.reference v =
      let moved := { r with capture := r.capture + ((v : Int) - r.stroke), stroke := v, referenced := true, saturated := false }
      if r.state = GroupState.locked ∨ r.state = GroupState.hold then
        { moved with state := .hold, contactCapture := v, contact := true, owner := none, dwell := none }
      else moved := by
  cases hs : r.state <;> simp [Group.reference, hs, Group.enterHold, Group.shifted]

/-- Every group stands in its place among the groups of lower index and those of higher. -/
theorem allGroups_split (g : GroupIx) : ∃ l l', allGroups = l ++ g :: l' ∧ ∀ h ∈ l, h < g :=
  ⟨allGroups.take g, allGroups.drop (g + 1), by revert g; decide, by revert g; decide⟩

theorem firstFailing_append_some {l l' : List (Bool × Reply)} {r : Reply} (h : firstFailing l = some r) :
    firstFailing (l ++ l') = some r := by
  induction l with
  | nil => cases h
  | cons c l ih =>
    obtain ⟨ok, r'⟩ := c
    cases ok with
    | true => exact ih h
    | false => exact h

/-- Of checks made group by group, the first that fails is the one of lowest index. -/
theorem firstFailing_lowest {ok : GroupIx → Bool} {r : GroupIx → Reply} {g : GroupIx} (hg : ok g = false)
    (hlow : ∀ h, h < g → ok h = true) : firstFailing (allGroups.map fun h => (ok h, r h)) = some (r g) := by
  obtain ⟨l, l', hsplit, hl⟩ := allGroups_split g
  rw [hsplit, List.map_append, firstFailing_append_none (firstFailing_map_none.mpr fun h hm => hlow h (hl h hm)), List.map_cons, hg]
  rfl

theorem referenceChecks_standstill {s : State} (h : s.adu.cycle = .standstill) (v : GroupIx → Nat) :
    firstFailing (s.referenceChecks v) =
      firstFailing (allGroups.map (fun g => (decide (v g ≤ 32000), Reply.refusedRange (10 + g)))
        ++ allGroups.map (fun g => (captureInRange ((s.group g).shifted (v g)), Reply.refusedRange (20 + g)))) := by
  simp [State.referenceChecks, firstFailing, h]

theorem watched_countError (s : State) (st : Station) (c : ErrorCounter) :
    (s.modPort st fun p => p.countError c).watched = s.watched :=
  watched_modPort _ _ _ fun p => by cases c <;> exact ⟨rfl, rfl⟩

/-- A frame of another number of data words is a FRAME error, reason 2, counted as one (R159). -/
theorem exec_referenceStrokes_length {s : State} {values : List Payload} (hready : s.ready .cabin = true) (hl : values.length ≠ 10) :
    exec (.referenceStrokes values) s =
      .next (((s.attended .cabin).modPort .cabin fun p => p.countError .frame).answer .cabin 2
        { outcome := .frame, reason := 2, skip := 0 }) := by
  obtain ⟨hawake, hquiet⟩ := ready_iff.mp hready
  rw [exec_referenceStrokes, run_awake hawake, if_neg hl]
  have hboth : s.failFrame .cabin 2 { outcome := .frame, reason := 2, skip := 0 } .frame true =
      (((s.attended .cabin).modPort .cabin fun p => p.countError .frame).answer .cabin 2
        { outcome := .frame, reason := 2, skip := 0 }).settled := by
    unfold State.failFrame State.answer
    simp only [State.modPort, modAt_modAt]
    rfl
  rw [hboth, settled_of_quiet]
  exact (quiet_answer ..).trans ((quiet_of_watched (watched_countError ..) rfl).trans hquiet)

/-- Settles O22: the checks pass or the first one that fails answers, and an accepted request sets no arrival going. -/
theorem referenceStrokesSetTheStrokes : Obligations.ReferenceStrokesSetTheStrokes := by
  refine ⟨fun s values hready hl => ⟨fun hcycle => ?_, fun hcycle hq hv hb howner => ?_⟩,
    fun s values g hready => ⟨fun hl => exec_referenceStrokes_length hready hl, fun hl hcycle hg hlow => ?_,
      fun hl hcycle hv hg hlow => ?_⟩⟩
  · refine exec_referenceStrokes_refused hready hl ?_
    have hnot : ((s.attended .cabin).adu.cycle == .standstill) = false := beq_false_of_ne hcycle
    simp [State.referenceChecks, firstFailing, hnot]
  · rw [exec_referenceStrokes_accepted hready hl hcycle hq (fun g hg => howner g (.inl hg))
      (referenceChecks_pass hcycle (strokesOf_bound hl hv) hb)]
    refine congrArg (fun gs => Host.Outcome.next (State.answer { s.attended .cabin with groups := gs } .cabin 2 .accepted)) ?_
    exact mapIx_congr fun g => Group.reference_eq _ _
  · refine exec_referenceStrokes_refused hready hl ((referenceChecks_standstill hcycle _).trans (firstFailing_append_some ?_))
    exact firstFailing_lowest (r := fun g => Reply.refusedRange (10 + g)) (by simpa using hg) fun h hlt => by simpa using hlow h hlt
  · refine exec_referenceStrokes_refused hready hl ((referenceChecks_standstill hcycle _).trans ?_)
    rw [firstFailing_append_none (firstFailing_map_none.mpr fun h _ => decide_eq_true (hv h))]
    exact firstFailing_lowest (r := fun g => Reply.refusedRange (20 + g)) hg hlow

end Sys2Proof.Machine
end

section
/-! The assertion of emergency stop: the cycle is dropped, and nothing that it sets going takes the cycle up again. -/

namespace Sys2Proof.Machine

/-! ## What leaves a stopped cycle stopped -/

/-- Outside SPINUP, BORING, PAUSED and RUNDOWN, `t` is there too and has the same last stop cause; no event flag has fallen. -/
structure Parked (s t : State) : Prop where
  parked : s.adu.cycle.underWay = false → t.adu.cycle.underWay = false ∧ t.adu.lastStop = s.adu.lastStop
  events : ∀ e, s.eventSet e = true → t.eventSet e = true

namespace Parked

theorem of_same {s t : State} (ha : t.adu = s.adu) (hp : t.ports = s.ports) : Parked s t where
  parked h := by rw [ha]; exact ⟨h, rfl⟩
  events e he := by rw [State.eventSet, State.port, hp]; exact he

theorem refl (s : State) : Parked s s := of_same rfl rfl

theorem trans {s t u : State} (h : Parked s t) (k : Parked t u) : Parked s u where
  parked hs :=
    have ⟨ht, hcause⟩ := h.parked hs
    have ⟨hu, hcause'⟩ := k.parked ht
    ⟨hu, hcause'.trans hcause⟩
  events e he := k.events e (h.events e he)

theorem of_downstream {s t : State} (h : Downstream s t) : Parked s t where
  parked hs := by rw [h.eq]; exact ⟨hs, rfl⟩
  events := h.events

theorem setEvent (s : State) (e : Event) : Parked s (s.setEvent e) := of_downstream (Downstream.setEvent s e)

theorem changeGroups (s : State) (f : GroupIx → Group → Group) : Parked s (s.changeGroups f) := by
  rw [changeGroups_eq]; exact of_same rfl rfl

theorem modRbu (s : State) (f : RingBuild → RingBuild) : Parked s (s.modRbu f) := of_same rfl rfl

theorem modRecord (s : State) (f : RingRecord → RingRecord) : Parked s (s.modRecord f) := of_same rfl rfl

theorem modPiece (s : State) (pc : Piece) (f : PieceRecord → PieceRecord) : Parked s (s.modPiece pc f) := of_same rfl rfl

theorem restartDwells (s : State) : Parked s s.restartDwells := ite_along (refl s) (of_same rfl rfl)

theorem resumeTimers (s : State) : Parked s s.resumeTimers := ite_along (refl s) (modRecord s _)

theorem enterStandstill (s : State) : Parked s s.enterStandstill := by
  have hentered : Parked s ((s.modAdu fun a => { a with cycle := .standstill, permitKept := false }).judgeRate) :=
    ⟨fun _ => ⟨rfl, rfl⟩, fun _ h => h⟩
  exact hentered.trans (of_downstream ((Downstream.judgeKeys _ _).trans (Downstream.flush _)))

theorem takeCompletion (s : State) : Parked s s.takeCompletion := by
  have hpending : Parked s (s.modAdu fun a => { a with ringStartPending := true }) := ⟨fun h => ⟨h, rfl⟩, fun _ h => h⟩
  exact hpending.trans (ite_along (enterStandstill _) (refl _))

theorem grant (s : State) (pc : Piece) : Parked s (s.grant pc) :=
  (modPiece s pc _).trans ((setEvent _ _).trans (changeGroups _ _))

theorem examineHead (s : State) : Parked s s.examineHead := by
  unfold State.examineHead
  split
  · exact refl s
  · split
    · exact refl s
    · exact (modRbu s _).trans (grant _ _)

theorem completeRing (s : State) : Parked s s.completeRing :=
  (modRecord s _).trans ((modRbu _ _).trans ((of_downstream (Downstream.judgeKeys _ _)).trans ((setEvent _ _).trans
    (takeCompletion _))))

theorem arriveClear (s : State) (g : GroupIx) (pc : Piece) : Parked s (s.arriveClear g pc) :=
  ite_along (refl s) (ite_along ((modPiece s pc _).trans (setEvent _ _)) (modPiece s pc _))

theorem arriveHold (s : State) (g : GroupIx) (pc : Piece) : Parked s (s.arriveHold g pc) := by
  unfold State.arriveHold
  dsimp only
  split
  · have hset := (modPiece s pc fun r => r.arrived .set).trans (setEvent _ .pieceSet)
    exact ite_along (ite_along (hset.trans (completeRing _)) hset) (modPiece s pc _)
  · exact ite_along ((modPiece s pc _).trans (setEvent _ _)) (modPiece s pc _)
  · exact refl s

theorem takeGroupState (s : State) (g : GroupIx) (st : GroupState) (arrived : Option Piece) :
    Parked s (s.takeGroupState g st arrived) := by
  refine trans ?_ (examineHead _)
  split
  · exact arriveClear s g _
  · exact arriveHold s g _
  · exact refl s

end Parked

/-! ## What is taken in a stopped cycle -/

section
variable {s : State} (h : s.adu.cycle.underWay = false)
include h

theorem takeStrokeChange_parked : s.takeStrokeChange = s := by
  unfold State.takeStrokeChange
  cases hc : s.adu.cycle <;> simp_all [Cycle.underWay]

theorem takeStrokeEnd_parked : s.takeStrokeEnd = s := by
  unfold State.takeStrokeEnd
  cases hc : s.adu.cycle <;> simp_all [Cycle.underWay]

theorem takeHalt_parked : s.takeHalt = s := by
  unfold State.takeHalt
  cases hc : s.adu.cycle <;> simp_all [Cycle.underWay]

theorem takeHaltLift_parked : s.takeHaltLift = s := by
  unfold State.takeHaltLift
  cases hc : s.adu.cycle <;> simp_all [Cycle.underWay]

theorem Parked.take (n : Notice) : Parked s (s.take n) := by
  cases n with
  | strokeChange => rw [State.take, takeStrokeChange_parked h]; exact refl s
  | strokeEnd g => rw [State.take, takeStrokeEnd_parked h]; exact refl s
  | groupState g st owner arrived => exact takeGroupState s g st arrived
  | actionEnters a =>
    unfold State.take State.takeEntering
    dsimp only
    split
    · rw [takeHalt_parked h]; exact refl s
    · rw [takeHalt_parked h]; exact refl s
    · exact of_downstream (Downstream.judgePermit s)
    · exact of_same rfl rfl
    · exact of_downstream ((LineWork.holdLine s _).trans (LineWork.judgeGrout _)).downstream
  | actionLeaves a =>
    refine trans ?_ (examineHead _)
    split
    · rw [takeHaltLift_parked h]; exact refl s
    · rw [takeHaltLift_parked h]; exact refl s
    · exact of_downstream (Downstream.judgePermit s)
    · exact (restartDwells s).trans (resumeTimers _)
    · exact of_downstream ((LineWork.releaseLine s _).trans (LineWork.judgeGrout _)).downstream
  | blockedRemoved p => exact of_downstream ((LineWork.unblockLine s p).trans (LineWork.judgeGrout _)).downstream

/-- What is set going in a stopped cycle leaves it stopped. -/
theorem Parked.settled : Parked s s.settled := by
  refine settle_keeps (fun t => Parked s t) (fun t key ht => ht.trans (of_downstream (FaultWork.report t key).downstream))
    (fun t n rest _ ht => ?_) _ s (refl s)
  have hwaiting : Parked t { t with notices := rest } := of_same rfl rfl
  have hparked : ({ t with notices := rest } : State).adu.cycle.underWay = false := (ht.parked h).1
  exact ht.trans (hwaiting.trans (Parked.take hparked n))

end

/-! ## The drop of the cycle -/

/-- The cycle stopped, its cause ESTOP where it was under way as `a` has it, and the event ESTOP set (R49). -/
def State.stoppedFrom (s : State) (a : Advance) : Prop :=
  s.adu.cycle.underWay = false ∧ s.adu.lastStop = (if a.cycle.underWay then .estop else a.lastStop) ∧ s.eventSet .estop = true

theorem Parked.stoppedFrom {s t : State} (h : Parked s t) {a : Advance} (hs : s.stoppedFrom a) : t.stoppedFrom a := by
  obtain ⟨hstop, hcause, hevent⟩ := hs
  obtain ⟨hstopped, hsame⟩ := h.parked hstop
  exact ⟨hstopped, hsame.trans hcause, h.events _ hevent⟩

theorem enterStandstill_stops {s : State} {a : Advance} (hcause : s.adu.lastStop = if a.cycle.underWay then .estop else a.lastStop)
    (hevent : s.eventSet .estop = true) : s.enterStandstill.stoppedFrom a := by
  have hlater : Downstream ((s.modAdu fun a => { a with cycle := .standstill, permitKept := false }).judgeRate) s.enterStandstill :=
    (Downstream.judgeKeys _ _).trans (Downstream.flush _)
  exact (Parked.of_downstream hlater).stoppedFrom ⟨rfl, hcause, hevent⟩

/-- The ADU's response to emergency stop leaves SPINUP, BORING, PAUSED and RUNDOWN for STANDSTILL (R49). -/
theorem dropCycle_stops (s : State) : s.dropCycle.stoppedFrom s.adu := by
  have hevent : (s.setEvent .estop).eventSet .estop = true := setEvent_eventSet s _ _ (.inl rfl)
  unfold State.dropCycle
  dsimp only
  cases hw : s.adu.cycle.underWay with
  | false => rw [if_neg (by simp [hw])]; exact ⟨hw, by rw [hw]; rfl, hevent⟩
  | true =>
    rw [if_pos (by simpa using hw)]
    refine enterStandstill_stops (by rw [hw]; rfl) ?_
    exact (Parked.changeGroups (s.setEvent .estop) fun _ r => if r.state == .push then r.enterHold else r).events _ hevent

theorem Downstream.stoppedFrom {s t u : State} (h : Downstream s t) (hu : u.stoppedFrom t.adu) : u.stoppedFrom s.adu := by
  rwa [h.eq] at hu

/-- Every block's response to emergency stop leaves the cycle stopped (R49). -/
theorem assertStop_stops (s : State) : s.assertStop.stoppedFrom s.adu := by
  have hlines (t : State) : Downstream t t.idleLines.judgePermit :=
    (LineWork.idleLines t).downstream.trans (Downstream.judgePermit _)
  have htimers (t : State) : t.stopDwells.suspendTimers.dropCycle.stoppedFrom t.adu := dropCycle_stops t.stopDwells.suspendTimers
  have hjudged (t : State) : Parked t t.judgeGrout.judgeRate :=
    .of_downstream ((Downstream.judgeGrout t).trans (Downstream.judgeRate _))
  have hdrop (t : State) : t.idleLines.judgePermit.stopDwells.suspendTimers.dropCycle.judgeGrout.judgeRate.stoppedFrom t.adu :=
    (hjudged _).stoppedFrom ((hlines t).stoppedFrom (htimers _))
  exact hdrop { s with estop := true }

/-! ## The outputs under emergency stop -/

theorem Cycle.underWay_eq_false {c : Cycle} (h : c.underWay = false) : c = .standstill ∨ c = .ringBuild := by
  cases c <;> simp_all [Cycle.underWay]

/-- While emergency stop is asserted every permit, valve and rate output is off and every group is driven BLOCK (R13, R154). -/
theorem outputs_stopped {s : State} (h : s.estop = true) :
    s.tperm = false ∧ s.lvl = 0 ∧ s.cperm = false ∧ s.bperm = false ∧ (∀ p, s.gv p = false) ∧ ∀ g, s.valveMode g = .block := by
  simp [State.tperm, State.lvl, State.cperm, State.bperm, State.gv, State.valveMode, h]

theorem direct_estop (s : State) : s.direct.estop = s.estop := rfl

theorem exec_estopAssert {s : State} (hr : s.resetActive = false) (he : s.estop = false) :
    exec .estopAssert s = .next s.assertStop.settled := by
  simp [exec, execEstopAssert, hr, he]

/-- Settles O16: the drop leaves the cycle stopped, and whatever notices follow are taken in a stopped cycle. -/
theorem emergencyStopDropsTheCycle : Obligations.EmergencyStopDropsTheCycle := by
  intro s hr he
  have hdirect : s.assertStop.settled.direct = { s.direct with estop := true } := (direct_settled _).trans (direct_assertStop s)
  have hassert := assertStop_stops s
  obtain ⟨hstop, hcause, hevent⟩ := (Parked.settled hassert.1).stoppedFrom hassert
  have hestop : s.assertStop.settled.estop = true := by rw [← direct_estop, hdirect]
  exact ⟨_, exec_estopAssert hr he, hdirect, Cycle.underWay_eq_false hstop, hcause, hevent, outputs_stopped hestop⟩

end Sys2Proof.Machine
end

section
/-! Emergency stop at rest: which conditions are as they are marked while the lines of the GRU are sent to other phases. -/

namespace Sys2Proof.Machine

/-! ## Conditions that are as they are marked -/

/-- The condition of the key is as the condition table marks it. -/
def State.agrees (s : State) (key : FaultKey) : Prop := s.condition key = s.fsv.marked key

theorem mem_measuredKeys {key : FaultKey} (h : key.measured = true) : key ∈ measuredKeys := by
  cases key with
  | measInvalid m => fin_cases m <;> decide
  | stationSilent st => cases st <;> decide
  | torqueHigh | faceLow | faceHigh => decide
  | contactLoss | claimTimeout | groutBlocked | groutGap | overexc | underexc | measJump => cases h

theorem unmarked_none_iff {s : State} : s.unmarked = none ↔ ∀ key ∈ measuredKeys, s.agrees key := by
  simp [State.unmarked, State.agrees, List.find?_eq_none]

theorem agrees_of_quiet {s : State} (h : s.quiet = true) {key : FaultKey} (hm : key.measured = true) : s.agrees key :=
  unmarked_none_iff.mp (quiet_iff.mp h).1 key (mem_measuredKeys hm)

theorem agrees_of_watched {s t : State} (h : s.watched = t.watched) (key : FaultKey) : s.agrees key ↔ t.agrees key := by
  rw [State.agrees, State.agrees, condition_of_watched h, Faults.marked, Faults.marked,
    show s.fsv.marks = t.fsv.marks from congrArg Watched.marks h]

/-- Conditions that are as they are marked are not reported. -/
theorem judgeKeys_of_agrees {s : State} {keys : List FaultKey} (h : ∀ key ∈ keys, s.agrees key) : s.judgeKeys keys = s := by
  unfold State.judgeKeys
  induction keys with
  | nil => rfl
  | cons key keys ih =>
    have hsame : s.condition key = s.fsv.marked key := h key List.mem_cons_self
    rw [List.foldl_cons, if_neg (by simp [hsame])]
    exact ih fun k hk => h k (List.mem_cons_of_mem _ hk)

/-! ## The marks that a judgment leaves alone -/

theorem foldl_sends_fsv {α : Type} (c : α → Bool) (n : α → Notice) (l : List α) (s : State) :
    (l.foldl (fun t a => if c a then t.send (n a) else t) s).fsv = s.fsv := by
  induction l generalizing s with
  | nil => rfl
  | cons a l ih => rw [List.foldl_cons, ih]; split <;> rfl

theorem announce_fsv (s : State) (before : Faults) : (s.announce before).fsv = s.fsv :=
  (foldl_sends_fsv _ Notice.actionLeaves _ _).trans (foldl_sends_fsv _ Notice.actionEnters _ s)

theorem raisedList_marks (s : State) (key : FaultKey) (mode : Nat) : (s.raisedList key mode).marks = s.fsv.marks := by
  unfold State.raisedList
  dsimp only
  split
  · rfl
  · split
    · rfl
    · split <;> rfl

theorem offerFirst_marks (s : State) (key : FaultKey) : (s.offerFirst key).fsv.marks = s.fsv.marks := by
  unfold State.offerFirst; split <;> rfl

theorem setDomainEvent_fsv (s : State) (key : FaultKey) : (s.setDomainEvent key).fsv = s.fsv := by
  unfold State.setDomainEvent; split <;> rfl

theorem answerBlocked_fsv (s : State) (key : FaultKey) : (s.answerBlocked key).fsv = s.fsv := by
  unfold State.answerBlocked
  split
  · split <;> rfl
  · rfl

theorem raise_marks (s : State) (key : FaultKey) : (s.raise key).fsv.marks = (s.countRaise key).fsv.marks := by
  unfold State.raise
  rw [answerBlocked_fsv, announce_fsv]
  unfold State.raiseUnder
  dsimp only
  split
  · rw [setDomainEvent_fsv, setEvent_fsv, offerFirst_marks]
    exact raisedList_marks ..
  · exact raisedList_marks ..

theorem report_marks (s : State) (key : FaultKey) :
    (s.report key).fsv.marks = s.fsv.marks ∨ ∃ b, (s.report key).fsv.marks = modAt s.fsv.marks key.idx fun _ => b := by
  unfold State.report
  split
  · rw [raise_marks]
    unfold State.countRaise State.modFsv
    dsimp only
    split
    · exact .inr ⟨true, rfl⟩
    · exact .inl rfl
  · unfold State.clearCondition
    rw [announce_fsv]
    exact .inr ⟨false, rfl⟩

/-- A report changes the mark of its own key alone (R142, R144). -/
theorem report_marked (s : State) {key other : FaultKey} (h : key.idx ≠ other.idx) :
    (s.report key).fsv.marked other = s.fsv.marked other := by
  unfold Faults.marked
  rcases report_marks s key with hsame | ⟨b, hset⟩
  · simp only [hsame]
  · simp only [hset, modAt_getElem, if_neg h]

theorem judgeKeys_marked (s : State) {keys : List FaultKey} {other : FaultKey} (h : ∀ key ∈ keys, key.idx ≠ other.idx) :
    (s.judgeKeys keys).fsv.marked other = s.fsv.marked other := by
  unfold State.judgeKeys
  induction keys generalizing s with
  | nil => rfl
  | cons key keys ih =>
    rw [List.foldl_cons, ih _ fun k hk => h k (List.mem_cons_of_mem _ hk)]
    split
    · exact report_marked s (h key List.mem_cons_self)
    · rfl

/-! ## The lines of the GRU in other phases -/

/-- The part with these tail line records. -/
def State.withLines (s : State) (v : Vector Line 6) : State := { s with gru := { s.gru with lines := v } }

/-- A phase in which a line obliges the grout station to be present (Table 9-5). -/
def Phase.obliges (ph : Phase) : Bool := ph.injecting || ph == .satisfied

theorem condition_pressure (s : State) (p : LineIx) :
    s.condition (.measInvalid (pressureMeas p)) = ((s.line p).phase.injecting && (s.supply (pressureMeas p)).isNone) := by
  fin_cases p <;> rfl

theorem condition_counter (s : State) (p : LineIx) :
    s.condition (.measInvalid (counterMeas p)) = ((s.line p).phase.injecting && (s.supply (counterMeas p)).isNone) := by
  fin_cases p <;> rfl

theorem condition_grout (s : State) :
    s.condition (.stationSilent .grout) =
      (!(s.port .grout).present && (s.adu.cycle == .boring || allLines.any fun p => (s.line p).phase.obliges)) := rfl

theorem measured_of_mem_lineKeys {p : LineIx} {key : FaultKey} (h : key ∈ lineKeys p) : key.measured = true := by
  simp only [lineKeys, List.mem_cons, List.not_mem_nil, or_false] at h
  rcases h with rfl | rfl | rfl <;> rfl

theorem measured_of_mem_beltKeys {key : FaultKey} (h : key ∈ beltKeys) : key.measured = true := by
  simp only [beltKeys, List.mem_cons, List.not_mem_nil, or_false] at h
  rcases h with rfl | rfl <;> rfl

theorem any_mono {α : Type} {l : List α} {f g : α → Bool} (h : ∀ a, f a = true → g a = true) (hf : l.any f = true) :
    l.any g = true := by
  obtain ⟨a, ha, hfa⟩ := List.any_eq_true.mp hf
  exact List.any_eq_true.mpr ⟨a, ha, h a hfa⟩

/-- The grout station's silence agrees between two states in which it agrees. -/
theorem agrees_grout_between {s : State} {u v w : Vector Line 6} (huv : ∀ p : LineIx, u[p].phase.obliges = true → v[p].phase.obliges = true)
    (hvw : ∀ p : LineIx, v[p].phase.obliges = true → w[p].phase.obliges = true)
    (hu : (s.withLines u).agrees (.stationSilent .grout)) (hw : (s.withLines w).agrees (.stationSilent .grout)) :
    (s.withLines v).agrees (.stationSilent .grout) := by
  unfold State.agrees at *
  rw [condition_grout] at *
  have hup (h : (allLines.any fun p => u[p].phase.obliges) = true) : (allLines.any fun p => v[p].phase.obliges) = true := any_mono huv h
  have hdown (h : (allLines.any fun p => v[p].phase.obliges) = true) : (allLines.any fun p => w[p].phase.obliges) = true := any_mono hvw h
  change (!(s.port .grout).present && (s.adu.cycle == .boring || allLines.any fun p => u[p].phase.obliges)) = s.fsv.marked _ at hu
  change (!(s.port .grout).present && (s.adu.cycle == .boring || allLines.any fun p => w[p].phase.obliges)) = s.fsv.marked _ at hw
  change (!(s.port .grout).present && (s.adu.cycle == .boring || allLines.any fun p => v[p].phase.obliges)) = s.fsv.marked _
  cases hc : allLines.any fun p => u[p].phase.obliges with
  | true => rw [hup hc, ← hc]; exact hu
  | false =>
    cases hd : allLines.any fun p => v[p].phase.obliges with
    | true => rw [hdown hd] at hw; exact hw
    | false => rw [hc] at hu; exact hu

/-- The conditions of a line's phase agree where they agree in that phase, the grout station's beside them. -/
theorem judgeKeys_lineKeys {s : State} {v w : Vector Line 6} {p : LineIx} (hphase : v[p].phase = w[p].phase)
    (hw : ∀ key ∈ lineKeys p, (s.withLines w).agrees key) (hgrout : (s.withLines v).agrees (.stationSilent .grout)) :
    (s.withLines v).judgeKeys (lineKeys p) = s.withLines v := by
  have hline : ((s.withLines v).line p).phase = ((s.withLines w).line p).phase := hphase
  have hpressure := hw (.measInvalid (pressureMeas p)) (by simp [lineKeys])
  have hcounter := hw (.measInvalid (counterMeas p)) (by simp [lineKeys])
  unfold State.agrees at hpressure hcounter
  rw [condition_pressure, ← hline] at hpressure
  rw [condition_counter, ← hline] at hcounter
  refine judgeKeys_of_agrees fun key hkey => ?_
  simp only [lineKeys, List.mem_cons, List.not_mem_nil, or_false] at hkey
  rcases hkey with rfl | rfl | rfl
  · exact (condition_pressure _ p).trans hpressure
  · exact (condition_counter _ p).trans hcounter
  · exact hgrout

/-- Between the lines `v` before and `w` after a change of phases in one direction, the conditions of a line already changed agree. -/
theorem judgeKeys_lineKeys_between {s : State} {u v w : Vector Line 6} {p : LineIx}
    (hmono : (∀ q : LineIx, w[q].phase.obliges = true → v[q].phase.obliges = true) ∨
      ∀ q : LineIx, v[q].phase.obliges = true → w[q].phase.obliges = true)
    (hu : ∀ q : LineIx, u[q] = v[q] ∨ u[q] = w[q]) (hp : u[p] = w[p])
    (hv : (s.withLines v).agrees (.stationSilent .grout)) (hw : ∀ key ∈ lineKeys p, (s.withLines w).agrees key) :
    (s.withLines u).judgeKeys (lineKeys p) = s.withLines u := by
  have hgrout := hw (.stationSilent .grout) (by simp [lineKeys])
  refine judgeKeys_lineKeys (congrArg Line.phase hp) hw ?_
  rcases hmono with hfalls | hrises
  · refine agrees_grout_between (fun q h => ?_) (fun q h => ?_) hgrout hv
    · rcases hu q with hq | hq <;> rw [hq]
      · exact hfalls q h
      · exact h
    · rcases hu q with hq | hq <;> rw [hq] at h
      · exact h
      · exact hfalls q h
  · refine agrees_grout_between (fun q h => ?_) (fun q h => ?_) hv hgrout
    · rcases hu q with hq | hq <;> rw [hq]
      · exact h
      · exact hrises q h
    · rcases hu q with hq | hq <;> rw [hq] at h
      · exact hrises q h
      · exact h

/-! ## One line after another -/

theorem modAt_congr {α : Type} {n : Nat} {t : Vector α n} {i : Fin n} {f f' : α → α} (h : f t[i] = f' t[i]) :
    modAt t i f = modAt t i f' := by
  unfold modAt; rw [h]

theorem modAt_fixed {α : Type} {n : Nat} {t : Vector α n} {i : Fin n} {f : α → α} (h : f t[i] = t[i]) : modAt t i f = t := by
  unfold modAt
  rw [h]
  exact Vector.set_getElem_self i.isLt

theorem mapIx_cons {α : Type} {n : Nat} (t : Vector α n) {i : Fin n} {l : List (Fin n)} (h : i ∉ l) (f : Fin n → α → α) :
    (mapIx (modAt t i (f i)) fun j a => if j ∈ l then f j a else a) = mapIx t fun j a => if j ∈ i :: l then f j a else a := by
  ext j hj : 1
  have hl := mapIx_getElem (modAt t i (f i)) (fun j a => if j ∈ l then f j a else a) ⟨j, hj⟩
  have hm := modAt_getElem t i ⟨j, hj⟩ (f i)
  have hr := mapIx_getElem t (fun j a => if j ∈ i :: l then f j a else a) ⟨j, hj⟩
  simp only [Fin.getElem_fin] at hl hm hr
  rw [hl, hr, hm]
  by_cases hi : i = ⟨j, hj⟩
  · subst hi; simp [h]
  · simp [hi, Ne.symm hi]

section
variable {α σ : Type} {mk : Vector α 6 → σ} {v : Vector α 6} {f : LineIx → α → α} {turn : σ → LineIx → σ}

/-- Where the turn of each line changes the record of that line alone, by `f`, the turns of the lines of a list change those by it. -/
theorem foldl_turns
    (h : ∀ (u : Vector α 6) (p : LineIx), u[p] = v[p] → (∀ q : LineIx, u[q] = v[q] ∨ u[q] = f q v[q]) →
      turn (mk u) p = mk (modAt u p (f p)))
    (l : List LineIx) (hl : l.Nodup) (u : Vector α 6) (hrest : ∀ q ∈ l, u[q] = v[q])
    (hu : ∀ q : LineIx, u[q] = v[q] ∨ u[q] = f q v[q]) :
    l.foldl turn (mk u) = mk (mapIx u fun q a => if q ∈ l then f q a else a) := by
  induction l generalizing u with
  | nil => simp [mapIx]
  | cons p l ih =>
    obtain ⟨hp, hl⟩ := List.nodup_cons.mp hl
    have hturn := hrest p List.mem_cons_self
    have hchanged (q : LineIx) : (modAt u p (f p))[q] = if p = q then f p u[q] else u[q] := modAt_getElem u p q (f p)
    rw [List.foldl_cons, h u p hturn hu, ih hl _ (fun q hq => ?_) (fun q => ?_), mapIx_cons u hp]
    · rw [hchanged, if_neg (show p ≠ q from fun he => hp (he ▸ hq))]
      exact hrest q (List.mem_cons_of_mem _ hq)
    · rw [hchanged]
      split
      · next he => subst he; rw [hturn]; exact .inr rfl
      · exact hu q

theorem mem_allLines (p : LineIx) : p ∈ allLines := by fin_cases p <;> decide

theorem foldl_allLines
    (h : ∀ (u : Vector α 6) (p : LineIx), u[p] = v[p] → (∀ q : LineIx, u[q] = v[q] ∨ u[q] = f q v[q]) →
      turn (mk u) p = mk (modAt u p (f p))) :
    allLines.foldl turn (mk v) = mk (mapIx v f) := by
  rw [foldl_turns h allLines (by decide) v (fun _ _ => rfl) fun _ => .inl rfl]
  simp only [mem_allLines, if_true]

end

/-- A line's turn enters a phase that is one of a change of phases in one direction; nothing is reported. -/
theorem enterPhase_turn {s : State} {u v : Vector Line 6} {f : LineIx → Line → Line} {p : LineIx}
    (hmono : (∀ q : LineIx, (f q v[q]).phase.obliges = true → v[q].phase.obliges = true) ∨
      ∀ q : LineIx, v[q].phase.obliges = true → (f q v[q]).phase.obliges = true)
    (hp : u[p] = v[p]) (hu : ∀ q : LineIx, u[q] = v[q] ∨ u[q] = f q v[q])
    (hv : (s.withLines v).agrees (.stationSilent .grout)) (hw : ∀ key ∈ lineKeys p, (s.withLines (mapIx v f)).agrees key)
    (g : Line → Line) (hg : g v[p] = f p v[p]) :
    ((s.withLines u).modLine p g).judgeKeys (lineKeys p) = s.withLines (modAt u p (f p)) := by
  have hmap (q : LineIx) : (mapIx v f)[q] = f q v[q] := mapIx_getElem v f q
  have hchanged (q : LineIx) : (modAt u p (f p))[q] = if p = q then f p u[q] else u[q] := modAt_getElem u p q (f p)
  have hsame : g u[p] = f p u[p] := by rw [hp, hg]
  have hline : (s.withLines u).modLine p g = s.withLines (modAt u p (f p)) := congrArg s.withLines (modAt_congr hsame)
  rw [hline]
  refine judgeKeys_lineKeys_between (v := v) (w := mapIx v f) ?_ (fun q => ?_) ?_ hv hw
  · simpa only [hmap] using hmono
  · rw [hchanged, hmap]
    split
    · next he => subst he; rw [hp]; exact .inr rfl
    · exact hu q
  · rw [hchanged, hmap, if_pos rfl, hp]

end Sys2Proof.Machine
end

section
/-! Emergency stop outside the cutting states, and its release. -/

namespace Sys2Proof.Machine

/-! ## The lines under emergency stop -/

/-- A line in PRIME, FLOW, LIMIT or SATISFIED is sent to IDLE (R111). -/
def Line.idled (l : Line) : Line :=
  if l.phase ∈ [Phase.prime, .flow, .limit, .satisfied] then { l with phase := .idle, valve := false, setpoint := 0 } else l

theorem Phase.idles_iff (ph : Phase) : ph.idles = true ↔ ph ∈ [Phase.prime, .flow, .limit, .satisfied] := by
  cases ph <;> decide

theorem Line.idled_obliges (l : Line) (h : l.idled.phase.obliges = true) : l.phase.obliges = true := by
  unfold Line.idled at h
  split at h
  · cases h
  · exact h

/-- The lines that inject or are satisfied are idled, and no condition comes or goes with it (R111). -/
theorem idleLines_eq {s : State} (hv : s.agrees (.stationSilent .grout))
    (hw : ∀ p, ∀ key ∈ lineKeys p, (s.withLines (mapIx s.gru.lines fun _ l => l.idled)).agrees key) :
    s.idleLines = s.withLines (mapIx s.gru.lines fun _ l => l.idled) := by
  refine foldl_allLines (mk := s.withLines) (v := s.gru.lines) (f := fun _ l => l.idled) fun u p hp hu => ?_
  have hline : (s.withLines u).line p = s.gru.lines[p] := hp
  by_cases hi : (s.gru.lines[p]).phase.idles = true
  · have hidled : (s.gru.lines[p]).idled = { s.gru.lines[p] with phase := .idle, valve := false, setpoint := 0 } :=
      if_pos ((Phase.idles_iff _).mp hi)
    rw [State.idleLine, hline, if_pos hi]
    exact enterPhase_turn (.inl fun q => Line.idled_obliges _) hp hu hv (hw p)
      (fun l => { l with phase := .idle, valve := false, setpoint := 0 }) hidled.symm
  · have hkept : (u[p]).idled = u[p] := by rw [hp]; exact if_neg fun h => hi ((Phase.idles_iff _).mpr h)
    rw [State.idleLine, hline, if_neg hi]
    exact congrArg s.withLines (modAt_fixed hkept).symm

/-! ## The belt permit and the pieces -/

/-- A removed belt permit stays removed under emergency stop, and the muck unit's limiter is 0 (R123, R124). -/
theorem judgePermit_stopped {s : State} (he : s.estop = true) (hb : s.mku.beltPermit = false) (hkeys : ∀ key ∈ beltKeys, s.agrees key) :
    s.judgePermit = (s.modMku fun k => { k with lMuck := 0 }).judgeRate := by
  have hnot : s.permitFor = false := by
    unfold State.permitFor
    split
    · simp [he]
    · rfl
  have hremoved : (s.modMku fun k => { k with beltPermit := false, lMuck := 0 }) = s.modMku fun k => { k with lMuck := 0 } := by
    unfold State.modMku
    rw [← hb]
  unfold State.judgePermit
  dsimp only
  rw [hnot, hb, Bool.false_and, if_neg Bool.false_ne_true, if_neg Bool.false_ne_true, hremoved]
  exact judgeKeys_of_agrees fun key hkey => (agrees_of_watched rfl key).mpr (hkeys key hkey)

theorem stopDwells_eq (s : State) :
    s.stopDwells =
      { s with groups := mapIx s.groups fun _ (r : Group) => if r.state = .returning then { r with dwell := none } else r } := by
  simp only [State.stopDwells, beq_iff_eq]

theorem suspendTimers_eq (s : State) :
    s.suspendTimers = s.modRecord fun r =>
      { r with pieces := mapIx r.pieces fun _ (q : PieceRecord) =>
          if q.timer.state = .running then { q with timer := { q.timer with state := .suspended } } else q } := by
  simp only [State.suspendTimers, beq_iff_eq]

theorem dropCycle_parked {s : State} (h : s.adu.cycle.underWay = false) : s.dropCycle = s.setEvent .estop := by
  unfold State.dropCycle
  exact if_neg (by simp [h])

/-- The judgments of L_grout and of the rate level replace the rate level as it stood (R112, R47). -/
theorem judged_after_rate {s : State} (h : s.adu.cycle.underWay = false) :
    s.judgeRate.stopDwells.suspendTimers.dropCycle.judgeGrout.judgeRate =
      (s.stopDwells.suspendTimers.setEvent .estop).judgeGrout := by
  rw [dropCycle_parked (s := s.judgeRate.stopDwells.suspendTimers) h]
  rfl

/-- The part after an assertion of emergency stop outside the cutting states, before L_grout is judged (R22, R49, R88, R111, R124). -/
def State.stoppedAtRest (s : State) : State :=
  (({ s with
      estop := true
      groups := mapIx s.groups fun _ (r : Group) => if r.state = GroupState.returning then { r with dwell := none } else r
      gru := { s.gru with lines := mapIx s.gru.lines fun _ l => l.idled } }.modRecord fun r =>
    { r with pieces := mapIx r.pieces fun _ (q : PieceRecord) =>
      if q.timer.state = TimerState.running then { q with timer := { q.timer with state := .suspended } } else q }).modMku
        fun k => { k with lMuck := 0 }).setEvent .estop

theorem stoppedAtRest_eq (s : State) :
    ((({ s with estop := true } : State).withLines (mapIx s.gru.lines fun _ l => l.idled)).modMku fun k => { k with lMuck := 0 }
      ).stopDwells.suspendTimers.setEvent .estop = s.stoppedAtRest := by
  rw [stopDwells_eq, suspendTimers_eq]
  rfl

theorem watched_stoppedAtRest (s : State) :
    s.stoppedAtRest.judgeGrout.watched =
      (({ s with estop := true } : State).withLines (mapIx s.gru.lines fun _ l => l.idled)).watched := by
  have hjudged (t : State) : t.judgeGrout.watched = t.watched := rfl
  rw [hjudged, State.stoppedAtRest, watched_setEvent]
  rfl

/-- Every block's response to emergency stop outside the cutting states, where no condition comes or goes with it. -/
theorem assertStop_parked {s : State} (h : s.quiet = true) (hc : s.adu.cycle.underWay = false) (hb : s.mku.beltPermit = false)
    (ht : s.stoppedAtRest.judgeGrout.quiet = true) : s.assertStop = s.stoppedAtRest.judgeGrout := by
  have hstill (key : FaultKey) (hm : key.measured = true) : ({ s with estop := true } : State).agrees key :=
    (agrees_of_watched rfl key).mpr (agrees_of_quiet h hm)
  have hidled (key : FaultKey) (hm : key.measured = true) :
      (({ s with estop := true } : State).withLines (mapIx s.gru.lines fun _ l => l.idled)).agrees key :=
    (agrees_of_watched (watched_stoppedAtRest s) key).mp (agrees_of_quiet ht hm)
  have hlines := idleLines_eq (hstill _ rfl) fun p key hkey => hidled key (measured_of_mem_lineKeys hkey)
  have hpermit := judgePermit_stopped (s := ({ s with estop := true } : State).withLines (mapIx s.gru.lines fun _ l => l.idled))
    rfl hb fun key hkey => hidled key (measured_of_mem_beltKeys hkey)
  unfold State.assertStop
  rw [hlines, hpermit, judged_after_rate (by exact hc), stoppedAtRest_eq]

theorem exec_estopAssert_again {s : State} (hr : s.resetActive = false) (he : s.estop = true) : exec .estopAssert s = .next s := by
  simp [exec, execEstopAssert, hr, he]

theorem exec_estopRelease_again {s : State} (hr : s.resetActive = false) (he : s.estop = false) : exec .estopRelease s = .next s := by
  simp [exec, execEstopRelease, hr, he]

theorem exec_estopRelease {s : State} (hr : s.resetActive = false) (he : s.estop = true) :
    exec .estopRelease s = .next s.releaseStop.settled := by
  simp [exec, execEstopRelease, hr, he]

theorem exec_estopAssert_parked {s : State} (h : s.calm = true) (he : s.estop = false)
    (hc : s.adu.cycle = .standstill ∨ s.adu.cycle = .ringBuild) (hb : s.mku.beltPermit = false)
    (ht : s.stoppedAtRest.judgeGrout.quiet = true) : exec .estopAssert s = .next s.stoppedAtRest.judgeGrout := by
  obtain ⟨hr, hquiet⟩ := calm_iff.mp h
  have hpark : s.adu.cycle.underWay = false := by rcases hc with hc | hc <;> rw [hc] <;> rfl
  rw [exec_estopAssert hr he, assertStop_parked hquiet hpark hb ht, settled_of_quiet ht]

/-! ## The release -/

/-- The part after a release of emergency stop, before the tail lines are started (R22, R88). -/
def State.released (s : State) : State :=
  ({ s with
      estop := false
      groups := mapIx s.groups fun _ (r : Group) =>
        if r.state = GroupState.returning then { r with dwellRef := r.stroke, dwell := some (s.item .contactDwell) } else r
      }.modRecord fun r =>
    { r with pieces := mapIx r.pieces fun _ (q : PieceRecord) =>
      if q.timer.state = TimerState.suspended then { q with timer := { q.timer with state := .running } } else q })

theorem restartDwells_of_not_frozen {s : State} (h : s.frozen = false) :
    s.restartDwells =
      { s with groups := mapIx s.groups fun _ (r : Group) =>
          if r.state = .returning then { r with dwellRef := r.stroke, dwell := some (s.item .contactDwell) } else r } := by
  simp only [State.restartDwells, h, Bool.false_eq_true, if_false, beq_iff_eq]

theorem resumeTimers_of_not_frozen {s : State} (h : s.frozen = false) :
    s.resumeTimers = s.modRecord fun r =>
      { r with pieces := mapIx r.pieces fun _ (q : PieceRecord) =>
          if q.timer.state = .suspended then { q with timer := { q.timer with state := .running } } else q } := by
  simp only [State.resumeTimers, h, Bool.false_eq_true, if_false, beq_iff_eq]

theorem released_eq {s : State} (h : s.inForce .claimFreeze = false) :
    ({ s with estop := false } : State).restartDwells.resumeTimers = s.released := by
  have hfree : ({ s with estop := false } : State).frozen = false := Bool.or_eq_false_iff.mpr ⟨h, rfl⟩
  rw [restartDwells_of_not_frozen hfree]
  exact resumeTimers_of_not_frozen hfree

/-! ## The lines at the release -/

/-- At the release a line in IDLE whose window is OPEN is started (R99, R111). -/
def State.startedLine (s : State) (q : LineIx) (l : Line) : Line :=
  if l.phase ≠ .idle ∨ (s.account q).window = false then l
  else if s.inForce (.portHold q) = true then { l with phase := .held, valve := false, setpoint := 0 }
  else { l with phase := .prime, valve := true, setpoint := 1, sinceOpen := 0 }

theorem startedLine_obliges (s : State) (q : LineIx) (l : Line) (h : l.phase.obliges = true) :
    (s.startedLine q l).phase.obliges = true := by
  have hnot : l.phase ≠ .idle := fun hi => by rw [hi] at h; cases h
  rw [State.startedLine, if_pos (.inl hnot)]
  exact h

theorem startLine_held {s : State} {p : LineIx} (h : s.inForce (.portHold p) = true) : s.startLine p = s.enterPhase p .held :=
  if_pos h

theorem startLine_prime {s : State} {p : LineIx} (h : s.inForce (.portHold p) = false) (hopen : (s.account p).window = true)
    (he : s.estop = false) :
    s.startLine p =
      ((s.modLine p fun l => { l with phase := .prime, valve := !s.estop, setpoint := 1, sinceOpen := 0 }).judgeKeys
        (lineKeys p)).testPrimed p := by
  have hmod : (s.modLine p fun l => { l with sinceOpen := 0 }).modLine p
      (fun l => { l with phase := .prime, valve := !s.estop, setpoint := 1 }) =
      s.modLine p fun l => { l with phase := .prime, valve := !s.estop, setpoint := 1, sinceOpen := 0 } := by
    simp only [State.modLine, modAt_modAt]
  rw [State.startLine, if_neg (by simp [h]), if_neg (by simp [hopen, he]), ← hmod]
  rfl

theorem testPrimed_of_empty {s : State} {p : LineIx} (hprime : 0 < s.item .primeVolume) (h : (s.line p).sinceOpen = 0) :
    s.testPrimed p = s := if_neg (by simp [h]; omega)

/-- The idle lines with an open window are started, and no condition comes or goes with it (R99, R111). -/
theorem startIdleLines_eq {s : State} (he : s.estop = false) (hprime : 0 < s.item .primeVolume)
    (hv : s.agrees (.stationSilent .grout))
    (hw : ∀ p, ∀ key ∈ lineKeys p, (s.withLines (mapIx s.gru.lines s.startedLine)).agrees key) :
    s.startIdleLines = s.withLines (mapIx s.gru.lines s.startedLine) := by
  refine foldl_allLines (mk := s.withLines) (v := s.gru.lines) (f := s.startedLine) fun u p hp hu => ?_
  have hline : (s.withLines u).line p = s.gru.lines[p] := hp
  by_cases hstart : (s.gru.lines[p]).phase ≠ .idle ∨ (s.account p).window = false
  · have hkept : s.startedLine p u[p] = u[p] := by rw [hp]; exact if_pos hstart
    have hcond : ((s.gru.lines[p]).phase == .idle && (s.account p).window) = false := by
      rcases hstart with hphase | hshut
      · rw [beq_eq_false_iff_ne.mpr hphase, Bool.false_and]
      · rw [hshut, Bool.and_false]
    rw [hline, show (s.withLines u).account p = s.account p from rfl, hcond, if_neg Bool.false_ne_true]
    exact congrArg s.withLines (modAt_fixed hkept).symm
  · obtain ⟨hidle, hopen⟩ := not_or.mp hstart
    have hidle : (s.gru.lines[p]).phase = .idle := not_not.mp hidle
    have hopen : (s.account p).window = true := by simpa using hopen
    have hmono : (∀ q : LineIx, (s.startedLine q s.gru.lines[q]).phase.obliges = true → (s.gru.lines[q]).phase.obliges = true) ∨
        ∀ q : LineIx, (s.gru.lines[q]).phase.obliges = true → (s.startedLine q s.gru.lines[q]).phase.obliges = true :=
      .inr fun q => startedLine_obliges s q _
    rw [hline, hidle, show (s.withLines u).account p = s.account p from rfl, hopen, if_pos (by rfl)]
    cases hhold : s.inForce (.portHold p) with
    | true =>
      have hheld : s.startedLine p s.gru.lines[p] = { s.gru.lines[p] with phase := .held, valve := false, setpoint := 0 } := by
        rw [State.startedLine, if_neg hstart, if_pos hhold]
      rw [startLine_held (s := s.withLines u) hhold]
      exact enterPhase_turn hmono hp hu hv (hw p) (fun l => { l with phase := .held, valve := false, setpoint := 0 }) hheld.symm
    | false =>
      have hprimes : s.startedLine p s.gru.lines[p] =
          { s.gru.lines[p] with phase := .prime, valve := !s.estop, setpoint := 1, sinceOpen := 0 } := by
        rw [State.startedLine, if_neg hstart, if_neg (by simp [hhold]), he]; rfl
      have hstarted : ((s.withLines (modAt u p (s.startedLine p))).line p).sinceOpen = 0 := by
        have hchanged : (modAt u p (s.startedLine p))[p] = s.startedLine p s.gru.lines[p] := by
          rw [modAt_getElem, if_pos rfl, hp]
        exact (congrArg Line.sinceOpen (hchanged.trans hprimes) :)
      have hturn := enterPhase_turn hmono hp hu hv (hw p)
        (fun l => { l with phase := .prime, valve := !s.estop, setpoint := 1, sinceOpen := 0 }) hprimes.symm
      rw [startLine_prime (s := s.withLines u) hhold hopen he]
      exact (congrArg (State.testPrimed · p) hturn).trans (testPrimed_of_empty hprime hstarted)

theorem startIdleLines_none {s : State} (h : ∀ p, (s.line p).phase = .idle → (s.account p).window = false) : s.startIdleLines = s := by
  have hturn (p : LineIx) : ((s.line p).phase == .idle && (s.account p).window) = false := by
    by_cases hi : (s.line p).phase = .idle
    · rw [h p hi, Bool.and_false]
    · rw [beq_eq_false_iff_ne.mpr hi, Bool.false_and]
  unfold State.startIdleLines
  induction allLines with
  | nil => rfl
  | cons p l ih => rw [List.foldl_cons, hturn, if_neg Bool.false_ne_true]; exact ih

/-! ## The belt permit at the release -/

theorem judgePermit_work (s : State) :
    FaultWork ((s.modMku fun k => { k with beltPermit := s.permitFor, lMuck := if s.permitFor then 8 else 0 }).judgeRate)
      s.judgePermit :=
  (ite_along (FaultWork.setEvent _ _) (FaultWork.refl _)).trans (FaultWork.judgeKeys _ _)

/-- The judgment of the belt permit has judged the rate level too (R47). -/
theorem judgePermit_judgeRate (s : State) : s.judgePermit.judgeRate = s.judgePermit := by
  have hwork := judgePermit_work s
  generalize (s.modMku fun k => { k with beltPermit := s.permitFor, lMuck := if s.permitFor then 8 else 0 }) = r at hwork
  have hadu : s.judgePermit.adu = r.judgeRate.adu := (congrArg State.adu hwork.eq :)
  have hrate : s.judgePermit.rateFor = r.judgeRate.rateFor := (congrArg State.rateFor hwork.eq :)
  have hkept : s.judgePermit.adu.rateLevel = s.judgePermit.rateFor := by rw [hadu, hrate]; rfl
  unfold State.judgeRate State.modAdu
  rw [← hkept]

theorem judgePermit_queue (s : State) : s.judgePermit.rbu.queue = s.rbu.queue :=
  (congrArg (fun u : State => u.rbu.queue) (judgePermit_work s).eq :)

theorem judgePermit_marked (s : State) {key : FaultKey} (h : ∀ k ∈ beltKeys, k.idx ≠ key.idx) :
    s.judgePermit.fsv.marked key = s.fsv.marked key := by
  unfold State.judgePermit
  dsimp only
  rw [judgeKeys_marked _ h]
  split <;> rfl

theorem beltKeys_ne_lineKeys : ∀ p, ∀ key ∈ lineKeys p, ∀ k ∈ beltKeys, k.idx ≠ key.idx := by decide

/-- No condition that a line's phase decides depends on the belt permit. -/
theorem judgePermit_condition (s : State) {p : LineIx} {key : FaultKey} (h : key ∈ lineKeys p) :
    s.judgePermit.condition key = s.condition key := by
  have hwork := judgePermit_work s
  have hline (q : LineIx) : s.judgePermit.line q = s.line q := hwork.line_eq q
  have hsupply (m : MeasIx) : s.judgePermit.supply m = s.supply m := (congrArg (State.supply · m) hwork.eq :)
  have hcycle : s.judgePermit.adu.cycle = s.adu.cycle := (congrArg (fun u : State => u.adu.cycle) hwork.eq :)
  have hpresent : (s.judgePermit.port .grout).present = (s.port .grout).present := by
    have hlink : (s.judgePermit.port .grout).link = (s.port .grout).link := by rw [port_link, port_link, direct_judgePermit]
    exact (congrArg Port.present hlink :)
  simp only [lineKeys, List.mem_cons, List.not_mem_nil, or_false] at h
  rcases h with rfl | rfl | rfl
  · rw [condition_pressure, condition_pressure, hline, hsupply]
  · rw [condition_counter, condition_counter, hline, hsupply]
  · rw [condition_grout, condition_grout, hpresent, hcycle]; simp only [hline]

theorem judgePermit_agrees {s : State} {p : LineIx} {key : FaultKey} (h : key ∈ lineKeys p) :
    s.judgePermit.agrees key ↔ s.agrees key := by
  rw [State.agrees, State.agrees, judgePermit_condition s h, judgePermit_marked s (beltKeys_ne_lineKeys p key h)]

/-! ## The release as one operation -/

theorem releaseStop_eq {s t : State} (hf : s.inForce .claimFreeze = false) (ht : s.released.startIdleLines = t) :
    s.releaseStop = t.judgeGrout.judgePermit.examineHead := by
  unfold State.releaseStop
  rw [released_eq hf, ht, judgePermit_judgeRate]

theorem released_startIdleLines {s : State} (h : s.quiet = true) (hprime : 0 < s.item .primeVolume)
    (ht : (s.released.withLines (mapIx s.gru.lines s.startedLine)).judgeGrout.judgePermit.quiet = true) :
    s.released.startIdleLines = s.released.withLines (mapIx s.gru.lines s.startedLine) := by
  have hstill : s.released.agrees (.stationSilent .grout) :=
    (agrees_of_watched (show s.released.watched = s.watched from rfl) _).mpr (agrees_of_quiet h rfl)
  refine startIdleLines_eq (s := s.released) rfl hprime hstill fun p key hkey => ?_
  have hjudged := (judgePermit_agrees hkey).mp (agrees_of_quiet ht (measured_of_mem_lineKeys hkey))
  exact (agrees_of_watched rfl key).mp hjudged

theorem exec_estopRelease_unstarted {s : State} (hc : s.calm = true) (he : s.estop = true) (hf : s.inForce .claimFreeze = false)
    (hq : s.rbu.queue = []) (hshut : ∀ p, (s.line p).phase = .idle → (s.account p).window = false)
    (ht : s.released.judgeGrout.judgePermit.quiet = true) : exec .estopRelease s = .next s.released.judgeGrout.judgePermit := by
  have hnone : s.released.startIdleLines = s.released := startIdleLines_none hshut
  have hempty : s.released.judgeGrout.judgePermit.rbu.queue = [] := by rw [judgePermit_queue]; exact hq
  rw [exec_estopRelease (calm_iff.mp hc).1 he, releaseStop_eq hf hnone, examineHead_empty hempty, settled_of_quiet ht]

theorem exec_estopRelease_started {s : State} (hc : s.calm = true) (he : s.estop = true) (hf : s.inForce .claimFreeze = false)
    (hprime : 0 < s.item .primeVolume)
    (ht : (s.released.withLines (mapIx s.gru.lines s.startedLine)).judgeGrout.judgePermit.quiet = true) :
    ∃ v, exec .estopRelease s = .next v ∧
      (s.released.withLines (mapIx s.gru.lines s.startedLine)).judgeGrout.judgePermit.examinesTo v := by
  obtain ⟨hr, hquiet⟩ := calm_iff.mp hc
  rw [exec_estopRelease hr he, releaseStop_eq hf (released_startIdleLines hquiet hprime ht)]
  exact ⟨_, rfl, examinesTo_settle ht (by decide)⟩

/-- Settles O17: each fold over the tail lines is one change of all of them, in whose course no condition comes or goes, because none
does at its end. -/
theorem emergencyStopAtRestAndItsRelease : Obligations.EmergencyStopAtRestAndItsRelease := by
  refine ⟨⟨fun s hc => ⟨exec_estopAssert_again (calm_iff.mp hc).1, ?_⟩, fun s hc => ⟨exec_estopRelease_again (calm_iff.mp hc).1, ?_⟩⟩, ?_⟩
  · exact exec_estopAssert_parked hc
  · exact exec_estopRelease_unstarted hc
  · exact fun s hc => exec_estopRelease_started hc

end Sys2Proof.Machine
end

section
/-! A revolution pulse: what it measures, and the confirmation of a spin-up. -/

namespace Sys2Proof.Machine

/-! ## The measurements of a pulse -/

/-- The last period that a revolution pulse sets (R31). -/
def State.pulsePeriod (s : State) : Option Nat := s.adu.sincePulse.map fun ms => min 32767 (ms / 10)

/-- Whether the period that a revolution pulse sets is a turning one (R32). -/
def State.pulseTurns (s : State) : Bool := s.pulsePeriod.any fun q => decide (q ≤ s.item .turnPeriod)

/-- Whether a revolution pulse takes a penetration (R31). -/
def State.penetrationDue (s : State) : Bool := s.adu.penetrationValid || s.adu.pulseSincePermit

/-- The advance since the revolution pulse before (R31). -/
def State.advanceSincePulse (s : State) : Nat := s.adu.a - s.adu.advanceAtPulse

/-- The advance once a revolution pulse has been measured (R31, R32). -/
def State.measured (s : State) (a : Advance) : Advance :=
  { a with
    lastPeriod := s.pulsePeriod, sincePulse := some 0, revolutions := min 32767 (a.revolutions + 1)
    penetration := if s.penetrationDue then s.advanceSincePulse else a.penetration
    penetrationValid := s.penetrationDue
    maxPenetration := if s.penetrationDue then max a.maxPenetration s.advanceSincePulse else a.maxPenetration
    pulseSincePermit := true, advanceAtPulse := a.a, stopTimer := some (10 * s.item .turnPeriod)
    cutter := if s.pulseTurns then .turning else .slow }

/-- L_pen as a pulse's penetration sets it (R46). -/
def State.pulsePen (s : State) : Nat :=
  if s.penetrationDue = true ∧ s.item .penMax < s.advanceSincePulse then 8 * s.item .penMax / s.advanceSincePulse else 8

theorem map_getD_eq_any {α : Type} (o : Option α) (f : α → Bool) : (o.map f).getD false = o.any f := by cases o <;> rfl

theorem modAdu_turningPeriod (s : State) (f : Advance → Advance) :
    (s.modAdu f).turningPeriod = (f s.adu).lastPeriod.any fun q => decide (q ≤ s.item .turnPeriod) := map_getD_eq_any ..

theorem measurePulse_eq (s : State) : s.measurePulse = s.modAdu s.measured := by
  unfold State.measurePulse
  dsimp only
  rw [modAdu_turningPeriod]
  rfl

theorem measurePulse_turningPeriod (s : State) : s.measurePulse.turningPeriod = s.pulseTurns := by
  rw [measurePulse_eq, modAdu_turningPeriod]; rfl

/-- L_pen is judged from the penetration that the pulse has taken, whatever else has changed since (R46). -/
theorem judgePen_eq {s t : State} (hv : t.adu.penetrationValid = s.penetrationDue)
    (hp : s.penetrationDue = true → t.adu.penetration = s.advanceSincePulse) (hi : t.item .penMax = s.item .penMax) :
    t.judgePen = (t.modAdu fun a => { a with lPen := s.pulsePen }).judgeRate := by
  have hpen : (if t.adu.penetrationValid && decide (t.item .penMax < t.adu.penetration) then
      8 * t.item .penMax / t.adu.penetration else 8) = s.pulsePen := by
    unfold State.pulsePen
    rw [hv, hi]
    cases hd : s.penetrationDue with
    | false => simp
    | true => rw [hp hd]; simp
  exact congrArg (fun n => (t.modAdu fun a => { a with lPen := n }).judgeRate) hpen

theorem measured_penetration {s : State} (h : s.penetrationDue = true) (a : Advance) :
    (s.measured a).penetration = s.advanceSincePulse := if_pos h

theorem measurePulse_judgePen (s : State) :
    s.measurePulse.judgePen = (s.modAdu fun a => { s.measured a with lPen := s.pulsePen }).judgeRate := by
  rw [measurePulse_eq]
  exact judgePen_eq (t := s.modAdu s.measured) rfl (fun h => measured_penetration h _) rfl

theorem exec_revolutionPulse {s : State} (h : s.resetActive = false) : exec .revolutionPulse s = .next s.takeRevolution.settled :=
  run_awake h fun t => t.takeRevolution.settled

theorem quiet_modAdu {s : State} {f : Advance → Advance} (h : (f s.adu).cycle = s.adu.cycle) : (s.modAdu f).quiet = s.quiet := by
  refine quiet_of_watched ?_ rfl
  unfold State.watched State.modAdu
  dsimp only
  rw [h]

theorem quiet_judgePen (s : State) : s.judgePen.quiet = s.quiet := quiet_of_watched rfl rfl

/-! ## Outside SPINUP -/

theorem takeRevolution_measures {s : State} (h : s.adu.cycle ≠ .spinup) : s.takeRevolution = s.measurePulse.judgePen := by
  have hcycle : s.measurePulse.adu.cycle = s.adu.cycle := by rw [measurePulse_eq]; rfl
  rw [State.takeRevolution, State.judgeConfirmation, hcycle, if_neg (by simpa using h)]

theorem exec_revolutionPulse_measures {s : State} (h : s.calm = true) (hc : s.adu.cycle ≠ .spinup) :
    exec .revolutionPulse s = .next (s.modAdu fun a => { s.measured a with lPen := s.pulsePen }).judgeRate := by
  obtain ⟨hr, hquiet⟩ := calm_iff.mp h
  have hjudged : ((s.modAdu fun a => { s.measured a with lPen := s.pulsePen }).judgeRate).quiet = true :=
    (quiet_of_watched rfl rfl).trans hquiet
  rw [exec_revolutionPulse hr, takeRevolution_measures hc, measurePulse_judgePen, settled_of_quiet hjudged]

/-! ## In SPINUP -/

/-- The confirmations that a revolution pulse leaves in SPINUP (R33). -/
def State.confirmed (s : State) : Nat := if s.pulseTurns then s.adu.confirmations + 1 else 0

theorem takeRevolution_confirms {s : State} (h : s.adu.cycle = .spinup) :
    s.takeRevolution =
      (if 2 ≤ s.confirmed then (s.measurePulse.modAdu fun a => { a with confirmations := s.confirmed }).confirmSpinup
       else s.measurePulse.modAdu fun a => { a with confirmations := s.confirmed }).judgePen := by
  have hcycle : s.measurePulse.adu.cycle = .spinup := by rw [measurePulse_eq]; exact h
  have hcount : s.measurePulse.adu.confirmations = s.adu.confirmations := by rw [measurePulse_eq]; rfl
  rw [State.takeRevolution, State.judgeConfirmation, hcycle, if_pos (by rfl), measurePulse_turningPeriod, hcount]
  rfl

theorem exec_revolutionPulse_unconfirmed {s : State} (h : s.calm = true) (hc : s.adu.cycle = .spinup) (hn : s.confirmed < 2) :
    exec .revolutionPulse s =
      .next (s.measurePulse.modAdu fun a => { a with confirmations := s.confirmed }).judgePen := by
  obtain ⟨hr, hquiet⟩ := calm_iff.mp h
  have hjudged : ((s.measurePulse.modAdu fun a => { a with confirmations := s.confirmed }).judgePen).quiet = true := by
    rw [measurePulse_eq, quiet_judgePen, quiet_modAdu (by rfl), quiet_modAdu (by rfl)]; exact hquiet
  rw [exec_revolutionPulse hr, takeRevolution_confirms hc, if_neg (by omega), settled_of_quiet hjudged]

theorem inForce_measurePulse (s : State) (f : Advance → Advance) (a : Action) :
    (s.measurePulse.modAdu f).inForce a = s.inForce a := by rw [measurePulse_eq]; rfl

theorem haltInForce_measurePulse (s : State) (f : Advance → Advance) : (s.measurePulse.modAdu f).haltInForce = s.haltInForce := by
  rw [measurePulse_eq]; rfl

/-! ## Confirmation under ADV_HALT -/

/-- SPINUP and PAUSED need and oblige the same. -/
theorem condition_modAdu {s : State} {f : Advance → Advance} (hcut : (f s.adu).cycle.cutting = s.adu.cycle.cutting)
    (hboring : ((f s.adu).cycle == .boring) = (s.adu.cycle == .boring)) (key : FaultKey) :
    (s.modAdu f).condition key = s.condition key := by
  have hneeded (m : MeasIx) : (s.modAdu f).needed m = s.needed m := by
    unfold State.needed
    rw [show (s.modAdu f).adu = f s.adu from rfl, hcut]
    rfl
  have hobliged (st : Station) : (s.modAdu f).obliged st = s.obliged st := by
    unfold State.obliged
    rw [show (s.modAdu f).adu = f s.adu from rfl, hboring]
    rfl
  unfold State.condition State.levelTest
  simp only [hneeded, hobliged]
  rfl

theorem quiet_modAdu_cutting {s : State} {f : Advance → Advance} (hcut : (f s.adu).cycle.cutting = s.adu.cycle.cutting)
    (hboring : ((f s.adu).cycle == .boring) = (s.adu.cycle == .boring)) (h : s.quiet = true) : (s.modAdu f).quiet = true := by
  obtain ⟨hunmarked, hnotices⟩ := quiet_iff.mp h
  refine quiet_iff.mpr ⟨unmarked_none_iff.mpr fun key hkey => ?_, hnotices⟩
  exact (condition_modAdu hcut hboring key).trans (unmarked_none_iff.mp hunmarked key hkey)

theorem measured_of_mem_cycleKeys {key : FaultKey} (h : key ∈ cycleKeys) : key.measured = true := by
  simp only [cycleKeys, List.mem_cons, List.not_mem_nil, or_false] at h
  rcases h with rfl | rfl | rfl | rfl | rfl | rfl | rfl <;> rfl

/-- PAUSED is entered from SPINUP with the cutterhead permit kept, and no condition comes or goes with it (R39). -/
theorem enterPaused_kept {s : State} (h : s.quiet = true) (hc : s.adu.cycle = .spinup) :
    s.enterPaused true =
      s.modAdu fun a => { a with cycle := .paused, permitKept := true, thrustPermit := false, spinup := none, rateLevel := 0 } := by
  have hhold : s.holdIfBoring = s := by rw [State.holdIfBoring, hc]; rfl
  have hjudged : (((s.modAdu fun a => { a with thrustPermit := false, spinup := none }).modAdu fun a =>
      { a with cycle := .paused, permitKept := false }).judgeRate).judgeKeys cycleKeys =
      ((s.modAdu fun a => { a with thrustPermit := false, spinup := none }).modAdu fun a =>
        { a with cycle := .paused, permitKept := false }).judgeRate := by
    refine judgeKeys_of_agrees fun key hkey => ?_
    have hquiet := quiet_modAdu_cutting (f := fun a => { a with thrustPermit := false, spinup := none, cycle := .paused, permitKept := false })
      (by rw [hc]; rfl) (by rw [hc]; rfl) h
    exact (agrees_of_watched rfl key).mpr (agrees_of_quiet hquiet (measured_of_mem_cycleKeys hkey))
  unfold State.enterPaused
  rw [hhold]
  exact congrArg (State.modAdu · fun a => { a with permitKept := true }) hjudged

theorem exec_revolutionPulse_halted {s : State} (h : s.calm = true) (hc : s.adu.cycle = .spinup) (hturns : s.pulseTurns = true)
    (hn : 1 ≤ s.adu.confirmations) (ha : s.inForce .advHalt = true) (hcut : s.inForce .cutHalt = false) :
    exec .revolutionPulse s =
      .next (s.modAdu fun a =>
        { s.measured a with
          cycle := .paused, permitKept := true, thrustPermit := false, spinup := none, rateLevel := 0
          confirmations := a.confirmations + 1, lPen := s.pulsePen }) := by
  obtain ⟨hr, hquiet⟩ := calm_iff.mp h
  have hcount : s.confirmed = s.adu.confirmations + 1 := if_pos hturns
  have hhalt : s.haltInForce = true := by rw [State.haltInForce, ha]; rfl
  have hpulsed : (s.measurePulse.modAdu fun a => { a with confirmations := s.confirmed }).quiet = true := by
    rw [measurePulse_eq, quiet_modAdu (by rfl), quiet_modAdu (by rfl)]; exact hquiet
  have hpause : (s.measurePulse.modAdu fun a => { a with confirmations := s.confirmed }).confirmSpinup =
      s.modAdu fun a =>
        { s.measured a with
          cycle := .paused, permitKept := true, thrustPermit := false, spinup := none, rateLevel := 0
          confirmations := s.confirmed } := by
    rw [State.confirmSpinup, haltInForce_measurePulse, if_pos hhalt, inForce_measurePulse, hcut, Bool.not_false,
      enterPaused_kept hpulsed (by rw [measurePulse_eq]; exact hc), measurePulse_eq]
    rfl
  have hpen : (s.modAdu fun a =>
      { s.measured a with
        cycle := .paused, permitKept := true, thrustPermit := false, spinup := none, rateLevel := 0
        confirmations := s.confirmed }).judgePen =
      s.modAdu fun a =>
        { s.measured a with
          cycle := .paused, permitKept := true, thrustPermit := false, spinup := none, rateLevel := 0
          confirmations := a.confirmations + 1, lPen := s.pulsePen } := by
    rw [hcount, judgePen_eq (s := s) (by rfl) (fun hd => measured_penetration hd _) (by rfl)]
    rfl
  have hstill := quiet_modAdu_cutting (f := fun a =>
    { s.measured a with
      cycle := .paused, permitKept := true, thrustPermit := false, spinup := none, rateLevel := 0
      confirmations := a.confirmations + 1, lPen := s.pulsePen }) (by rw [hc]; rfl) (by rw [hc]; rfl) hquiet
  rw [exec_revolutionPulse hr, takeRevolution_confirms hc, if_pos (by omega), hpause, hpen, settled_of_quiet hstill]

/-! ## Confirmation without a halt -/

theorem enterCycle_ringStartPending (s : State) (c : Cycle) : (s.enterCycle c).adu.ringStartPending = s.adu.ringStartPending :=
  (congrArg (fun u : State => u.adu.ringStartPending)
    (FaultWork.judgeKeys ((s.modAdu fun a => { a with cycle := c, permitKept := false }).judgeRate) cycleKeys).eq :)

/-- Entry into BORING, the spin-up time stopped first (R35, R36). -/
theorem enterBoring_eq (s : State) :
    s.enterBoring =
      (((if s.adu.ringStartPending = true then ((s.modAdu fun a => { a with spinup := none }).enterCycle .boring).startRing
          else (s.modAdu fun a => { a with spinup := none }).enterCycle .boring).jguPush.modAdu fun a =>
        { a with thrustPermit := true }).judgeRate) := by
  unfold State.enterBoring
  dsimp only
  rw [enterCycle_ringStartPending]
  rfl

theorem exec_revolutionPulse_boring {s : State} (h : s.calm = true) (hc : s.adu.cycle = .spinup) (hturns : s.pulseTurns = true)
    (hn : 1 ≤ s.adu.confirmations) (hhalt : s.haltInForce = false) :
    exec .revolutionPulse s =
      .next (((((if s.adu.ringStartPending = true then
            ((s.measurePulse.modAdu fun a =>
              { a with confirmations := s.adu.confirmations + 1, spinup := none }).enterCycle .boring).startRing
          else (s.measurePulse.modAdu fun a =>
            { a with confirmations := s.adu.confirmations + 1, spinup := none }).enterCycle .boring).jguPush.modAdu fun a =>
        { a with thrustPermit := true }).judgeRate).judgePen).settled) := by
  have hcount : s.confirmed = s.adu.confirmations + 1 := if_pos hturns
  have hpending : (s.measurePulse.modAdu fun a => { a with confirmations := s.adu.confirmations + 1 }).adu.ringStartPending =
      s.adu.ringStartPending := by rw [measurePulse_eq]; rfl
  rw [exec_revolutionPulse (calm_iff.mp h).1, takeRevolution_confirms hc, hcount, if_pos (by omega), State.confirmSpinup,
    haltInForce_measurePulse, hhalt, if_neg Bool.false_ne_true, enterBoring_eq, hpending]
  rfl

/-! ## The push request -/

/-- A group in HOLD below STROKE_END enters PUSH (R14, R24). -/
def Group.pushed (r : Group) : Group :=
  if r.state = GroupState.hold then { r with state := .push, strokeEndReported := false } else r

/-- The push request as a move of the group table (R14, R24). -/
def State.pushMove (s : State) (_ : GroupIx) (r : Group) : Group :=
  if r.state == .hold then { r with state := .push, strokeEndReported := r.state == .hold && decide (s.item .strokeEnd ≤ r.stroke) }
  else r

/-- Where every stroke is below STROKE_END, the push request reports no stroke end, and its notices tell of no arrival (R14, R24). -/
theorem jguPush_below {s : State} (h : ∀ g, (s.group g).stroke < s.item .strokeEnd) :
    ∃ l, noArrivals l ∧ l.length ≤ 10 ∧
      s.jguPush = { s with groups := mapIx s.groups fun _ r => r.pushed, notices := s.notices ++ l } := by
  have hreach (g : GroupIx) : ((s.group g).state == .hold && decide (s.item .strokeEnd ≤ (s.group g).stroke)) = false := by
    rw [decide_eq_false (Nat.not_le.mpr (h g)), Bool.and_false]
  have hsent (t : State) (l : List GroupIx) : l.foldl (fun u g =>
      if (s.group g).state == .hold && decide (s.item .strokeEnd ≤ (s.group g).stroke) then u.send (.strokeEnd g) else u) t = t := by
    induction l with
    | nil => rfl
    | cons g l ih => rw [List.foldl_cons, hreach, if_neg Bool.false_ne_true]; exact ih
  have hpushed (g : GroupIx) : s.pushMove g (s.group g) = (s.group g).pushed := by
    simp only [State.pushMove, hreach, Group.pushed, beq_iff_eq]
  refine ⟨changeNotices s s.pushMove, fun n hn => ?_, changeNotices_length s s.pushMove, ?_⟩
  · obtain ⟨g, -, hg⟩ := List.mem_filterMap.mp hn
    rw [hpushed] at hg
    by_cases hs : (s.group g).state = .hold
    · rw [Group.pushed, if_pos hs] at hg
      simp only [hs, bne_iff_ne, ne_eq, reduceCtorEq, not_false_eq_true, if_true, Option.some.injEq] at hg
      exact ⟨g, .push, _, hg.symm⟩
    · rw [Group.pushed, if_neg hs, bne_self_eq_false, if_neg Bool.false_ne_true] at hg
      cases hg
  · unfold State.jguPush
    dsimp only
    rw [hsent, changeGroups_eq, ← mapIx_congr (f := s.pushMove) (f' := fun _ r => r.pushed) hpushed]
    rfl

/-- The part in BORING after a spin-up confirmed in `s` (R35). -/
def State.boring (s : State) : State :=
  ({ s.judgePen with groups := mapIx s.judgePen.groups fun _ r => r.pushed }.modAdu fun a =>
    { a with cycle := .boring, permitKept := false, spinup := none, thrustPermit := true }).judgeRate

/-- The judgment of the rate level depends on everything but the rate level as it stood (R47). -/
theorem judgeRate_congr {s t : State} (h : s = { t with adu := { t.adu with rateLevel := s.adu.rateLevel } }) :
    s.judgeRate = t.judgeRate := by
  rw [h]; rfl

theorem judgeRate_judgePen (s : State) : s.judgeRate.judgePen = s.judgePen := rfl

/-- The part in BORING, before L_pen and the rate level are judged. -/
def State.pushing (s : State) (rate : Nat) : State :=
  { s with
    groups := mapIx s.groups fun _ r => r.pushed
    adu := { s.adu with cycle := .boring, permitKept := false, spinup := none, thrustPermit := true, rateLevel := rate } }

theorem pushing_judgePen (s : State) (rate : Nat) : (s.pushing rate).judgePen = s.boring := by
  refine judgeRate_congr ?_
  rfl

/-- The part as it enters BORING. -/
def State.entersBoring (s : State) : State :=
  { s with adu := { s.adu with cycle := .boring, permitKept := false, spinup := none } }

theorem watched_boring (s : State) : s.boring.watched = s.entersBoring.watched := rfl

theorem enterCycle_boring {s : State} (h : ∀ key ∈ cycleKeys, s.entersBoring.agrees key) :
    (s.modAdu fun a => { a with spinup := none }).enterCycle .boring = s.entersBoring.judgeRate := by
  have hwatched (t : State) : t.judgeRate.watched = t.watched := rfl
  refine judgeKeys_of_agrees (s := s.entersBoring.judgeRate) fun key hkey => ?_
  exact (agrees_of_watched (hwatched _) key).mpr (h key hkey)

/-- The push request's notices waiting, the thrust permit is asserted and the levels are judged. -/
theorem judged_push (s : State) (l : List Notice) :
    ((({ s.entersBoring.judgeRate with groups := mapIx s.groups fun _ r => r.pushed, notices := l } : State).modAdu fun a =>
      { a with thrustPermit := true }).judgeRate).judgePen =
      ((s.pushing s.entersBoring.judgeRate.adu.rateLevel).waiting l).judgePen := by
  rw [judgeRate_judgePen]
  rfl

theorem judgePen_waiting (s : State) (l l' : List Notice) : ((s.waiting l).judgePen).waiting l' = (s.waiting l').judgePen := rfl

theorem enterBoring_settled {s : State} (hp : s.adu.ringStartPending = false) (hq : s.rbu.queue = [])
    (hs : ∀ g, (s.group g).stroke < s.item .strokeEnd) (ht : s.boring.quiet = true) : s.enterBoring.judgePen.settled = s.boring := by
  obtain ⟨hunmarked, hnotices⟩ := quiet_iff.mp ht
  have hnone : s.notices = [] := hnotices
  have hagrees (key : FaultKey) (hm : key.measured = true) : s.entersBoring.agrees key :=
    (agrees_of_watched (watched_boring s) key).mp (agrees_of_quiet ht hm)
  have hentered := enterCycle_boring fun key hkey => hagrees key (measured_of_mem_cycleKeys hkey)
  obtain ⟨l, hl, hlength, hpush⟩ := jguPush_below (s := s.entersBoring.judgeRate) hs
  have hnotes : s.entersBoring.judgeRate.notices ++ l = l := by rw [show s.entersBoring.judgeRate.notices = [] from hnone, List.nil_append]
  have hjudged := pushing_judgePen s s.entersBoring.judgeRate.adu.rateLevel
  rw [enterBoring_eq, hp, if_neg Bool.false_ne_true, hentered, hpush, hnotes]
  refine (congrArg State.settled (judged_push s l)).trans ?_
  have hwatched (t : State) : (t.waiting l).judgePen.watched = t.watched := rfl
  have hstill : (((s.pushing s.entersBoring.judgeRate.adu.rateLevel).waiting l).judgePen).unmarked = none := by
    rw [← hunmarked]
    exact unmarked_of_watched ((hwatched _).trans (watched_boring s).symm)
  have hsettled := settle_noArrivals settleBound _ hstill hq (le_trans hlength (by decide)) hl
  refine hsettled.trans ((judgePen_waiting _ l []).trans ?_)
  rw [waiting_nil (s := s.pushing _) hnone, hjudged]

/-- The part after a second turning period in a row in SPINUP, where nothing keeps it from BORING (R33, R35). -/
theorem exec_revolutionPulse_bores {s : State} (h : s.calm = true) (hc : s.adu.cycle = .spinup) (hn : 2 ≤ s.confirmed)
    (hhalt : s.haltInForce = false) (hp : s.adu.ringStartPending = false) (hq : s.rbu.queue = [])
    (hs : ∀ g, (s.group g).stroke < s.item .strokeEnd)
    (ht : (s.measurePulse.modAdu fun a => { a with confirmations := s.confirmed }).boring.quiet = true) :
    exec .revolutionPulse s = .next (s.measurePulse.modAdu fun a => { a with confirmations := s.confirmed }).boring := by
  have hbored := enterBoring_settled (s := s.measurePulse.modAdu fun a => { a with confirmations := s.confirmed })
    (by rw [measurePulse_eq]; exact hp) (by rw [measurePulse_eq]; exact hq) (by rw [measurePulse_eq]; exact hs) ht
  rw [exec_revolutionPulse (calm_iff.mp h).1, takeRevolution_confirms hc, if_pos hn, State.confirmSpinup,
    haltInForce_measurePulse, hhalt, if_neg Bool.false_ne_true, hbored]

end Sys2Proof.Machine
end

section
/-! The boring start of a ring: what each of its steps leaves. -/

namespace Sys2Proof.Machine

/-! ## The deficits -/

/-- The part with these accounts of the lines. -/
def State.withAccounts (s : State) (v : Vector LineAccount 6) : State := { s with act := { s.act with lines := v } }

/-- The ACT judges every line's deficit from its own account, its carry and its deliveries (R65). -/
theorem judgeDeficits_eq (s : State) :
    s.judgeDeficits = s.withAccounts (mapIx s.act.lines fun p l =>
      { l with deficit := deficitOf (s.item .rounding) l.target ((s.whole l.target : Int) + (s.line p).carry - (s.line p).delivered) }) :=
  foldl_allLines (mk := s.withAccounts) (v := s.act.lines) fun _ _ _ _ => rfl

theorem judgeDeficits_account (s : State) (p : LineIx) :
    s.judgeDeficits.account p =
      { s.account p with
        deficit := deficitOf (s.item .rounding) (s.account p).target
          ((s.whole (s.account p).target : Int) + (s.line p).carry - (s.line p).delivered) } := by
  rw [judgeDeficits_eq]
  exact mapIx_getElem s.act.lines (fun p l =>
    { l with deficit := deficitOf (s.item .rounding) l.target ((s.whole l.target : Int) + (s.line p).carry - (s.line p).delivered) }) p

/-- A deficit within the bounds is kept as the carry of a line with no target and no deliveries (R65, R97). -/
theorem deficitOf_carry {s : State} {d : Int} (hl : -16383 ≤ d) (hu : d ≤ 16383) :
    (deficitOf (s.item .rounding) 0 ((s.whole 0 : Int) + d - (0 : Nat))).d = d := by
  have hwhole : s.whole 0 = 0 := by unfold State.whole wholePart; split <;> rfl
  rw [hwhole]
  unfold deficitOf deficitBound
  dsimp only
  omega

/-! ## The accounts -/

/-- The accounts at the boring start, before the deficits are judged (R58). -/
def State.emptied (s : State) : State :=
  { s with act :=
    { s.act with
      kv := (s.act.pendingK.getD (s.act.kv, s.act.km)).1, km := (s.act.pendingK.getD (s.act.kv, s.act.km)).2
      pendingK := none, aAcc := 0, unassigned := 0, expected := 0, gapRaised := false
      lines := mapIx s.act.lines fun p l => { l with target := 0, window := l.window || s.item (.windowOpen p) == 0 } } }

theorem restartAccounts_eq (s : State) : s.restartAccounts = s.emptied.judgeDeficits := rfl

theorem emptied_account (s : State) (p : LineIx) :
    s.emptied.account p =
      { s.account p with target := 0, window := (s.account p).window || s.item (.windowOpen p) == 0 } :=
  mapIx_getElem s.act.lines
    (fun p (l : LineAccount) => ({ l with target := 0, window := l.window || s.item (.windowOpen p) == 0 } : LineAccount)) p

theorem restartAccounts_account (s : State) (p : LineIx) :
    s.restartAccounts.account p =
      { s.account p with
        target := 0, window := (s.account p).window || s.item (.windowOpen p) == 0
        deficit := deficitOf (s.item .rounding) 0 ((s.whole 0 : Int) + (s.line p).carry - (s.line p).delivered) } := by
  rw [restartAccounts_eq, judgeDeficits_account, emptied_account]
  rfl

theorem restartAccounts_line (s : State) (p : LineIx) : s.restartAccounts.line p = s.line p := by
  rw [restartAccounts_eq, judgeDeficits_eq]; rfl

/-! ## The steps of the boring start -/

/-- The part once the strokes have been captured and the carries rolled (R36, R97). -/
def State.rolled (s : State) : State :=
  (s.captureStrokes.modAdu fun a => { a with a := 0, advanceAtPulse := 0, revolutions := 0, maxPenetration := 0 }).rollCarries

theorem captureStrokes_group (s : State) (g : GroupIx) :
    s.captureStrokes.group g = { s.group g with capture := ((s.group g).stroke : Int) } :=
  mapIx_getElem s.groups (fun _ (r : Group) => ({ r with capture := (r.stroke : Int) } : Group)) g

theorem rolled_groups (s : State) : s.rolled.groups = s.captureStrokes.groups := rfl

theorem rollCarries_line (s : State) (p : LineIx) :
    s.rollCarries.line p =
      { s.line p with carry := (s.deficit p).d, delivered := 0, outThroughout := (s.line p).phase == .out } :=
  mapIx_getElem s.gru.lines
    (fun p (l : Line) => ({ l with carry := (s.deficit p).d, delivered := 0, outThroughout := l.phase == .out } : Line)) p

theorem rolled_line (s : State) (p : LineIx) :
    s.rolled.line p =
      { s.line p with carry := (s.deficit p).d, delivered := 0, outThroughout := (s.line p).phase == .out } := rollCarries_line _ p

/-- The steps of the boring start after the accounts' (R36). -/
def State.ringReset (s : State) : State :=
  { s with
    mku := { s.mku with measured := 0, spill := 0, delayLine := [], judgment := .normal }
    fsv := { s.fsv with counters := Vector.replicate 12 0, retryCounts := Vector.replicate 55 0 }
    adu := { s.adu with ringStartPending := false }
    mst := { s.mst with maxFace := none } }

theorem ringReset_eq (s : State) :
    { (s.startMuckRing.resetRingCounts.modAdu fun a => { a with ringStartPending := false }) with
      mst := { s.mst with maxFace := none } } = s.ringReset := rfl

theorem startRing_eq (s : State) : s.startRing = s.rolled.startAccountRing.ringReset := ringReset_eq _

/-- The opening notice of the boring start to one line, `s` being the part whose configuration it is read from (R58). -/
def State.openTurn (s u : State) (p : LineIx) : State :=
  if s.item (.windowOpen p) = 0 then (u.takeOpening p).judgeGrout else u

/-- The opening notices of the boring start (R58), `s` being the part whose configuration they are read from. -/
def State.openRing (s t : State) : State := allLines.foldl s.openTurn t

theorem startAccountRing_eq (s : State) : s.startAccountRing = s.openRing s.restartAccounts.takeDeficits := rfl

theorem openTurn_work (s u : State) (p : LineIx) : LineWork u (s.openTurn u p) :=
  ite_along ((LineWork.takeOpening u p).trans (LineWork.judgeGrout _)) (LineWork.refl u)

theorem openRing_work (s t : State) : LineWork t (s.openRing t) := LineWork.foldl (openTurn_work s) _ t

/-- Once the accounts have been restarted, only the lines and what the FSV makes of them change (R58, R99). -/
theorem startAccountRing_work (s : State) : LineWork s.restartAccounts s.startAccountRing :=
  (LineWork.takeDeficits _).trans (openRing_work s _)

/-! ## What the boring start leaves -/

section
variable (s : State)

theorem startRing_group (g : GroupIx) : s.startRing.group g = { s.group g with capture := ((s.group g).stroke : Int) } := by
  have hgroups : s.rolled.startAccountRing.groups = s.rolled.groups := (congrArg State.groups (startAccountRing_work s.rolled).eq :)
  rw [startRing_eq]
  have hgroup : s.rolled.startAccountRing.ringReset.group g = s.rolled.startAccountRing.group g := rfl
  rw [hgroup, State.group, hgroups, rolled_groups]
  exact captureStrokes_group s g

theorem startRing_adu :
    s.startRing.adu =
      { s.adu with
        a := 0, advanceAtPulse := 0, revolutions := 0, maxPenetration := 0, ringStartPending := false
        rateLevel := s.startRing.adu.rateLevel } := by
  have hadu := (congrArg State.adu (startAccountRing_work s.rolled).eq :)
  rw [startRing_eq]
  exact congrArg (fun a : Advance => { a with ringStartPending := false }) hadu

theorem startRing_act : s.startRing.act = s.rolled.restartAccounts.act := by
  rw [startRing_eq]
  exact (congrArg State.act (startAccountRing_work s.rolled).eq :)

theorem startRing_mku : s.startRing.mku = { s.mku with measured := 0, spill := 0, delayLine := [], judgment := .normal } := by
  have hmku := (congrArg State.mku (startAccountRing_work s.rolled).eq :)
  rw [startRing_eq]
  exact congrArg (fun k : Muck => { k with measured := 0, spill := 0, delayLine := [], judgment := .normal }) hmku

theorem startRing_mst : s.startRing.mst = { s.mst with maxFace := none } := by
  have hmst := (congrArg State.mst (startAccountRing_work s.rolled).eq :)
  rw [startRing_eq]
  exact congrArg (fun m : Measurements => { m with maxFace := none }) hmst

theorem startRing_ledger (p : LineIx) :
    (s.startRing.line p).ledger =
      { carry := (s.deficit p).d, delivered := 0, outThroughout := (s.line p).phase == .out } := by
  have hline : (s.rolled.startAccountRing.line p).ledger = (s.rolled.line p).ledger := by
    rw [(startAccountRing_work s.rolled).ledger p, restartAccounts_line]
  rw [startRing_eq]
  exact hline.trans (congrArg Line.ledger (rolled_line s p))

end

/-! ## A line among the others -/

/-- The record of TL*p* is as it was. -/
def SameLine (p : LineIx) (s t : State) : Prop := t.line p = s.line p

namespace SameLine
variable {p q : LineIx}

theorem refl (s : State) : SameLine p s s := rfl

theorem trans {s t u : State} (h : SameLine p s t) (k : SameLine p t u) : SameLine p s u := Eq.trans k h

theorem of_faultWork {s t : State} (h : FaultWork s t) : SameLine p s t := h.line_eq p

theorem foldl {f : State → LineIx → State} (l : List LineIx) (h : ∀ t, ∀ q ∈ l, SameLine p t (f t q)) (s : State) :
    SameLine p s (l.foldl f s) := by
  induction l generalizing s with
  | nil => exact refl s
  | cons q l ih => exact (h s q List.mem_cons_self).trans (ih (fun t k hk => h t k (List.mem_cons_of_mem _ hk)) _)

variable (h : q ≠ p)
include h

theorem modLine (s : State) (f : Line → Line) : SameLine p s (s.modLine q f) := by
  rw [SameLine, modLine_line, if_neg h]

theorem enterPhase (s : State) (ph : Phase) : SameLine p s (s.enterPhase q ph) :=
  (modLine h s _).trans (of_faultWork (FaultWork.judgeKeys _ _))

theorem testLimit (s : State) : SameLine p s (s.testLimit q) :=
  ite_along ((enterPhase h s .limit).trans (modLine h _ _)) (refl s)

theorem testResume (s : State) : SameLine p s (s.testResume q) :=
  ite_along ((enterPhase h s .flow).trans (testLimit h _)) (refl s)

theorem testSatisfied (s : State) : SameLine p s (s.testSatisfied q) :=
  ite_along ((enterPhase h s .satisfied).trans ((of_faultWork (FaultWork.setEvent _ _)).trans (testResume h _))) (refl s)

theorem testPrimed (s : State) : SameLine p s (s.testPrimed q) :=
  ite_along ((enterPhase h s .flow).trans ((testLimit h _).trans (testSatisfied h _))) (refl s)

theorem startLine (s : State) : SameLine p s (s.startLine q) :=
  ite_along (enterPhase h s .held) (ite_along (enterPhase h s .idle)
    ((modLine h s _).trans ((enterPhase h _ .prime).trans (testPrimed h _))))

theorem takeDeficit (s : State) : SameLine p s (s.takeDeficit q) :=
  (modLine h s _).trans ((ite_along (modLine h _ _) (refl _)).trans ((testSatisfied h _).trans (testResume h _)))

theorem openTurn (s u : State) : SameLine p u (s.openTurn u q) :=
  ite_along (ite_along (startLine h u) (refl u)) (refl u)

end SameLine

/-! ## The line that primes -/

theorem takeDeficit_idle {s : State} {p : LineIx} (h : (s.line p).phase = .idle) (q : LineIx) :
    ((s.takeDeficit q).line p).phase = .idle := by
  by_cases hq : q = p
  · subst hq
    have hnoted : ((s.noteDeficit q).line q).phase = .idle := by rw [State.noteDeficit, modLine_line, if_pos rfl]; exact h
    have hset : (s.noteDeficit q).judgeSetpoint q = s.noteDeficit q := by rw [State.judgeSetpoint, hnoted]; rfl
    have hsatisfied : (s.noteDeficit q).testSatisfied q = s.noteDeficit q := by rw [State.testSatisfied, hnoted]; rfl
    have hresume : (s.noteDeficit q).testResume q = s.noteDeficit q := by rw [State.testResume, hnoted]; rfl
    rw [State.takeDeficit, hset, hsatisfied, hresume, hnoted]
  · rw [show (s.takeDeficit q).line p = s.line p from SameLine.takeDeficit hq s, h]

theorem takeDeficits_idle {s : State} {p : LineIx} (h : (s.line p).phase = .idle) : (s.takeDeficits.line p).phase = .idle := by
  have hjudged (t : State) : t.judgeGrout.line p = t.line p := rfl
  rw [State.takeDeficits, hjudged]
  exact foldl_along (R := fun s t => (s.line p).phase = .idle → (t.line p).phase = .idle) (fun _ h => h) (fun h k hs => k (h hs))
    (fun _ q hs => takeDeficit_idle hs q) allLines s h

theorem judgeKeys_item (s : State) (keys : List FaultKey) (i : Item) : (s.judgeKeys keys).item i = s.item i :=
  (congrArg (State.item · i) (FaultWork.judgeKeys s keys).eq :)

/-- An IDLE line whose window is OPEN and which nothing holds is started in PRIME (R99). -/
theorem startLine_primes {s : State} {p : LineIx} (hhold : s.inForce (.portHold p) = false) (hopen : (s.account p).window = true)
    (he : s.estop = false) (hprime : 0 < s.item .primeVolume) :
    (s.startLine p).line p = { s.line p with phase := .prime, valve := true, setpoint := 1, sinceOpen := 0 } := by
  have hentered : ((s.modLine p fun l => { l with phase := .prime, valve := !s.estop, setpoint := 1, sinceOpen := 0 }).judgeKeys
      (lineKeys p)).line p = { s.line p with phase := .prime, valve := true, setpoint := 1, sinceOpen := 0 } := by
    rw [(FaultWork.judgeKeys _ _).line_eq, modLine_line, if_pos rfl, he]; rfl
  rw [startLine_prime hhold hopen he, testPrimed_of_empty ?_ (by rw [hentered]), hentered]
  rw [judgeKeys_item]
  exact hprime

theorem allLines_split (p : LineIx) : ∃ l l', allLines = l ++ p :: l' ∧ p ∉ l ∧ p ∉ l' := by
  obtain ⟨l, l', h⟩ := List.append_of_mem (mem_allLines p)
  have hnodup : (l ++ p :: l').Nodup := h ▸ (by decide : allLines.Nodup)
  obtain ⟨-, hrest, hapart⟩ := List.nodup_append.mp hnodup
  exact ⟨l, l', h, fun hp => hapart p hp p List.mem_cons_self rfl, (List.nodup_cons.mp hrest).1⟩

/-- A line whose opening point is 0 primes at the boring start, whatever the other lines do (R58, R99). -/
theorem openRing_primes {s t : State} {p : LineIx} (hpoint : s.item (.windowOpen p) = 0) (hidle : (t.line p).phase = .idle)
    (hopen : (t.account p).window = true) (he : t.estop = false) (hprime : 0 < t.item .primeVolume)
    (hhold : (s.openRing t).inForce (.portHold p) = false) :
    (s.openRing t).line p = { t.line p with phase := .prime, valve := true, setpoint := 1, sinceOpen := 0 } := by
  obtain ⟨l, l', hsplit, hl, hl'⟩ := allLines_split p
  have hbefore : LineWork t (l.foldl s.openTurn t) := LineWork.foldl (openTurn_work s) l t
  have hsame : (l.foldl s.openTurn t).line p = t.line p :=
    SameLine.foldl l (fun u q hq => SameLine.openTurn (show q ≠ p from fun h => hl (h ▸ hq)) s u) t
  have hrun : s.openRing t = l'.foldl s.openTurn (s.openTurn (l.foldl s.openTurn t) p) := by
    rw [State.openRing, hsplit, List.foldl_append, List.foldl_cons]
  rw [hrun] at hhold ⊢
  generalize l.foldl s.openTurn t = u at hbefore hsame hhold ⊢
  have hafter : LineWork u (l'.foldl s.openTurn (s.openTurn u p)) := (openTurn_work s u p).trans (LineWork.foldl (openTurn_work s) l' _)
  have hfree : u.inForce (.portHold p) = false := by
    by_contra hheld
    rw [hafter.inForce _ (by simpa using hheld)] at hhold
    cases hhold
  have hturn : s.openTurn u p = (u.startLine p).judgeGrout := by
    rw [State.openTurn, if_pos hpoint, State.takeOpening, hsame, hidle]; rfl
  have hlater : (l'.foldl s.openTurn (s.openTurn u p)).line p = (s.openTurn u p).line p :=
    SameLine.foldl l' (fun v q hq => SameLine.openTurn (show q ≠ p from fun h => hl' (h ▸ hq)) s v) _
  have hwindow : (u.account p).window = true := by
    rw [show u.account p = t.account p from (congrArg (State.account · p) hbefore.eq :)]; exact hopen
  have hstop : u.estop = false := by rw [show u.estop = t.estop from (congrArg State.estop hbefore.eq :)]; exact he
  have hvolume : 0 < u.item .primeVolume := by
    rw [show u.item .primeVolume = t.item .primeVolume from (congrArg (State.item · .primeVolume) hbefore.eq :)]; exact hprime
  rw [hlater, hturn, ← hsame]
  exact startLine_primes hfree hwindow hstop hvolume

end Sys2Proof.Machine
end

section
/-! The boring start of a ring as one operation, and the statement about revolution pulses. -/

namespace Sys2Proof.Machine

section
variable (s : State) (p : LineIx)

theorem startRing_account :
    s.startRing.account p =
      { s.account p with
        target := 0, window := (s.account p).window || s.item (.windowOpen p) == 0
        deficit := deficitOf (s.item .rounding) 0 ((s.whole 0 : Int) + (s.deficit p).d - (0 : Nat)) } := by
  have haccount : s.startRing.account p = s.rolled.restartAccounts.account p := congrArg (fun a : Accounts => a.lines[p]) (startRing_act s)
  rw [haccount, restartAccounts_account, rolled_line]
  rfl

theorem startRing_window :
    (s.startRing.account p).window = true ↔ (s.account p).window = true ∨ s.item (.windowOpen p) = 0 := by
  rw [startRing_account]
  simp

theorem startRing_deficit (hl : -16383 ≤ (s.deficit p).d) (hu : (s.deficit p).d ≤ 16383) :
    (s.startRing.deficit p).d = (s.deficit p).d := by
  rw [State.deficit, startRing_account]
  exact deficitOf_carry hl hu

theorem startRing_totals :
    s.startRing.act.aAcc = 0 ∧ s.startRing.act.unassigned = 0 ∧ s.startRing.act.expected = 0 ∧ s.startRing.act.gapRaised = false ∧
    s.startRing.act.pendingK = none ∧
    (s.startRing.act.kv, s.startRing.act.km) = s.act.pendingK.getD (s.act.kv, s.act.km) := by
  rw [startRing_act, restartAccounts_eq, judgeDeficits_eq]
  exact ⟨rfl, rfl, rfl, rfl, rfl, rfl⟩

end

theorem restartAccounts_estop (s : State) : s.restartAccounts.estop = s.estop := by
  rw [restartAccounts_eq, judgeDeficits_eq]; rfl

theorem restartAccounts_item (s : State) (i : Item) : s.restartAccounts.item i = s.item i := by
  rw [restartAccounts_eq, judgeDeficits_eq]; rfl

theorem LineWork.account_eq {s t : State} (h : LineWork s t) (p : LineIx) : t.account p = s.account p :=
  (congrArg (State.account · p) h.eq :)

theorem LineWork.estop_eq {s t : State} (h : LineWork s t) : t.estop = s.estop := (congrArg State.estop h.eq :)

theorem LineWork.item_eq {s t : State} (h : LineWork s t) (i : Item) : t.item i = s.item i := (congrArg (State.item · i) h.eq :)

/-- An IDLE line whose opening point is 0 primes at the ACT's part of the boring start (R58, R99). -/
theorem startAccountRing_primes {s : State} {p : LineIx} (hpoint : s.item (.windowOpen p) = 0) (hidle : (s.line p).phase = .idle)
    (he : s.estop = false) (hhold : s.startAccountRing.inForce (.portHold p) = false) (hprime : 0 < s.item .primeVolume) :
    (s.startAccountRing.line p).phase = .prime ∧ (s.startAccountRing.line p).sinceOpen = 0 ∧
      (s.startAccountRing.line p).setpoint = 1 ∧ (s.startAccountRing.line p).valve = true := by
  have hwork := LineWork.takeDeficits s.restartAccounts
  have hrested : (s.restartAccounts.takeDeficits.line p).phase = .idle :=
    takeDeficits_idle (by rw [restartAccounts_line]; exact hidle)
  have hopen : (s.restartAccounts.takeDeficits.account p).window = true := by
    rw [hwork.account_eq, restartAccounts_account]
    simp [hpoint]
  have hstop : s.restartAccounts.takeDeficits.estop = false := by rw [hwork.estop_eq, restartAccounts_estop]; exact he
  have hvolume : 0 < s.restartAccounts.takeDeficits.item .primeVolume := by
    rw [hwork.item_eq, restartAccounts_item]; exact hprime
  rw [startAccountRing_eq] at hhold ⊢
  rw [openRing_primes hpoint hrested hopen hstop hvolume hhold]
  exact ⟨rfl, rfl, rfl, rfl⟩

theorem startRing_primes {s : State} {p : LineIx} (hpoint : s.item (.windowOpen p) = 0) (hidle : (s.line p).phase = .idle)
    (he : s.estop = false) (hhold : s.startRing.inForce (.portHold p) = false) (hprime : 0 < s.item .primeVolume) :
    (s.startRing.line p).phase = .prime ∧ (s.startRing.line p).sinceOpen = 0 ∧ (s.startRing.line p).setpoint = 1 ∧
      (s.startRing.line p).valve = true := by
  have hrolled : (s.rolled.line p).phase = .idle := by rw [rolled_line]; exact hidle
  have hreset (t : State) : t.ringReset.line p = t.line p ∧ t.ringReset.inForce (.portHold p) = t.inForce (.portHold p) := ⟨rfl, rfl⟩
  rw [startRing_eq, (hreset _).2] at hhold
  rw [startRing_eq, (hreset _).1]
  exact startAccountRing_primes (s := s.rolled) hpoint hrolled he hhold hprime

theorem startRing_carry (s : State) (p : LineIx) :
    (s.startRing.line p).carry = (s.deficit p).d ∧ (s.startRing.line p).delivered = 0 ∧
      ((s.startRing.line p).outThroughout = true ↔ (s.line p).phase = .out) := by
  have hledger := startRing_ledger s p
  refine ⟨congrArg Ledger.carry hledger, congrArg Ledger.delivered hledger, ?_⟩
  rw [show (s.startRing.line p).outThroughout = ((s.line p).phase == .out) from congrArg Ledger.outThroughout hledger, beq_iff_eq]

theorem startRing_target (s : State) (p : LineIx) : (s.startRing.account p).target = 0 := by rw [startRing_account]

theorem startRing_counts (s : State) :
    s.startRing.fsv.counters = Vector.replicate 12 0 ∧ s.startRing.fsv.retryCounts = Vector.replicate 55 0 := by
  rw [startRing_eq]
  exact ⟨rfl, rfl⟩

/-- A pulse whose period is a turning one finds the cutterhead TURNING (R32). -/
theorem measured_turning {s : State} (h : s.pulseTurns = true) (a : Advance) :
    s.measured a = { s.measured a with cutter := .turning } := by
  have hcutter : (s.measured a).cutter = .turning := if_pos h
  rw [← hcutter]

theorem pulseTurns_of_mem {s : State} (h : ∃ t ∈ s.pulsePeriod, t ≤ s.item .turnPeriod) : s.pulseTurns = true := by
  obtain ⟨t, ht, hle⟩ := h
  rw [State.pulseTurns, Option.mem_def.mp ht]
  simpa using hle

/-- Settles O13: the pulse is measured once, and each course that SPINUP can then take has its own lemma; of the boring start the steps
before and after the lines' are equations, and the lines' step leaves all but the lines alone. -/
theorem revolutionPulsesAreMeasured : Obligations.RevolutionPulsesAreMeasured := by
  refine ⟨⟨⟨fun s => exec_revolutionPulse_measures, fun s h hc => ⟨exec_revolutionPulse_unconfirmed h hc, ?_⟩⟩, fun s => ?_,
    fun s h hc => exec_revolutionPulse_boring h hc⟩, fun s h hc hperiod => ?_⟩
  · exact exec_revolutionPulse_bores h hc
  · obtain ⟨haccrued, hunassigned, hexpected, hgap, hpending, hpair⟩ := startRing_totals s
    obtain ⟨hcounters, hretries⟩ := startRing_counts s
    refine ⟨startRing_group s, startRing_adu s, fun p => ?_, haccrued, hunassigned, hexpected, hgap, hpending, hpair, startRing_mku s,
      hcounters, hretries, startRing_mst s⟩
    obtain ⟨hcarry, hdelivered, hout⟩ := startRing_carry s p
    exact ⟨hcarry, hdelivered, hout, startRing_target s p, startRing_window s p, startRing_deficit s p, startRing_primes⟩
  · have hturns := pulseTurns_of_mem hperiod
    intro hn ha hcut
    rw [exec_revolutionPulse_halted h hc hturns hn ha hcut]
    exact congrArg (fun a => Host.Outcome.next (s.modAdu fun _ =>
      { a with
        cycle := .paused, permitKept := true, thrustPermit := false, spinup := none, rateLevel := 0
        confirmations := s.adu.confirmations + 1, lPen := s.pulsePen })) (measured_turning hturns s.adu)

end Sys2Proof.Machine
end

section
/-! An invariant that every operation of a part with RESET released keeps is kept by every step. -/

namespace Sys2Proof.Machine

/-! ## Work beside the invariants -/

/-- `t` is `s` but for the waiting commands, the seconds count, the ms counter, the FSV, the ports and the notices. -/
structure Aside (s t : State) : Prop where
  eq : t = { s with
    pending := t.pending, seconds := t.seconds, ms := t.ms, fsv := t.fsv, ports := t.ports, notices := t.notices }

theorem FaultWork.aside {s t : State} (h : FaultWork s t) : Aside s t := ⟨by rw [h.eq]⟩

theorem PortWork.aside {s t : State} (h : PortWork s t) : Aside s t := ⟨by rw [h.eq]⟩

namespace Aside

theorem refl (s : State) : Aside s s := ⟨rfl⟩

theorem trans {s t u : State} (h : Aside s t) (k : Aside t u) : Aside s u := ⟨by rw [k.eq, h.eq]⟩

theorem foldl {α : Type} {f : State → α → State} (h : ∀ t a, Aside t (f t a)) (l : List α) (s : State) :
    Aside s (l.foldl f s) := foldl_along refl trans h l s

theorem modFsv (s : State) (f : Faults → Faults) : Aside s (s.modFsv f) := ⟨rfl⟩

theorem modPort (s : State) (st : Station) (f : Port → Port) : Aside s (s.modPort st f) := ⟨rfl⟩

theorem setEvent (s : State) (e : Event) : Aside s (s.setEvent e) := ⟨rfl⟩

theorem send (s : State) (n : Notice) : Aside s (s.send n) := ⟨rfl⟩

theorem notices (s : State) (l : List Notice) : Aside s { s with notices := l } := ⟨rfl⟩

theorem pending (s : State) (l : List Instr) : Aside s { s with pending := l } := ⟨rfl⟩

theorem countSecond (s : State) : Aside s s.countSecond := ⟨rfl⟩

theorem attended (s : State) (st : Station) : Aside s (s.attended st) := ⟨rfl⟩

theorem removeEntry (s : State) (key : FaultKey) : Aside s (s.removeEntry key) := by
  have hnoticed (t : State) : Aside t (t.noticeRemoval key) := by
    unfold State.noticeRemoval
    split
    · exact send t _
    · exact refl t
  exact (modFsv s _).trans ((FaultWork.announce _ _).aside.trans (hnoticed _))

theorem expireRetry (s : State) (key : FaultKey) : Aside s (s.expireRetry key) := by
  unfold State.expireRetry
  split
  · exact ite_along ((modFsv s _).trans (removeEntry _ _)) (refl s)
  · exact refl s

theorem clearOverflow (s : State) : Aside s s.clearOverflow := by
  have hraised (t : State) : Aside t t.raiseAfresh :=
    foldl (fun u k => ite_along ((FaultWork.raiseUnder u k _).trans (FaultWork.announceEntering _ _)).aside (refl u)) _ t
  have hnoticed (t : State) : Aside t t.noticeUnblocked := foldl (fun u _ => ite_along (send u _) (refl u)) _ t
  exact (modFsv s _).trans ((hraised _).trans ((hnoticed _).trans (FaultWork.announceLeaving _ _).aside))

theorem reviseReported (s : State) (key : FaultKey) : Aside s (s.reviseReported key) := by
  unfold State.reviseReported
  dsimp only
  split
  · exact ite_along ((FaultWork.raiseUnder s key _).aside.trans ((modFsv _ _).trans (FaultWork.announce _ _).aside)) (refl s)
  · exact refl s

theorem releaseFirst (s : State) : Aside s s.releaseFirst.1 := by
  unfold State.releaseFirst
  split
  · exact refl s
  · exact ⟨rfl⟩

theorem requestOverflowClear (s : State) (st : Station) (src : Nat) : Aside s (s.requestOverflowClear st src).1 := by
  unfold State.requestOverflowClear
  split
  · exact refl s
  · exact clearOverflow s

theorem requestFaultClear (s : State) (st : Station) (cls src : Nat) : Aside s (s.requestFaultClear st cls src).1 := by
  unfold State.requestFaultClear
  split_ifs
  · exact requestOverflowClear s st src
  · exact refl s
  · repeat' split
    case h_2.isFalse => exact removeEntry s _
    all_goals exact refl s

end Aside

/-! ## What the commands are made of -/

/-- With RESET released, what holds of `s` holds of `t`, and RESET is still released. -/
structure Keeps (I : State → Prop) (s t : State) : Prop where
  kept : s.resetActive = false ∧ I s → t.resetActive = false ∧ I t

/-- With RESET released, the operations that commands, notices and the passing of time are made of keep `I`. -/
structure Upheld (I : State → Prop) : Prop where
  aside : ∀ {s t}, Aside s t → Keeps I s t
  passMs : ∀ s, Keeps I s s.passMs
  take : ∀ s n, Keeps I s (s.take n)
  pulse : ∀ s g e, Keeps I s (s.pulse g e)
  expireDwell : ∀ s g, Keeps I s (s.expireDwell g)
  takeRevolution : ∀ s, Keeps I s s.takeRevolution
  expireStopTimer : ∀ s, Keeps I s s.expireStopTimer
  expireSpinup : ∀ s, Keeps I s s.expireSpinup
  expirePieceTimer : ∀ s pc, Keeps I s (s.expirePieceTimer pc)
  expireWait : ∀ s pc, Keeps I s (s.expireWait pc)
  enterStale : ∀ s m, Keeps I s (s.enterStale m)
  groutTick : ∀ s, Keeps I s s.groutTick
  muckTick : ∀ s, Keeps I s s.muckTick
  assertStop : ∀ s, Keeps I s s.assertStop
  releaseStop : ∀ s, Keeps I s s.releaseStop
  takeReport : ∀ s m v, Keeps I s (s.takeReport m v)
  requestConfigure : ∀ s pairs, Keeps I s (s.requestConfigure pairs).1
  requestReference : ∀ s v, Keeps I s (s.requestReference v).1
  requestStart : ∀ s, Keeps I s s.requestStart.1
  requestStop : ∀ s, Keeps I s s.requestStop.1
  requestLevel : ∀ s n, Keeps I s (s.requestLevel n).1
  requestRing : ∀ s n k, Keeps I s (s.requestRing n k).1
  requestClaim : ∀ s c, Keeps I s (s.requestClaim c).1
  requestWithdraw : ∀ s c, Keeps I s (s.requestWithdraw c).1
  requestPlaced : ∀ s c, Keeps I s (s.requestPlaced c).1
  requestSuspend : ∀ s p, Keeps I s (s.requestSuspend p).1
  requestResume : ∀ s p, Keeps I s (s.requestResume p).1
  requestTrainIn : ∀ s n c, Keeps I s (s.requestTrainIn n c).1
  requestCarShift : ∀ s, Keeps I s s.requestCarShift.1
  requestTrainOut : ∀ s, Keeps I s s.requestTrainOut.1

namespace Keeps
variable {I : State → Prop}

theorem refl (s : State) : Keeps I s s := ⟨id⟩

theorem trans {s t u : State} (h : Keeps I s t) (k : Keeps I t u) : Keeps I s u := ⟨fun hs => k.kept (h.kept hs)⟩

theorem foldl {α : Type} {f : State → α → State} (h : ∀ t a, Keeps I t (f t a)) (l : List α) (s : State) :
    Keeps I s (l.foldl f s) := foldl_along refl trans h l s

/-- What a command's effect keeps the command keeps. -/
theorem run {s t : State} {f : State → State} (hrun : s.run f = .next t) (hf : Keeps I s (f s)) : Keeps I s t where
  kept hs := by
    rw [run_awake hs.1] at hrun
    cases hrun
    exact hf.kept hs

end Keeps

namespace Upheld
variable {I : State → Prop} (h : Upheld I)
include h

theorem settled (s : State) : Keeps I s s.settled where
  kept := settle_keeps (fun t => t.resetActive = false ∧ I t) (fun t key => (h.aside (FaultWork.report t key).aside).kept)
    (fun t n rest _ => ((h.aside (.notices t rest)).trans (h.take _ n)).kept) _ s

theorem failFrame (s : State) (st : Station) (code : Nat) (r : Reply) (counter : ErrorCounter) (valid : Bool) :
    Keeps I s (s.failFrame st code r counter valid) :=
  (h.aside ((Aside.modPort s st _).trans ((ite_along (Aside.modPort _ st _) (.refl _)).trans (.modPort _ st _)))).trans
    (h.settled _)

theorem request {owner : State → State × Reply} (ho : ∀ u, Keeps I u (owner u).1) (s : State) (st : Station) (code : Nat) :
    Keeps I s (s.request st code owner) :=
  (h.aside (.attended s st)).trans ((h.settled _).trans ((ho _).trans ((h.aside (.modPort _ st _)).trans (h.settled _))))

theorem requestMeasure (s : State) (st : Station) (pairs : List (Payload × Payload)) :
    Keeps I s (s.requestMeasure st pairs).1 := by
  have hpairs : Keeps I s (s.takePairs st pairs) := Keeps.foldl (fun t pr => by
    split
    · exact (h.takeReport t _ _).trans (h.settled _)
    · exact Keeps.refl t) _ s
  unfold State.requestMeasure
  split
  · exact Keeps.refl s
  · exact hpairs

theorem ownerOf (st : Station) (code : Nat) (data : List Payload) (s : State) : Keeps I s (ownerOf st code data s).1 := by
  unfold Machine.ownerOf
  split
  · exact h.requestConfigure s _
  · exact h.requestReference s _
  · exact h.requestStart s
  · exact h.requestStop s
  · exact h.requestLevel s _
  · exact h.requestRing s _ _
  · exact h.aside (.releaseFirst s)
  · exact h.requestClaim s _
  · exact h.requestWithdraw s _
  · exact h.requestPlaced s _
  · exact h.requestSuspend s _
  · exact h.requestResume s _
  · exact h.requestTrainIn s _ _
  · exact h.requestCarShift s
  · exact h.requestTrainOut s
  · exact h.requestMeasure s st _
  · exact h.aside (.requestFaultClear s st _ _)
  · exact h.aside (PortWork.requestPortReset s st).aside

theorem closeFrame (s : State) (st : Station) (data : List LinkWord) (extraBits : Nat) :
    Keeps I s (s.closeFrame st data extraBits) := by
  unfold State.closeFrame
  split
  · exact Keeps.refl s
  · unfold State.finishFrame
    split
    · exact h.failFrame ..
    · exact (h.aside (.attended s st)).trans (h.settled _)
    · exact h.request (h.ownerOf st _ _) s st _


/-- Every command but DEVICE_RESET keeps `I` and leaves RESET released. -/
theorem exec {i : Instr} {s t : State} (hi : i ≠ .deviceReset) (he : exec i s = .next t) : Keeps I s t := by
  cases i with dsimp only [Machine.exec] at he
  | deviceReset => exact absurd rfl hi
  | resetRelease =>
    cases he
    have hsame (hr : s.resetActive = false) : ({ s with resetActive := false } : State) = s := by rw [← hr]
    exact ⟨fun hs => by rw [hsame hs.1]; exact hs⟩
  | secondsTick => exact Keeps.run he (h.aside (.countSecond s))
  | strokePulse g e => exact Keeps.run he ((h.pulse s g e).trans (h.settled _))
  | dwellTimeExpiry g => exact Keeps.run he ((h.expireDwell s g).trans (h.settled _))
  | revolutionPulse => exact Keeps.run he ((h.takeRevolution s).trans (h.settled _))
  | stopTimerExpiry => exact Keeps.run he ((h.expireStopTimer s).trans (h.settled _))
  | spinupTimeExpiry => exact Keeps.run he ((h.expireSpinup s).trans (h.settled _))
  | estopAssert =>
    cases he
    have hstop : Keeps I s (if s.estop then s else s.assertStop.settled) :=
      ite_along (Keeps.refl s) ((h.assertStop s).trans (h.settled _))
    exact ⟨fun hs => by rw [if_neg (by simp [hs.1])]; exact hstop.kept hs⟩
  | estopRelease =>
    cases he
    have hrelease : Keeps I s (if s.estop then s.releaseStop.settled else s) :=
      ite_along ((h.releaseStop s).trans (h.settled _)) (Keeps.refl s)
    exact ⟨fun hs => by rw [if_neg (by simp [hs.1])]; exact hrelease.kept hs⟩
  | selectActive st => exact Keeps.run he (h.aside (PortWork.openFrame s st).aside)
  | headerCheck st w => exact Keeps.run he (h.aside (PortWork.takeHeader s st w).aside)
  | linkWordSent st => exact Keeps.run he (h.aside (PortWork.wordSent s st).aside)
  | frameEnd st data extra => exact Keeps.run he (h.closeFrame s st data extra)
  | configure pairs => exact Keeps.run he (h.request (fun u => h.requestConfigure u pairs) s _ _)
  | referenceStrokes values =>
    have heffect : Keeps I s (if values.length = 10 then s.request .cabin 2 fun u => u.requestReference (strokesOf values)
        else s.failFrame .cabin 2 { outcome := .frame, reason := 2, skip := 0 } .frame true) :=
      ite_along (h.request (fun u => h.requestReference u _) s _ _) (h.failFrame ..)
    exact Keeps.run he heffect
  | advanceStart => exact Keeps.run he (h.request h.requestStart s _ _)
  | advanceStop => exact Keeps.run he (h.request h.requestStop s _ _)
  | setLevel v => exact Keeps.run he (h.request (fun u => h.requestLevel u _) s _ _)
  | ringBegin n k => exact Keeps.run he (h.request (fun u => h.requestRing u _ _) s _ _)
  | firstFaultRelease => exact Keeps.run he (h.request (fun u => h.aside (.releaseFirst u)) s _ _)
  | claimPiece c => exact Keeps.run he (h.request (fun u => h.requestClaim u _) s _ _)
  | withdrawPiece c => exact Keeps.run he (h.request (fun u => h.requestWithdraw u _) s _ _)
  | piecePlaced c => exact Keeps.run he (h.request (fun u => h.requestPlaced u _) s _ _)
  | lineSuspend l => exact Keeps.run he (h.request (fun u => h.requestSuspend u _) s _ _)
  | lineResume l => exact Keeps.run he (h.request (fun u => h.requestResume u _) s _ _)
  | trainIn n c => exact Keeps.run he (h.request (fun u => h.requestTrainIn u _ _) s _ _)
  | carShift => exact Keeps.run he (h.request h.requestCarShift s _ _)
  | trainOut => exact Keeps.run he (h.request h.requestTrainOut s _ _)
  | measure st pairs => exact Keeps.run he (h.request (fun u => h.requestMeasure u st pairs) s _ _)
  | faultClear st c n => exact Keeps.run he (h.request (fun u => h.aside (.requestFaultClear u st _ _)) s _ _)
  | overflowClear st n => exact Keeps.run he (h.request (fun u => h.aside (.requestOverflowClear u st _)) s _ _)
  | portReset st => exact Keeps.run he (h.request (fun u => h.aside (PortWork.requestPortReset u st).aside) s _ _)
  | silenceTimeExpiry st => exact Keeps.run he ((h.aside (PortWork.expireSilence s st).aside).trans (h.settled _))
  | freshLimitPassed m => exact Keeps.run he ((h.enterStale s m).trans (h.settled _))
  | groutSecondTick => exact Keeps.run he ((h.groutTick s).trans (h.settled _))
  | muckSecondTick => exact Keeps.run he ((h.muckTick s).trans (h.settled _))
  | retryTimeExpiry key => exact Keeps.run he ((h.aside (.expireRetry s key)).trans (h.settled _))
  | pieceTimerExpiry pc => exact Keeps.run he ((h.expirePieceTimer s pc).trans (h.settled _))
  | queueWaitExpiry pc => exact Keeps.run he ((h.expireWait s pc).trans (h.settled _))

theorem runIfDue (s : State) (i : Instr) : Keeps I s (s.runIfDue i) := by
  unfold State.runIfDue
  split
  · next hdue =>
    split
    · next he => exact h.exec (by rintro rfl; cases hdue) he
    · exact Keeps.refl s
  · exact Keeps.refl s

theorem tick (s : State) : Keeps I s s.tick where
  kept hs := by
    rw [tick_awake hs.1, runDue_eq (s := s.passMs) hs.1]
    exact ((h.passMs s).trans ((Keeps.foldl h.runIfDue _ _).trans (Keeps.foldl h.runIfDue _ _))).kept hs

/-- Every step keeps `I`, where the reset values have it and the inputs' levels and the waiting commands may change under RESET. -/
theorem step (hreset : ∀ s : State, I s.deviceReset)
    (hheld : ∀ (s : State) (l : List Instr) (r e : Bool), s.resetActive = true → I s →
      I { s with pending := l, resetActive := r, estop := e })
    {s t : State} (hs : I s) (he : step s = .next t) : I t := by
  cases hp : s.pending with
  | nil =>
    rw [step_of_empty hp] at he
    cases he
    cases hr : s.resetActive with
    | true => rw [tick_held hr]; exact hs
    | false => exact ((h.tick s).kept ⟨hr, hs⟩).2
  | cons i rest =>
    rw [step_of_cons hp] at he
    by_cases hd : i = .deviceReset
    · subst hd; cases he; exact hreset _
    cases hr : s.resetActive with
    | false => exact (((h.aside (.pending s rest)).trans (h.exec hd he)).kept ⟨hr, hs⟩).2
    | true =>
      have hlevels (r e : Bool) : I { s with pending := rest, resetActive := r, estop := e } := hheld s rest r e hr hs
      by_cases hl : i = .resetRelease
      · subst hl; cases he; exact hlevels false s.estop
      by_cases ha : i = .estopAssert
      · subst ha; rw [exec_estopAssert_held (by exact hr)] at he; cases he; exact hlevels s.resetActive true
      by_cases hx : i = .estopRelease
      · subst hx; rw [exec_estopRelease_held (by exact hr)] at he; cases he; exact hlevels s.resetActive false
      rw [exec_held (by exact hr) i hd hl ha hx] at he
      cases he
      exact hlevels s.resetActive s.estop

end Upheld

end Sys2Proof.Machine
end

section
/-! The permits, the spin-up time and the open ring record follow the cycle: which operations leave them alone, and what each move of
the cycle makes of them. -/

namespace Sys2Proof.Machine

/-- What `State.cycleSound` speaks of. -/
structure CyclePart where
  cycle : Cycle
  thrustPermit : Bool
  cutterPermit : Bool
  permitKept : Bool
  /-- the spin-up time runs -/
  spinning : Bool
  ring : RingState
  estop : Bool
  resetActive : Bool

def State.cyclePart (s : State) : CyclePart :=
  { cycle := s.adu.cycle, thrustPermit := s.adu.thrustPermit, cutterPermit := s.adu.cutterPermit, permitKept := s.adu.permitKept
    spinning := s.adu.spinup.isSome, ring := s.rbu.record.state, estop := s.estop, resetActive := s.resetActive }

/-- `State.cycleSound`, said of what it speaks of. -/
def CyclePart.sound (c : CyclePart) : Prop :=
  (c.thrustPermit = true ↔ c.cycle = .boring) ∧
  (c.cutterPermit = true ↔ c.cycle = .spinup ∨ c.cycle = .boring ∨ c.cycle = .paused ∧ c.permitKept = true) ∧
  (c.permitKept = true → c.cycle = .paused) ∧
  (c.spinning = true ↔ c.cycle = .spinup) ∧
  (c.ring = .building ↔ c.cycle = .ringBuild) ∧
  (c.estop = true ∨ c.resetActive = true → c.cycle = .standstill ∨ c.cycle = .ringBuild) ∧
  (c.resetActive = true → c.cycle = .standstill)

theorem cycleSound_iff (s : State) : s.cycleSound ↔ s.cyclePart.sound := Iff.rfl

theorem Keeps.of_cyclePart {s t : State} (h : t.cyclePart = s.cyclePart) : Keeps State.cycleSound s t where
  kept hs := by
    obtain ⟨hr, hsound⟩ := hs
    rw [cycleSound_iff] at hsound ⊢
    rw [h]
    exact ⟨(congrArg CyclePart.resetActive h).trans hr, hsound⟩

/-! ## What leaves it alone -/

theorem Apart.cyclePart {s t : State} (h : Apart s t) : t.cyclePart = s.cyclePart := by rw [h.eq]; rfl

theorem Downstream.cyclePart {s t : State} (h : Downstream s t) : t.cyclePart = s.cyclePart := h.apart.cyclePart

theorem LineWork.cyclePart {s t : State} (h : LineWork s t) : t.cyclePart = s.cyclePart := h.apart.cyclePart

theorem Aside.cyclePart {s t : State} (h : Aside s t) : t.cyclePart = s.cyclePart := by rw [h.eq]; rfl

theorem ite_cyclePart {s a b : State} {c : Prop} [Decidable c] (ha : a.cyclePart = s.cyclePart) (hb : b.cyclePart = s.cyclePart) :
    (if c then a else b).cyclePart = s.cyclePart := by split <;> assumption

section
variable (s : State)

@[simp] theorem cyclePart_send (n : Notice) : (s.send n).cyclePart = s.cyclePart := rfl

@[simp] theorem cyclePart_setEvent (e : Event) : (s.setEvent e).cyclePart = s.cyclePart := rfl

@[simp] theorem cyclePart_modGroup (g : GroupIx) (f : Group → Group) : (s.modGroup g f).cyclePart = s.cyclePart := rfl

@[simp] theorem cyclePart_modPiece (pc : Piece) (f : PieceRecord → PieceRecord) : (s.modPiece pc f).cyclePart = s.cyclePart := rfl

@[simp] theorem cyclePart_judgePen : s.judgePen.cyclePart = s.cyclePart := rfl

@[simp] theorem cyclePart_setCause (c : StopCause) : (s.setCause c).cyclePart = s.cyclePart := rfl

@[simp] theorem cyclePart_raise (key : FaultKey) : (s.raise key).cyclePart = s.cyclePart := (FaultWork.raise s key).aside.cyclePart

@[simp] theorem cyclePart_judgeKeys (keys : List FaultKey) : (s.judgeKeys keys).cyclePart = s.cyclePart :=
  (FaultWork.judgeKeys s keys).aside.cyclePart

@[simp] theorem cyclePart_judgePermit : s.judgePermit.cyclePart = s.cyclePart := (Downstream.judgePermit s).cyclePart

@[simp] theorem cyclePart_changeGroups (f : GroupIx → Group → Group) : (s.changeGroups f).cyclePart = s.cyclePart := by
  rw [changeGroups_eq]; rfl

@[simp] theorem cyclePart_jguPush : s.jguPush.cyclePart = s.cyclePart :=
  (foldl_along (R := fun t u => u.cyclePart = t.cyclePart) (fun _ => rfl) (fun h k => k.trans h)
    (fun t _ => ite_cyclePart (cyclePart_send t _) rfl) allGroups _).trans (cyclePart_changeGroups s _)

@[simp] theorem cyclePart_holdIfBoring : s.holdIfBoring.cyclePart = s.cyclePart := ite_cyclePart (cyclePart_changeGroups s _) rfl

@[simp] theorem cyclePart_stopDwells : s.stopDwells.cyclePart = s.cyclePart := rfl

@[simp] theorem cyclePart_suspendTimers : s.suspendTimers.cyclePart = s.cyclePart := rfl

@[simp] theorem cyclePart_restartDwells : s.restartDwells.cyclePart = s.cyclePart := ite_cyclePart rfl rfl

@[simp] theorem cyclePart_resumeTimers : s.resumeTimers.cyclePart = s.cyclePart := ite_cyclePart rfl rfl

@[simp] theorem cyclePart_grant (pc : Piece) : (s.grant pc).cyclePart = s.cyclePart := cyclePart_changeGroups ..

@[simp] theorem cyclePart_examineHead : s.examineHead.cyclePart = s.cyclePart := by
  unfold State.examineHead
  split
  · rfl
  · split
    · rfl
    · exact cyclePart_grant ..

@[simp] theorem cyclePart_arriveClear (g : GroupIx) (pc : Piece) : (s.arriveClear g pc).cyclePart = s.cyclePart :=
  ite_cyclePart rfl (ite_cyclePart rfl rfl)

@[simp] theorem cyclePart_dequeue (pc : Piece) : (s.dequeue pc).cyclePart = s.cyclePart := rfl

@[simp] theorem cyclePart_expireWait (pc : Piece) : (s.expireWait pc).cyclePart = s.cyclePart :=
  ite_cyclePart (ite_cyclePart (cyclePart_examineHead _) rfl) rfl

@[simp] theorem cyclePart_expirePieceTimer (pc : Piece) : (s.expirePieceTimer pc).cyclePart = s.cyclePart :=
  ite_cyclePart (cyclePart_raise _ _) rfl

@[simp] theorem cyclePart_sendBack (pc : Piece) (st : PieceState) : (s.sendBack pc st).cyclePart = s.cyclePart :=
  cyclePart_changeGroups ..

@[simp] theorem cyclePart_expireDwell (g : GroupIx) : (s.expireDwell g).cyclePart = s.cyclePart :=
  ite_cyclePart (cyclePart_changeGroups ..) rfl

@[simp] theorem cyclePart_comparePulse (g : GroupIx) : (s.comparePulse g).cyclePart = s.cyclePart := by
  unfold State.comparePulse
  dsimp only
  split
  case h_3 => exact ite_cyclePart (cyclePart_raise _ _) rfl
  case h_1 => exact ite_cyclePart (cyclePart_changeGroups ..) rfl
  case h_2 | h_4 => exact ite_cyclePart rfl rfl
  all_goals rfl

@[simp] theorem cyclePart_pulse (g : GroupIx) (extending : Bool) : (s.pulse g extending).cyclePart = s.cyclePart :=
  ite_cyclePart rfl (cyclePart_comparePulse _ g)

theorem cyclePart_passMs : s.passMs.cyclePart = s.cyclePart := by
  simp [State.cyclePart, State.passMs, countDown]

theorem withPiece_cyclePart (code : Nat) (f : Piece → State × Reply) (h : ∀ pc, (f pc).1.cyclePart = s.cyclePart) :
    (s.withPiece code f).1.cyclePart = s.cyclePart := by
  unfold State.withPiece
  split
  · rfl
  · split
    · rfl
    · exact h _

theorem cyclePart_requestClaim (code : Nat) : (s.requestClaim code).1.cyclePart = s.cyclePart := by
  refine withPiece_cyclePart s code _ fun pc => ?_
  split
  · rfl
  · unfold State.takeClaim
    split
    · exact cyclePart_grant s pc
    · split <;> rfl

theorem cyclePart_requestPlaced (code : Nat) : (s.requestPlaced code).1.cyclePart = s.cyclePart := by
  refine withPiece_cyclePart s code _ fun pc => ?_
  split
  · exact cyclePart_sendBack s pc _
  · rfl

theorem cyclePart_requestWithdraw (code : Nat) : (s.requestWithdraw code).1.cyclePart = s.cyclePart := by
  refine withPiece_cyclePart s code _ fun pc => ?_
  split
  case h_2 => exact ite_cyclePart (cyclePart_examineHead _) rfl
  case h_3 | h_4 => exact cyclePart_sendBack s pc _
  all_goals rfl

theorem cyclePart_requestReference (v : GroupIx → Nat) : (s.requestReference v).1.cyclePart = s.cyclePart := by
  unfold State.requestReference
  split
  · rfl
  · exact cyclePart_changeGroups ..

theorem cyclePart_requestLevel (n : Nat) : (s.requestLevel n).1.cyclePart = s.cyclePart := by
  unfold State.requestLevel
  split <;> rfl

theorem cyclePart_requestSuspend (index : Nat) : (s.requestSuspend index).1.cyclePart = s.cyclePart := by
  unfold State.requestSuspend
  split
  · rfl
  · split
    case h_3 => exact ((LineWork.enterPhase s _ .out).trans (LineWork.judgeGrout _)).cyclePart
    all_goals rfl

theorem cyclePart_requestResume (index : Nat) : (s.requestResume index).1.cyclePart = s.cyclePart := by
  unfold State.requestResume
  split
  · rfl
  · split
    · exact ((Downstream.modLine s _ _).trans ((LineWork.startLine _ _).trans (LineWork.judgeGrout _)).downstream).cyclePart
    · rfl

theorem cyclePart_requestTrainIn (n capacity : Nat) : (s.requestTrainIn n capacity).1.cyclePart = s.cyclePart := by
  unfold State.requestTrainIn
  split
  · rfl
  · exact ((Downstream.modMku s _).trans ((Downstream.testCarDue _).trans (Downstream.judgePermit _))).cyclePart

theorem cyclePart_requestCarShift : s.requestCarShift.1.cyclePart = s.cyclePart := by
  unfold State.requestCarShift
  split
  · rfl
  · exact ((Downstream.modMku s _).trans
      ((ite_along (Downstream.testCarDue _) (Downstream.setEvent _ _)).trans (Downstream.judgePermit _))).cyclePart

/-! ## The moves of the cycle -/

theorem cyclePart_enterCycle (c : Cycle) : (s.enterCycle c).cyclePart = { s.cyclePart with cycle := c, permitKept := false } :=
  cyclePart_judgeKeys _ _

/-- Entry into STANDSTILL moves the cycle alone (R40). -/
theorem cyclePart_enterStandstill :
    s.enterStandstill.cyclePart = { s.cyclePart with cycle := .standstill, permitKept := false } :=
  (Downstream.flush _).cyclePart.trans (cyclePart_enterCycle s _)

/-- Neither the move of the cycle nor the flush changes the cutterhead condition. -/
theorem cutter_enterCycle_flush (c : Cycle) : (s.enterCycle c).flush.adu.cutter = s.adu.cutter := by
  have hflush : (s.enterCycle c).flush.adu.cutter = (s.enterCycle c).adu.cutter :=
    (congrArg (fun t : State => t.adu.cutter) (Downstream.flush (s.enterCycle c)).eq :)
  have hkeys : (s.enterCycle c).adu.cutter = s.adu.cutter :=
    (congrArg (fun t : State => t.adu.cutter)
      (FaultWork.judgeKeys ((s.modAdu fun a => { a with cycle := c, permitKept := false }).judgeRate) cycleKeys).eq :)
  exact hflush.trans hkeys

theorem adu_holdIfBoring : s.holdIfBoring.adu = s.adu := by
  unfold State.holdIfBoring State.jguHold
  rw [changeGroups_eq]
  split <;> rfl

/-- Entry into RUNDOWN removes the permits; with the cutterhead STOPPED it is the entry into STANDSTILL (R40). -/
theorem cyclePart_enterRundown :
    s.enterRundown.cyclePart =
      { s.cyclePart with
        cycle := if s.adu.cutter = .stopped then .standstill else .rundown
        thrustPermit := false, cutterPermit := false, permitKept := false, spinning := false } := by
  have hheld := cyclePart_holdIfBoring s
  have hcutter : (((s.holdIfBoring.modAdu fun a => { a with thrustPermit := false, cutterPermit := false, spinup := none }).enterCycle
      .rundown).flush).adu.cutter = s.adu.cutter :=
    (cutter_enterCycle_flush _ _).trans (show s.holdIfBoring.adu.cutter = s.adu.cutter by rw [adu_holdIfBoring])
  have hrundown : (((s.holdIfBoring.modAdu fun a => { a with thrustPermit := false, cutterPermit := false, spinup := none }).enterCycle
      .rundown).flush).cyclePart =
      { s.cyclePart with
        cycle := .rundown, thrustPermit := false, cutterPermit := false, permitKept := false, spinning := false } := by
    rw [(Downstream.flush _).cyclePart, cyclePart_enterCycle, ← hheld]
    rfl
  unfold State.enterRundown
  dsimp only
  rw [hcutter]
  cases hc : s.adu.cutter with
  | stopped =>
    rw [if_pos (by rfl), if_pos rfl, cyclePart_enterStandstill, cyclePart_setEvent, hrundown]
  | turning | slow =>
    rw [if_neg (by decide), if_neg (by decide), hrundown]

/-- Entry into PAUSED removes the thrust permit and keeps or removes the cutterhead permit (R39). -/
theorem cyclePart_enterPaused (kept : Bool) :
    (s.enterPaused kept).cyclePart =
      { s.cyclePart with
        cycle := .paused, thrustPermit := false, cutterPermit := kept && s.adu.cutterPermit, permitKept := kept
        spinning := false } := by
  have hentered := cyclePart_enterCycle (s.holdIfBoring.modAdu fun a =>
    { a with thrustPermit := false, cutterPermit := kept && a.cutterPermit, spinup := none }) .paused
  have hkept (t : State) : (t.modAdu fun a => { a with permitKept := kept }).cyclePart = { t.cyclePart with permitKept := kept } := rfl
  unfold State.enterPaused
  dsimp only
  rw [hkept, hentered, ← cyclePart_holdIfBoring s, ← adu_holdIfBoring s]
  rfl

/-- Entry into SPINUP asserts the cutterhead permit and starts the spin-up time (R30). -/
theorem cyclePart_enterSpinup :
    s.enterSpinup.cyclePart =
      { s.cyclePart with cycle := .spinup, cutterPermit := true, permitKept := false, spinning := true } := by
  rw [State.enterSpinup, cyclePart_judgePen, cyclePart_enterCycle]
  rfl

theorem cyclePart_startRing : s.startRing.cyclePart = s.cyclePart := by
  have hreset (t : State) : t.ringReset.cyclePart = t.cyclePart := rfl
  rw [startRing_eq, hreset, (Downstream.startAccountRing s.rolled).cyclePart]
  rfl

/-- Entry into BORING asserts the thrust permit and stops the spin-up time (R35). -/
theorem cyclePart_enterBoring :
    s.enterBoring.cyclePart =
      { s.cyclePart with cycle := .boring, thrustPermit := true, permitKept := false, spinning := false } := by
  have hstarted (t : State) : (if t.adu.ringStartPending then t.startRing else t).cyclePart = t.cyclePart :=
    ite_cyclePart (cyclePart_startRing t) rfl
  have hthrust (t : State) : ((t.modAdu fun a => { a with thrustPermit := true }).judgeRate).cyclePart =
      { t.cyclePart with thrustPermit := true } := rfl
  unfold State.enterBoring
  dsimp only
  rw [hthrust, cyclePart_jguPush, hstarted, cyclePart_enterCycle]
  rfl

end

end Sys2Proof.Machine
end

section
/-! Every step keeps the permits, the spin-up time and the open ring record as the cycle has them. -/

namespace Sys2Proof.Machine

/-! ## The moves of the cycle keep the part sound -/

namespace CyclePart.sound
variable {c : CyclePart} (h : c.sound)
include h

/-- In a state that is under way neither input holds the cycle, and no ring is built. -/
theorem free (hc : c.cycle.underWay = true) : c.estop = false ∧ c.resetActive = false ∧ c.ring ≠ .building := by
  obtain ⟨-, -, -, -, hring, hheld, -⟩ := h
  have hstand : c.cycle ≠ .standstill := fun e => by simp [e, Cycle.underWay] at hc
  have hbuild : c.cycle ≠ .ringBuild := fun e => by simp [e, Cycle.underWay] at hc
  have hinputs : ¬(c.estop = true ∨ c.resetActive = true) := fun hi => (hheld hi).elim hstand hbuild
  exact ⟨by simpa using fun he => hinputs (.inl he), by simpa using fun hr => hinputs (.inr hr), fun hr => hbuild (hring.mp hr)⟩

/-- RUNDOWN, or STANDSTILL at once, from a state under way: every permit falls and the spin-up time stops (R40, R49). -/
theorem stop (hc : c.cycle.underWay = true) (stopped : Prop) [Decidable stopped] :
    ({ c with
      cycle := if stopped then .standstill else .rundown
      thrustPermit := false, cutterPermit := false, permitKept := false, spinning := false } : CyclePart).sound := by
  obtain ⟨hestop, hreset, hring⟩ := h.free hc
  split <;> simp [sound, hestop, hreset, hring]

theorem pause (hc : c.cycle = .spinup ∨ c.cycle = .boring) (kept : Bool) :
    ({ c with
      cycle := .paused, thrustPermit := false, cutterPermit := kept && c.cutterPermit, permitKept := kept
      spinning := false } : CyclePart).sound := by
  obtain ⟨hestop, hreset, hring⟩ := h.free (by rcases hc with hc | hc <;> simp [hc, Cycle.underWay])
  have hpermit : c.cutterPermit = true := h.2.1.mpr (hc.elim .inl fun hb => .inr (.inl hb))
  simp [sound, hestop, hreset, hring, hpermit]

/-- CUT_HALT in PAUSED takes the permit that was kept (R39). -/
theorem halt (hc : c.cycle = .paused) : ({ c with cutterPermit := false, permitKept := false } : CyclePart).sound := by
  obtain ⟨hthrust, -, -, hspin, hring, hheld⟩ := h
  simp_all [sound]

theorem bore (hc : c.cycle = .spinup ∨ c.cycle = .paused ∧ c.permitKept = true) :
    ({ c with cycle := .boring, thrustPermit := true, permitKept := false, spinning := false } : CyclePart).sound := by
  obtain ⟨hestop, hreset, hring⟩ := h.free (by rcases hc with hc | ⟨hc, -⟩ <;> simp [hc, Cycle.underWay])
  have hpermit : c.cutterPermit = true := h.2.1.mpr (hc.imp_right .inr)
  simp [sound, hestop, hreset, hring, hpermit]

theorem spin (hc : c.cycle = .standstill ∨ c.cycle = .paused) (hestop : c.estop = false) (hreset : c.resetActive = false) :
    ({ c with cycle := .spinup, cutterPermit := true, permitKept := false, spinning := true } : CyclePart).sound := by
  obtain ⟨hthrust, -, -, -, hring, -⟩ := h
  rcases hc with hc | hc <;> simp_all [sound]

/-- RUNDOWN ends in STANDSTILL (R40). -/
theorem rest (hc : c.cycle = .rundown) : ({ c with cycle := .standstill, permitKept := false } : CyclePart).sound := by
  obtain ⟨hthrust, hcutter, -, hspin, hring, -⟩ := h
  simp_all [sound]

/-- A spin-up that fails ends in STANDSTILL (R33). -/
theorem fail (hc : c.cycle = .spinup) :
    ({ c with cycle := .standstill, cutterPermit := false, permitKept := false, spinning := false } : CyclePart).sound := by
  obtain ⟨hthrust, -, -, -, hring, -⟩ := h
  simp_all [sound]

/-- RING BEGIN opens a record and enters RING_BUILD (R43). -/
theorem build (hc : c.cycle = .standstill) (hreset : c.resetActive = false) :
    ({ c with cycle := .ringBuild, permitKept := false, ring := .building } : CyclePart).sound := by
  obtain ⟨hthrust, hcutter, -, hspin, -⟩ := h
  simp_all [sound]

/-- A completed ring ends RING_BUILD (R44). -/
theorem complete :
    ({ c with
      cycle := if c.cycle = .ringBuild then .standstill else c.cycle
      permitKept := if c.cycle = .ringBuild then false else c.permitKept, ring := .complete } : CyclePart).sound := by
  obtain ⟨hthrust, hcutter, hkept, hspin, -, hheld, hreset⟩ := h
  by_cases hb : c.cycle = .ringBuild
  · simp_all [sound]
  · simp_all [sound]

/-- Emergency stop drops a cycle that is under way (R49). -/
theorem drop (hc : c.cycle.underWay = true) :
    ({ c with
      estop := true, cycle := .standstill, thrustPermit := false, cutterPermit := false, permitKept := false
      spinning := false } : CyclePart).sound := by
  obtain ⟨-, hreset, hring⟩ := h.free hc
  simp [sound, hreset, hring]

/-- Emergency stop leaves STANDSTILL and RING_BUILD as they are (R49). -/
theorem stay (hc : c.cycle.underWay = false) : ({ c with estop := true } : CyclePart).sound := by
  obtain ⟨hthrust, hcutter, hkept, hspin, hring, -, hreset⟩ := h
  exact ⟨hthrust, hcutter, hkept, hspin, hring, fun _ => Cycle.underWay_eq_false hc, hreset⟩

end CyclePart.sound

/-! ## The operations -/

/-- Where no check fails, every one of them holds. -/
theorem firstFailing_none {l : List (Bool × Reply)} (h : firstFailing l = none) : ∀ c ∈ l, c.1 = true := by
  induction l with
  | nil => exact fun _ hc => absurd hc List.not_mem_nil
  | cons c l ih =>
    obtain ⟨ok, r⟩ := c
    unfold firstFailing at h
    cases ok with
    | false => cases h
    | true => exact fun d hd => (List.mem_cons.mp hd).elim (fun he => by rw [he]) (ih h d)

/-- A move of the cycle keeps the part sound where what it makes of the cycle is sound. -/
theorem Keeps.of_move {s t : State} {c : CyclePart} (ht : t.cyclePart = c) (hr : c.resetActive = s.resetActive)
    (h : s.cyclePart.sound → s.resetActive = false → c.sound) : Keeps State.cycleSound s t where
  kept hs := by
    obtain ⟨hreset, hsound⟩ := hs
    refine ⟨((congrArg CyclePart.resetActive ht).trans hr).trans hreset, (cycleSound_iff t).mpr ?_⟩
    rw [ht]
    exact h ((cycleSound_iff s).mp hsound) hreset

namespace CycleKept

variable (s : State)

theorem of_apart {s t : State} (h : Apart s t) : Keeps State.cycleSound s t := .of_cyclePart h.cyclePart

theorem enterRundown (c : StopCause) (e : Event) (hc : s.adu.cycle.underWay = true) :
    Keeps State.cycleSound s ((s.setEvent e).setCause c).enterRundown :=
  .of_move (cyclePart_enterRundown _) rfl fun hs _ => CyclePart.sound.stop hs hc _

theorem testTarget : Keeps State.cycleSound s s.testTarget := by
  unfold State.testTarget
  split
  · next ht =>
    refine enterRundown s _ _ ?_
    simp only [Bool.and_eq_true, Bool.or_eq_true, beq_iff_eq] at ht
    rcases ht.1 with hc | hc <;> simp [hc, Cycle.underWay]
  · exact .refl s

theorem takeStrokeEnd : Keeps State.cycleSound s s.takeStrokeEnd := by
  unfold State.takeStrokeEnd
  split
  · next hc => exact enterRundown s _ _ (by simp [beq_iff_eq.mp hc, Cycle.underWay])
  · exact .refl s

theorem takeStrokeChange : Keeps State.cycleSound s s.takeStrokeChange := by
  have hmeasured : Keeps State.cycleSound s (s.modAdu fun a => { a with a := meanAdvance s.groups }) := .of_cyclePart rfl
  unfold State.takeStrokeChange
  dsimp only
  split
  · exact (hmeasured.trans (ite_along (of_apart (Downstream.takeChange _).apart) (.refl _))).trans (testTarget _)
  · exact hmeasured.trans (testTarget _)
  · exact .refl s

theorem enterPaused (kept : Bool) (hc : s.adu.cycle = .spinup ∨ s.adu.cycle = .boring) :
    Keeps State.cycleSound s (s.enterPaused kept) :=
  .of_move (cyclePart_enterPaused s kept) rfl fun hs _ => CyclePart.sound.pause hs hc kept

theorem enterBoring (hc : s.adu.cycle = .spinup ∨ s.adu.cycle = .paused ∧ s.adu.permitKept = true) :
    Keeps State.cycleSound s s.enterBoring :=
  .of_move (cyclePart_enterBoring s) rfl fun hs _ => CyclePart.sound.bore hs hc

theorem takeHalt : Keeps State.cycleSound s s.takeHalt := by
  unfold State.takeHalt
  dsimp only
  split
  · next hc => exact enterPaused s _ (.inr hc)
  · next hc => exact ite_along (enterPaused s _ (.inl hc)) (.refl s)
  · next hc => exact ite_along (.of_move (c := { s.cyclePart with cutterPermit := false, permitKept := false }) rfl rfl
      fun hs _ => CyclePart.sound.halt hs hc) (.refl s)
  · exact .refl s

theorem takeHaltLift : Keeps State.cycleSound s s.takeHaltLift := by
  unfold State.takeHaltLift
  split
  · next hlift =>
    have hc : s.adu.cycle = .paused := by simp_all
    split
    · next hkept => exact enterBoring s (.inr ⟨hc, hkept⟩)
    · exact .of_move (cyclePart_enterSpinup s) rfl fun hs hr =>
        CyclePart.sound.spin hs (.inr hc) (CyclePart.sound.free hs (by simp [State.cyclePart, hc, Cycle.underWay])).1 hr
  · exact .refl s

theorem judgeConfirmation : Keeps State.cycleSound s s.judgeConfirmation := by
  unfold State.judgeConfirmation
  split
  · next hc =>
    have hspin : s.adu.cycle = .spinup := beq_iff_eq.mp hc
    have hcounted (n : Nat) : Keeps State.cycleSound s (s.modAdu fun a => { a with confirmations := n }) := .of_cyclePart rfl
    dsimp only
    exact ite_along ((hcounted _).trans (ite_along (enterPaused _ _ (.inl hspin)) (enterBoring _ (.inl hspin)))) (hcounted _)
  · exact .refl s

theorem takeRevolution : Keeps State.cycleSound s s.takeRevolution := by
  have hmeasured : Keeps State.cycleSound s s.measurePulse := .of_cyclePart (by rw [measurePulse_eq]; rfl)
  exact hmeasured.trans ((judgeConfirmation _).trans (.of_cyclePart (cyclePart_judgePen _)))

theorem expireStopTimer : Keeps State.cycleSound s s.expireStopTimer := by
  have hstopped : Keeps State.cycleSound s (s.modAdu fun a => { a with stopTimer := none, cutter := .stopped }) := .of_cyclePart rfl
  unfold State.expireStopTimer
  split
  · dsimp only
    split
    · next hc =>
      exact hstopped.trans (.of_move (cyclePart_enterStandstill _) rfl fun hs _ => CyclePart.sound.rest hs (beq_iff_eq.mp hc))
    · exact hstopped
  · exact .refl s

theorem expireSpinup : Keeps State.cycleSound s s.expireSpinup := by
  unfold State.expireSpinup
  split
  · next hdue =>
    have hc : s.adu.cycle = .spinup := by simp_all
    exact .of_move (cyclePart_enterStandstill _) rfl fun hs _ => CyclePart.sound.fail (c := s.cyclePart) hs hc
  · exact .refl s

theorem cyclePart_takeCompletion :
    s.takeCompletion.cyclePart =
      { s.cyclePart with
        cycle := if s.cyclePart.cycle = .ringBuild then .standstill else s.cyclePart.cycle
        permitKept := if s.cyclePart.cycle = .ringBuild then false else s.cyclePart.permitKept } := by
  unfold State.takeCompletion
  dsimp only
  split
  · next hc =>
    have hbuild : s.cyclePart.cycle = .ringBuild := beq_iff_eq.mp hc
    rw [cyclePart_enterStandstill, if_pos hbuild, if_pos hbuild]
    rfl
  · next hc =>
    have hother : s.cyclePart.cycle ≠ .ringBuild := fun h => hc (beq_iff_eq.mpr h)
    rw [if_neg hother, if_neg hother]
    rfl

theorem completeRing : Keeps State.cycleSound s s.completeRing := by
  let t := (s.modRecord fun r =>
    { r with
      state := .complete, buildDuration := r.buildStart.map fun t => secondsSince t s.seconds, faultCounts := s.fsv.counters }).modRbu
    fun b => { b with lastCompleted := b.record.number, history := (b.record.historyEntry :: b.history).take historyRoom }
  have hrecord : ((t.judgeKeys [.stationSilent .erector]).setEvent .ringComplete).cyclePart = { s.cyclePart with ring := .complete } :=
    cyclePart_judgeKeys t _
  have hcompleted := cyclePart_takeCompletion ((t.judgeKeys [.stationSilent .erector]).setEvent .ringComplete)
  rw [hrecord] at hcompleted
  exact .of_move hcompleted rfl fun hs _ => CyclePart.sound.complete (c := s.cyclePart) hs

theorem arriveHold (g : GroupIx) (pc : Piece) : Keeps State.cycleSound s (s.arriveHold g pc) := by
  unfold State.arriveHold
  dsimp only
  split
  · have hset : Keeps State.cycleSound s ((s.modPiece pc fun r => r.arrived .set).setEvent .pieceSet) := .of_cyclePart rfl
    exact ite_along (ite_along (hset.trans (completeRing _)) hset) (.of_cyclePart rfl)
  · exact ite_along (.of_cyclePart rfl) (.of_cyclePart rfl)
  · exact .refl s

theorem examineHead : Keeps State.cycleSound s s.examineHead := .of_cyclePart (cyclePart_examineHead s)

theorem takeGroupState (g : GroupIx) (st : GroupState) (arrived : Option Piece) :
    Keeps State.cycleSound s (s.takeGroupState g st arrived) := by
  refine Keeps.trans ?_ (examineHead _)
  split
  · exact .of_cyclePart (cyclePart_arriveClear s g _)
  · exact arriveHold s g _
  · exact .refl s

theorem takeEntering (a : Action) : Keeps State.cycleSound s (s.takeEntering a) := by
  unfold State.takeEntering
  split
  · exact takeHalt s
  · exact takeHalt s
  · exact of_apart (Downstream.judgePermit s).apart
  · exact .of_cyclePart rfl
  · exact of_apart ((LineWork.holdLine s _).trans (LineWork.judgeGrout _)).apart

theorem takeLeaving (a : Action) : Keeps State.cycleSound s (s.takeLeaving a) := by
  refine Keeps.trans ?_ (examineHead _)
  split
  · exact takeHaltLift s
  · exact takeHaltLift s
  · exact of_apart (Downstream.judgePermit s).apart
  · exact .of_cyclePart ((cyclePart_resumeTimers _).trans (cyclePart_restartDwells s))
  · exact of_apart ((LineWork.releaseLine s _).trans (LineWork.judgeGrout _)).apart

theorem take (n : Notice) : Keeps State.cycleSound s (s.take n) := by
  cases n with
  | strokeChange => exact takeStrokeChange s
  | strokeEnd g => exact takeStrokeEnd s
  | groupState g st owner arrived => exact takeGroupState s g st arrived
  | actionEnters a => exact takeEntering s a
  | actionLeaves a => exact takeLeaving s a
  | blockedRemoved p => exact of_apart ((LineWork.unblockLine s p).trans (LineWork.judgeGrout _)).apart

/-! ## The requests and the inputs -/

theorem requestStart : Keeps State.cycleSound s s.requestStart.1 := by
  unfold State.requestStart
  split
  · exact .refl s
  · next hpass =>
    have hok := firstFailing_none hpass
    have hway : s.adu.cycle.underWay = false := by simpa using hok _ (List.mem_cons_self ..)
    have hbuild : s.adu.cycle ≠ .ringBuild := by simpa using hok (s.adu.cycle != .ringBuild, .refusedState 5) (by simp [State.startChecks])
    have hestop : s.estop = false := by simpa using hok (!s.estop, .refusedState 8) (by simp [State.startChecks])
    have hstands : s.adu.cycle = .standstill := (Cycle.underWay_eq_false hway).resolve_right hbuild
    exact .of_move (cyclePart_enterSpinup s) rfl fun hs hr => CyclePart.sound.spin hs (.inl hstands) hestop hr

theorem requestStop : Keeps State.cycleSound s s.requestStop.1 := by
  have hstop (hc : s.adu.cycle.underWay = true) : Keeps State.cycleSound s (s.setCause .stopRequest).enterRundown :=
    .of_move (cyclePart_enterRundown _) rfl fun hs _ => CyclePart.sound.stop hs hc _
  unfold State.requestStop
  split <;> dsimp only
  case h_4 | h_5 | h_6 => exact .refl s
  all_goals next hc => exact hstop (by rw [hc]; rfl)

theorem requestRing (number key : Nat) : Keeps State.cycleSound s (s.requestRing number key).1 := by
  unfold State.requestRing
  split
  · exact .refl s
  · next hpass =>
    have hok := firstFailing_none hpass
    have hway : s.adu.cycle.underWay = false := by simpa using hok _ (List.mem_cons_self ..)
    have hbuild : s.adu.cycle ≠ .ringBuild := by simpa using hok (s.adu.cycle != .ringBuild, .refusedState 2) (by simp [State.ringChecks])
    have hstands : s.adu.cycle = .standstill := (Cycle.underWay_eq_false hway).resolve_right hbuild
    have hopened (t : State) (k : GroupIx) : (t.openRecord number k).cyclePart = { t.cyclePart with ring := .building } :=
      cyclePart_judgeKeys ..
    have hidled (t : State) : t.idleLines.judgeGrout.cyclePart = t.cyclePart :=
      ((LineWork.idleLines t).trans (LineWork.judgeGrout _)).cyclePart
    have hfrozen (t : State) : t.freezeAccounts.cyclePart = t.cyclePart := rfl
    have hshut (t : State) : t.shutWindows.cyclePart = t.cyclePart := rfl
    refine .of_move (c := { s.cyclePart with cycle := .ringBuild, permitKept := false, ring := .building }) ?_ rfl
      fun hs hr => CyclePart.sound.build hs hstands hr
    dsimp only
    rw [hfrozen, hidled, hshut, hopened, cyclePart_enterCycle]

theorem cyclePart_cycle : s.adu.cycle = s.cyclePart.cycle := rfl

theorem cyclePart_dropCycle (hc : s.adu.cycle.underWay = true) :
    s.dropCycle.cyclePart =
      { s.cyclePart with
        cycle := .standstill, thrustPermit := false, cutterPermit := false, permitKept := false, spinning := false } := by
  have hevent : (s.setEvent .estop).adu.cycle.underWay = true := hc
  have hdropped : s.dropCycle = ((s.setEvent .estop).jguHold.modAdu fun a =>
      { a with thrustPermit := false, cutterPermit := false, spinup := none, lastStop := .estop }).enterStandstill :=
    if_pos hevent
  have hheld : (s.setEvent .estop).jguHold.cyclePart = s.cyclePart := cyclePart_changeGroups ..
  rw [hdropped, cyclePart_enterStandstill, ← hheld]
  rfl

theorem assertStop : Keeps State.cycleSound s s.assertStop := by
  have hblocks (t : State) : t.idleLines.judgePermit.stopDwells.suspendTimers.cyclePart = t.cyclePart :=
    (cyclePart_suspendTimers _).trans ((cyclePart_stopDwells _).trans
      ((LineWork.idleLines t).downstream.trans (Downstream.judgePermit _)).cyclePart)
  have hjudged (t : State) : t.judgeGrout.judgeRate.cyclePart = t.cyclePart := rfl
  have hstopped := hblocks { s with estop := true }
  have hway : ({ s with estop := true } : State).idleLines.judgePermit.stopDwells.suspendTimers.adu.cycle = s.adu.cycle := by
    rw [cyclePart_cycle, hstopped]
    rfl
  have hdropped : s.assertStop.cyclePart =
      ({ s with estop := true } : State).idleLines.judgePermit.stopDwells.suspendTimers.dropCycle.cyclePart := hjudged _
  cases hc : s.adu.cycle.underWay with
  | true =>
    rw [cyclePart_dropCycle _ (by rw [hway, hc]), hstopped] at hdropped
    exact .of_move hdropped rfl fun hs _ => CyclePart.sound.drop (c := s.cyclePart) hs hc
  | false =>
    rw [dropCycle_parked (by rw [hway, hc]), cyclePart_setEvent, hstopped] at hdropped
    exact .of_move hdropped rfl fun hs _ => CyclePart.sound.stay (c := s.cyclePart) hs hc

theorem releaseStop : Keeps State.cycleSound s s.releaseStop := by
  have hreleased : Keeps State.cycleSound s { s with estop := false } :=
    .of_move (c := { s.cyclePart with estop := false }) rfl rfl fun hs hr => by
      obtain ⟨hthrust, hcutter, hkept, hspin, hring, hheld, hreset⟩ := hs
      exact ⟨hthrust, hcutter, hkept, hspin, hring, fun hi => hheld (hi.imp_left (by simp)), hreset⟩
  have htimers (t : State) : Keeps State.cycleSound t t.restartDwells.resumeTimers :=
    .of_cyclePart ((cyclePart_resumeTimers _).trans (cyclePart_restartDwells t))
  have hjudged (t : State) : Keeps State.cycleSound t t.startIdleLines.judgeGrout.judgePermit.judgeRate :=
    of_apart ((LineWork.startIdleLines t).downstream.trans ((Downstream.judgeGrout _).trans
      ((Downstream.judgePermit _).trans (Downstream.judgeRate _)))).apart
  exact hreleased.trans ((htimers _).trans ((hjudged _).trans (examineHead _)))

end CycleKept

/-- With RESET released, every operation keeps the permits, the spin-up time and the open ring record as the cycle has them. -/
theorem cycleSound_upheld : Upheld State.cycleSound where
  aside h := .of_cyclePart h.cyclePart
  passMs s := .of_cyclePart (cyclePart_passMs s)
  take := CycleKept.take
  pulse s g e := .of_cyclePart (cyclePart_pulse s g e)
  expireDwell s g := .of_cyclePart (cyclePart_expireDwell s g)
  takeRevolution := CycleKept.takeRevolution
  expireStopTimer := CycleKept.expireStopTimer
  expireSpinup := CycleKept.expireSpinup
  expirePieceTimer s pc := .of_cyclePart (cyclePart_expirePieceTimer s pc)
  expireWait s pc := .of_cyclePart (cyclePart_expireWait s pc)
  enterStale s m := CycleKept.of_apart (Apart.enterStale s m)
  groutTick s := CycleKept.of_apart (LineWork.groutTick s).apart
  muckTick s := CycleKept.of_apart (Downstream.muckTick s).apart
  assertStop := CycleKept.assertStop
  releaseStop := CycleKept.releaseStop
  takeReport s m v := CycleKept.of_apart (Apart.takeReport s m v)
  requestConfigure s pairs := CycleKept.of_apart (Apart.requestConfigure s pairs)
  requestReference s v := .of_cyclePart (cyclePart_requestReference s v)
  requestStart := CycleKept.requestStart
  requestStop := CycleKept.requestStop
  requestLevel s n := .of_cyclePart (cyclePart_requestLevel s n)
  requestRing := CycleKept.requestRing
  requestClaim s c := .of_cyclePart (cyclePart_requestClaim s c)
  requestWithdraw s c := .of_cyclePart (cyclePart_requestWithdraw s c)
  requestPlaced s c := .of_cyclePart (cyclePart_requestPlaced s c)
  requestSuspend s p := .of_cyclePart (cyclePart_requestSuspend s p)
  requestResume s p := .of_cyclePart (cyclePart_requestResume s p)
  requestTrainIn s n c := .of_cyclePart (cyclePart_requestTrainIn s n c)
  requestCarShift s := .of_cyclePart (cyclePart_requestCarShift s)
  requestTrainOut s := CycleKept.of_apart ((Downstream.modMku s _).trans (Downstream.judgePermit _)).apart

theorem deviceReset_cycleSound (s : State) : s.deviceReset.cycleSound := by
  simp [State.cycleSound, State.deviceReset, State.reset, Advance.reset, RingBuild.reset]

/-- The levels of the two inputs and the waiting commands change under RESET, and the cycle stays in STANDSTILL. -/
theorem cycleSound_held (s : State) (l : List Instr) (r e : Bool) (hr : s.resetActive = true) (h : s.cycleSound) :
    ({ s with pending := l, resetActive := r, estop := e } : State).cycleSound := by
  obtain ⟨hthrust, hcutter, hkept, hspin, hring, -, hreset⟩ := h
  have hstands := hreset hr
  exact ⟨hthrust, hcutter, hkept, hspin, hring, fun _ => .inl hstands, fun _ => hstands⟩

/-- Settles O55: each move of the cycle carries its permits, its times and the ring record with it, and no other operation touches
them. -/
theorem permitsFollowTheCycle : Obligations.PermitsFollowTheCycle := fun _ _ hs h =>
  cycleSound_upheld.step deviceReset_cycleSound cycleSound_held hs h

end Sys2Proof.Machine
end

section
/-! The limiter levels and the rate level: which operations leave what they are judged from alone. -/

namespace Sys2Proof.Machine

/-- What `State.levelsSound` speaks of. -/
structure LevelPart where
  low : Nat
  high : Nat
  dmax : Option Int
  lGrout : Nat
  lMuck : Nat
  beltPermit : Bool
  lCabin : Nat
  lPen : Nat
  rateLevel : Nat
  cycle : Cycle
  estop : Bool
  resetActive : Bool

def State.levelPart (s : State) : LevelPart :=
  { low := s.item .deficitLow, high := s.item .deficitHigh, dmax := s.dmax, lGrout := s.gru.lGrout, lMuck := s.mku.lMuck
    beltPermit := s.mku.beltPermit, lCabin := s.adu.lCabin, lPen := s.adu.lPen, rateLevel := s.adu.rateLevel, cycle := s.adu.cycle
    estop := s.estop, resetActive := s.resetActive }

namespace LevelPart

/-- RESET is released, L_muck follows the belt permit, and L_cabin and L_pen are at most 8 (R45, R46, R124). -/
def limited (c : LevelPart) : Prop :=
  c.resetActive = false ∧ c.lMuck = (if c.beltPermit then 8 else 0) ∧ c.lCabin ≤ 8 ∧ c.lPen ≤ 8

/-- L_grout is as the published deficits give it (R112). -/
def groutJudged (c : LevelPart) : Prop := c.lGrout = groutLevel c.low c.high c.dmax

/-- The rate level that R47 gives. -/
def rateFor (c : LevelPart) : Nat :=
  if c.cycle == .boring && !c.estop then min (min c.lCabin c.lGrout) (min c.lMuck c.lPen) else 0

/-- Every level is as its rule gives it. -/
def leveled (c : LevelPart) : Prop := c.limited ∧ c.groutJudged ∧ c.rateLevel = c.rateFor

end LevelPart

/-- R112 gives a level of 0 to 8. -/
theorem groutLevel_le (low high : Nat) (dmax : Option Int) : groutLevel low high dmax ≤ 8 := by
  unfold groutLevel
  split
  · exact le_rfl
  · next d =>
    split_ifs with hlow hhigh
    · exact le_rfl
    · exact Nat.zero_le 8
    · have hspan : (0 : Int) < high - low := by omega
      have hquotient : 8 * ((high : Int) - d) / ((high : Int) - low) ≤ 8 :=
        Int.ediv_le_of_le_mul hspan (by nlinarith)
      omega

theorem rateLevel_iff (s : State) :
    (s.adu.rateLevel = if s.adu.cycle = .boring ∧ s.estop = false then
      min (min s.adu.lCabin s.gru.lGrout) (min s.mku.lMuck s.adu.lPen) else 0) ↔ s.levelPart.rateLevel = s.levelPart.rateFor := by
  simp [LevelPart.rateFor, State.levelPart]

/-- With RESET released, `State.levelsSound` is that every level is as its rule gives it. -/
theorem leveled_iff (s : State) : s.levelPart.leveled ↔ s.resetActive = false ∧ s.levelsSound := by
  constructor
  · rintro ⟨⟨hr, hmuck, hcabin, hpen⟩, hgrout, hrate⟩
    have hbound : s.gru.lGrout ≤ 8 := by
      rw [show s.gru.lGrout = _ from hgrout]
      exact groutLevel_le _ _ _
    exact ⟨hr, hgrout, hmuck, hcabin, hbound, hpen, (rateLevel_iff s).mpr hrate, fun h => absurd (h.symm.trans hr) (by decide)⟩
  · rintro ⟨hr, hgrout, hmuck, hcabin, -, hpen, hrate, -⟩
    exact ⟨⟨hr, hmuck, hcabin, hpen⟩, hgrout, (rateLevel_iff s).mp hrate⟩

/-! ## What leaves them alone -/

/-- The levels of `t`, and all that they are judged from, are those of `s`. -/
structure SameLevels (s t : State) : Prop where
  eq : t.levelPart = s.levelPart

theorem dmax_congr {s t : State} (hwindow : ∀ p, (t.account p).window = (s.account p).window)
    (hdeficit : ∀ p, t.deficit p = s.deficit p) (hout : ∀ p, (t.line p).phase = .out ↔ (s.line p).phase = .out) : t.dmax = s.dmax := by
  have hcounted (p : LineIx) : ((t.account p).window && (t.line p).phase != .out) =
      ((s.account p).window && (s.line p).phase != .out) := by
    rw [hwindow p, Bool.eq_iff_iff]
    simp [hout p]
  simp only [State.dmax, hcounted, hdeficit]

namespace SameLevels

theorem refl (s : State) : SameLevels s s := ⟨rfl⟩

theorem trans {s t u : State} (h : SameLevels s t) (k : SameLevels t u) : SameLevels s u := ⟨k.eq.trans h.eq⟩

theorem foldl {α : Type} {f : State → α → State} (h : ∀ t a, SameLevels t (f t a)) (l : List α) (s : State) :
    SameLevels s (l.foldl f s) := foldl_along refl trans h l s

theorem of_aside {s t : State} (h : Aside s t) : SameLevels s t := ⟨by rw [h.eq]; rfl⟩

theorem of_faultWork {s t : State} (h : FaultWork s t) : SameLevels s t := of_aside h.aside

theorem modGroup (s : State) (g : GroupIx) (f : Group → Group) : SameLevels s (s.modGroup g f) := ⟨rfl⟩

theorem changeGroups (s : State) (f : GroupIx → Group → Group) : SameLevels s (s.changeGroups f) := ⟨by rw [changeGroups_eq]; rfl⟩

theorem modRbu (s : State) (f : RingBuild → RingBuild) : SameLevels s (s.modRbu f) := ⟨rfl⟩

theorem modRecord (s : State) (f : RingRecord → RingRecord) : SameLevels s (s.modRecord f) := ⟨rfl⟩

theorem modPiece (s : State) (pc : Piece) (f : PieceRecord → PieceRecord) : SameLevels s (s.modPiece pc f) := ⟨rfl⟩

theorem modMeas (s : State) (m : MeasIx) (f : MeasRecord → MeasRecord) : SameLevels s (s.modMeas m f) := ⟨rfl⟩

theorem setEvent (s : State) (e : Event) : SameLevels s (s.setEvent e) := of_aside (.setEvent s e)

theorem send (s : State) (n : Notice) : SameLevels s (s.send n) := of_aside (.send s n)

theorem raise (s : State) (key : FaultKey) : SameLevels s (s.raise key) := of_faultWork (FaultWork.raise s key)

theorem judgeKeys (s : State) (keys : List FaultKey) : SameLevels s (s.judgeKeys keys) := of_faultWork (FaultWork.judgeKeys s keys)

/-! ## The JGU and the RBU -/

theorem jguPush (s : State) : SameLevels s s.jguPush :=
  (changeGroups s _).trans (foldl (fun t _ => ite_along (send t _) (refl t)) _ _)

theorem holdIfBoring (s : State) : SameLevels s s.holdIfBoring := ite_along (changeGroups s _) (refl s)

theorem restartDwells (s : State) : SameLevels s s.restartDwells := ite_along (refl s) ⟨rfl⟩

theorem resumeTimers (s : State) : SameLevels s s.resumeTimers := ite_along (refl s) (modRecord s _)

theorem expireDwell (s : State) (g : GroupIx) : SameLevels s (s.expireDwell g) := ite_along (changeGroups s _) (refl s)

theorem comparePulse (s : State) (g : GroupIx) : SameLevels s (s.comparePulse g) := by
  unfold State.comparePulse
  dsimp only
  split
  · exact ite_along (changeGroups s _) (refl s)
  · exact ite_along (modGroup s g _) (refl s)
  · exact ite_along ((modGroup s g _).trans (raise _ _)) (refl s)
  · exact ite_along ((modGroup s g (fun r => { r with strokeEndReported := true })).trans (send _ _)) (refl s)
  · exact refl s
  · exact refl s

theorem pulse (s : State) (g : GroupIx) (extending : Bool) : SameLevels s (s.pulse g extending) := by
  unfold State.pulse
  dsimp only
  split
  · exact modGroup s g _
  · exact (modGroup s g _).trans ((comparePulse _ g).trans (send _ _))

theorem requestReference (s : State) (v : GroupIx → Nat) : SameLevels s (s.requestReference v).1 := by
  unfold State.requestReference
  split
  · exact refl s
  · exact (changeGroups s _).trans (send _ _)

theorem grant (s : State) (pc : Piece) : SameLevels s (s.grant pc) := (modPiece s pc _).trans ((setEvent _ _).trans (changeGroups _ _))

theorem examineHead (s : State) : SameLevels s s.examineHead := by
  unfold State.examineHead
  split
  · exact refl s
  · split
    · exact refl s
    · exact (modRbu s _).trans (grant _ _)

theorem arriveClear (s : State) (g : GroupIx) (pc : Piece) : SameLevels s (s.arriveClear g pc) :=
  ite_along (refl s) (ite_along ((modPiece s pc _).trans (setEvent _ _)) (modPiece s pc _))

theorem expirePieceTimer (s : State) (pc : Piece) : SameLevels s (s.expirePieceTimer pc) :=
  ite_along ((modPiece s pc _).trans (raise _ _)) (refl s)

theorem dequeue (s : State) (pc : Piece) : SameLevels s (s.dequeue pc) := (modRbu s _).trans (modPiece _ pc _)

theorem expireWait (s : State) (pc : Piece) : SameLevels s (s.expireWait pc) := by
  have hgone := (dequeue s pc).trans ((setEvent _ .claimExpired).trans
    (modRecord _ fun r => { r with claimsExpired := addUpTo 32767 r.claimsExpired 1 }))
  exact ite_along (ite_along (hgone.trans (examineHead _)) hgone) (refl s)

theorem withPiece (s : State) (code : Nat) (f : Piece → State × Reply) (h : ∀ pc, SameLevels s (f pc).1) :
    SameLevels s (s.withPiece code f).1 := by
  unfold State.withPiece
  split
  · exact refl s
  · split
    · exact refl s
    · exact h _

theorem requestClaim (s : State) (code : Nat) : SameLevels s (s.requestClaim code).1 := by
  refine withPiece s code _ fun pc => ?_
  split
  · exact refl s
  · unfold State.takeClaim
    split
    · exact grant s pc
    · split <;> dsimp only
      · exact (modPiece s pc _).trans (modRbu _ _)
      · exact refl s

theorem sendBack (s : State) (pc : Piece) (st : PieceState) : SameLevels s (s.sendBack pc st) :=
  (modPiece s pc _).trans (changeGroups _ _)

theorem requestPlaced (s : State) (code : Nat) : SameLevels s (s.requestPlaced code).1 := by
  refine withPiece s code _ fun pc => ?_
  split
  · exact sendBack s pc _
  · exact refl s

theorem requestWithdraw (s : State) (code : Nat) : SameLevels s (s.requestWithdraw code).1 := by
  refine withPiece s code _ fun pc => ?_
  split
  case h_2 => exact ite_along ((dequeue s pc).trans (examineHead _)) (dequeue s pc)
  case h_3 | h_4 => exact sendBack s pc _
  all_goals exact refl s

/-! ## The GRU -/

/-- A tail line may change as long as it neither enters OUT nor leaves it. -/
theorem modLine (s : State) (p : LineIx) (f : Line → Line) (h : (f (s.line p)).phase = .out ↔ (s.line p).phase = .out) :
    SameLevels s (s.modLine p f) := by
  have hdmax : (s.modLine p f).dmax = s.dmax := dmax_congr (fun _ => rfl) (fun _ => rfl) fun q => by
    rw [modLine_line]
    split
    · next he => subst he; exact h
    · rfl
  refine ⟨?_⟩
  unfold State.levelPart
  rw [hdmax]
  rfl

section
variable {s : State} {p : LineIx}

theorem enterPhase {ph : Phase} (h : (s.line p).phase ≠ .out) (hph : ph ≠ .out) : SameLevels s (s.enterPhase p ph) :=
  (modLine s p _ (by simp [h, hph])).trans (judgeKeys _ _)

theorem enterLimit (h : (s.line p).phase ≠ .out) : SameLevels s (s.enterLimit p) :=
  (enterPhase h (by decide)).trans (modLine _ p _ Iff.rfl)

theorem ne_out_of_eq {ph : Phase} (h : (s.line p).phase = ph) (hph : ph ≠ .out) : (s.line p).phase ≠ .out := h ▸ hph

theorem testLimit (s : State) (p : LineIx) : SameLevels s (s.testLimit p) := by
  unfold State.testLimit
  split
  · next h =>
    have hflow : (s.line p).phase = .flow := by simp_all
    exact enterLimit (ne_out_of_eq hflow (by decide))
  · exact refl s

theorem testResume (s : State) (p : LineIx) : SameLevels s (s.testResume p) := by
  unfold State.testResume
  split
  · next h =>
    have hsatisfied : (s.line p).phase = .satisfied := by simp_all
    exact (enterPhase (ne_out_of_eq hsatisfied (by decide)) (by decide)).trans (testLimit _ p)
  · exact refl s

theorem enterSatisfied (h : (s.line p).phase ≠ .out) : SameLevels s (s.enterSatisfied p) :=
  (enterPhase h (by decide)).trans ((setEvent _ _).trans (testResume _ p))

theorem testSatisfied (s : State) (p : LineIx) : SameLevels s (s.testSatisfied p) := by
  unfold State.testSatisfied
  split
  · next h =>
    have hflow : (s.line p).phase = .flow := by simp_all
    exact enterSatisfied (ne_out_of_eq hflow (by decide))
  · exact refl s

theorem enterFlow (h : (s.line p).phase ≠ .out) : SameLevels s (s.enterFlow p) :=
  (enterPhase h (by decide)).trans ((testLimit _ p).trans (testSatisfied _ p))

theorem testPrimed (s : State) (p : LineIx) : SameLevels s (s.testPrimed p) := by
  unfold State.testPrimed
  split
  · next h =>
    have hprime : (s.line p).phase = .prime := by simp_all
    exact enterFlow (ne_out_of_eq hprime (by decide))
  · exact refl s

theorem startLine (h : (s.line p).phase ≠ .out) : SameLevels s (s.startLine p) := by
  have hopened : ((s.modLine p fun l => { l with sinceOpen := 0 }).line p).phase ≠ .out := by
    rw [modLine_line, if_pos rfl]
    exact h
  exact ite_along (enterPhase h (by decide)) (ite_along (enterPhase h (by decide))
    ((modLine s p _ Iff.rfl).trans ((enterPhase hopened (by decide)).trans (testPrimed _ p))))

end

theorem judgeSetpoint (s : State) (p : LineIx) : SameLevels s (s.judgeSetpoint p) := ite_along (modLine s p _ Iff.rfl) (refl s)

theorem noteDeficit (s : State) (p : LineIx) : SameLevels s (s.noteDeficit p) := modLine s p _ Iff.rfl

theorem takeDeficit (s : State) (p : LineIx) : SameLevels s (s.takeDeficit p) :=
  (noteDeficit s p).trans ((judgeSetpoint _ p).trans ((testSatisfied _ p).trans (testResume _ p)))

theorem startWhere (s : State) (p : LineIx) (ph : Phase) (hph : ph ≠ .out) :
    SameLevels s (if (s.line p).phase == ph then s.startLine p else s) := by
  split
  · next h => exact startLine (ne_out_of_eq (beq_iff_eq.mp h) hph)
  · exact refl s

theorem takeOpening (s : State) (p : LineIx) : SameLevels s (s.takeOpening p) := startWhere s p .idle (by decide)

theorem releaseLine (s : State) (p : LineIx) : SameLevels s (s.releaseLine p) := startWhere s p .held (by decide)

theorem unblockLine (s : State) (p : LineIx) : SameLevels s (s.unblockLine p) := startWhere s p .blocked (by decide)

theorem startIdleLines (s : State) : SameLevels s s.startIdleLines := foldl (fun t p => by
  split
  · next h =>
    have hidle : (t.line p).phase = .idle := by simp_all
    exact startLine (ne_out_of_eq hidle (by decide))
  · exact refl t) _ s

theorem idleLine (s : State) (p : LineIx) : SameLevels s (s.idleLine p) := by
  unfold State.idleLine
  split
  · next h => exact enterPhase (fun hout => by rw [hout] at h; cases h) (by decide)
  · exact refl s

theorem idleLines (s : State) : SameLevels s s.idleLines := foldl idleLine _ s

theorem holdLine (s : State) (p : LineIx) : SameLevels s (s.holdLine p) := by
  unfold State.holdLine
  split
  · next h => exact enterPhase (by simpa using h) (by decide)
  · exact refl s

theorem testStall {s : State} {p : LineIx} (h : (s.line p).phase ≠ .out) : SameLevels s (s.testStall p) :=
  ite_along (ite_along (enterSatisfied h) ((enterPhase h (by decide)).trans ((setEvent _ _).trans (raise _ _)))) (refl s)

theorem tickLine (s : State) (p : LineIx) : SameLevels s (s.tickLine p) := by
  have hcount : SameLevels s (s.modLine p fun l => { l with secondCount := 0 }) := modLine s p _ Iff.rfl
  unfold State.tickLine
  dsimp only
  split
  · next h =>
    have hhistory := hcount.trans (modLine _ p
      (fun r => { r with stallHistory := lastOf (s.item .stallTime) (r.stallHistory ++ [(s.line p).secondCount]) }) Iff.rfl)
    refine ite_along (hhistory.trans (testStall ?_)) hhistory
    rw [modLine_line, if_pos rfl, modLine_line, if_pos rfl]
    exact ne_out_of_eq (beq_iff_eq.mp h) (by decide)
  · exact hcount

theorem groutTick (s : State) : SameLevels s s.groutTick := foldl tickLine _ s

theorem takePressure (s : State) (p : LineIx) : SameLevels s (s.takePressure p) := by
  have hnoted : SameLevels s (s.notePressure p) := modLine s p _ Iff.rfl
  unfold State.takePressure
  dsimp only
  split
  · exact hnoted.trans (testLimit _ p)
  · next h => exact ite_along (hnoted.trans (enterFlow (ne_out_of_eq h (by decide)))) hnoted
  · exact hnoted.trans (testResume _ p)
  · exact hnoted

theorem rollCarries (s : State) : SameLevels s s.rollCarries := by
  have hdmax : s.rollCarries.dmax = s.dmax := dmax_congr (fun _ => rfl) (fun _ => rfl) fun p => by rw [rollCarries_line]
  refine ⟨?_⟩
  unfold State.levelPart
  rw [hdmax]
  rfl

theorem emptyHistories (s : State) : SameLevels s s.emptyHistories := by
  have hline (p : LineIx) : s.emptyHistories.line p =
      if (s.line p).phase == .limit then { s.line p with stallHistory := [], secondCount := 0 } else s.line p := mapIx_getElem ..
  have hdmax : s.emptyHistories.dmax = s.dmax := dmax_congr (fun _ => rfl) (fun _ => rfl) fun p => by
    rw [hline]
    split <;> rfl
  refine ⟨?_⟩
  unfold State.levelPart
  rw [hdmax]
  rfl

/-! ## The MKU and the MST -/

theorem modMku (s : State) (f : Muck → Muck) (hb : (f s.mku).beltPermit = s.mku.beltPermit) (hl : (f s.mku).lMuck = s.mku.lMuck) :
    SameLevels s (s.modMku f) := by
  refine ⟨?_⟩
  unfold State.levelPart State.modMku
  dsimp only
  rw [hb, hl]
  rfl

theorem testCarDue (s : State) : SameLevels s s.testCarDue := ite_along ((modMku s _ rfl rfl).trans (setEvent _ _)) (refl s)

theorem judgeExcavation (s : State) : SameLevels s s.judgeExcavation := by
  unfold State.judgeExcavation
  split
  · exact ite_along (refl s) (ite_along ((modMku s _ rfl rfl).trans (raise _ _))
      (ite_along ((modMku s _ rfl rfl).trans (raise _ _)) (refl s)))
  · exact refl s

theorem muckTick (s : State) : SameLevels s s.muckTick := ite_along ((modMku s _ rfl rfl).trans (judgeExcavation _)) (refl s)

theorem invalidateCounter (s : State) (m : MeasIx) : SameLevels s (s.invalidateCounter m) := by
  unfold State.invalidateCounter
  split_ifs
  · exact refl s
  · exact modLine s _ _ Iff.rfl
  · exact modMku s _ rfl rfl

theorem enterStale (s : State) (m : MeasIx) : SameLevels s (s.enterStale m) :=
  ite_along ((modMeas s m _).trans ((modMeas _ m _).trans (invalidateCounter _ m))) (refl s)

theorem changePolicy (s : State) (m : MeasIx) : SameLevels s (s.changePolicy m) := by
  unfold State.changePolicy
  dsimp only
  split
  · exact ite_along ((modMeas s m _).trans (modLine _ _ _ Iff.rfl)) (modMeas s m _)
  · exact modMeas s m _

theorem recomputeCoefficients (s : State) : SameLevels s s.recomputeCoefficients := by
  have hlines : s.recomputeCoefficients.act.lines = s.act.lines := by
    unfold State.recomputeCoefficients State.modAct
    dsimp only
    split <;> rfl
  have haccount (p : LineIx) : s.recomputeCoefficients.account p = s.account p := by
    simp only [State.account, hlines]
  have hdmax : s.recomputeCoefficients.dmax = s.dmax :=
    dmax_congr (fun p => by rw [haccount]) (fun p => congrArg LineAccount.deficit (haccount p)) fun _ => Iff.rfl
  refine ⟨?_⟩
  unfold State.levelPart
  rw [hdmax]
  rfl

theorem passMs (s : State) : SameLevels s s.passMs := ⟨rfl⟩

end SameLevels

end Sys2Proof.Machine
end

section
/-! The judgments of L_grout, of the belt permit and of the rate level, and the operations of the ACT, the GRU, the MKU and the ADU
that end in them: each leaves every level as its rule gives it. -/

namespace Sys2Proof.Machine

/-! ## The limits -/

/-- What `LevelPart.limited` speaks of, and the bounds of R112. -/
structure LimitPart where
  low : Nat
  high : Nat
  lMuck : Nat
  beltPermit : Bool
  lCabin : Nat
  lPen : Nat
  resetActive : Bool

def LevelPart.limits (c : LevelPart) : LimitPart :=
  { low := c.low, high := c.high, lMuck := c.lMuck, beltPermit := c.beltPermit, lCabin := c.lCabin, lPen := c.lPen
    resetActive := c.resetActive }

/-- `t` has the limiter levels of `s`, but perhaps for L_grout, and the bounds of R112. -/
structure SameLimits (s t : State) : Prop where
  eq : t.levelPart.limits = s.levelPart.limits

theorem SameLevels.limits {s t : State} (h : SameLevels s t) : SameLimits s t := ⟨by rw [h.eq]⟩

theorem LineWork.limits {s t : State} (h : LineWork s t) : SameLimits s t := ⟨by rw [h.eq]; rfl⟩

namespace SameLimits

theorem refl (s : State) : SameLimits s s := ⟨rfl⟩

theorem trans {s t u : State} (h : SameLimits s t) (k : SameLimits t u) : SameLimits s u := ⟨k.eq.trans h.eq⟩

theorem foldl {α : Type} {f : State → α → State} (h : ∀ t a, SameLimits t (f t a)) (l : List α) (s : State) :
    SameLimits s (l.foldl f s) := foldl_along refl trans h l s

theorem limited {s t : State} (h : SameLimits s t) (hs : s.levelPart.limited) : t.levelPart.limited := by
  have heq := h.eq
  simp only [LevelPart.limits, LimitPart.mk.injEq] at heq
  obtain ⟨-, -, hmuck, hbelt, hcabin, hpen, hreset⟩ := heq
  unfold LevelPart.limited
  rwa [hreset, hmuck, hbelt, hcabin, hpen]

theorem modAct (s : State) (f : Accounts → Accounts) : SameLimits s (s.modAct f) := ⟨rfl⟩

theorem judgeDeficit (s : State) (p : LineIx) : SameLimits s (s.judgeDeficit p) := ⟨rfl⟩

theorem judgeDeficits (s : State) : SameLimits s s.judgeDeficits := foldl judgeDeficit _ s

theorem accrueSteps (s : State) (new : Nat) : SameLimits s (s.accrueSteps new) :=
  (modAct s _).trans ((ite_along (modAct _ _) (modAct _ _)).trans ((modAct _ _).trans ((modAct _ _).trans (judgeDeficits _))))

end SameLimits

/-! ## The judgments -/

/-- With RESET released, levels that were as their rules give them are so again. -/
structure LevelsKept (s t : State) : Prop where
  kept : s.levelPart.leveled → t.levelPart.leveled

theorem LevelsKept.keeps {s t : State} (h : LevelsKept s t) : Keeps State.levelsSound s t where
  kept hs := (leveled_iff t).mp (h.kept ((leveled_iff s).mpr hs))

theorem SameLevels.kept {s t : State} (h : SameLevels s t) : LevelsKept s t := ⟨fun hs => by rw [h.eq]; exact hs⟩

theorem SameLevels.keeps {s t : State} (h : SameLevels s t) : Keeps State.levelsSound s t := h.kept.keeps

/-- The judgment of the rate level makes it as R47 gives it. -/
theorem judgeRate_leveled {s : State} (hl : s.levelPart.limited) (hg : s.levelPart.groutJudged) : s.judgeRate.levelPart.leveled :=
  ⟨hl, hg, rfl⟩

/-- The judgment of L_grout, which the rate level follows, needs nothing of the levels before (R112, R47). -/
theorem judgeGrout_leveled {s : State} (h : s.levelPart.limited) : s.judgeGrout.levelPart.leveled :=
  judgeRate_leveled (s := { s with gru := { s.gru with lGrout := groutLevel (s.item .deficitLow) (s.item .deficitHigh) s.dmax } }) h rfl

/-- L_muck follows the belt permit, and the rate level follows both (R123, R124, R47). -/
theorem judgePermit_leveled {s : State} (hl : s.levelPart.limited) (hg : s.levelPart.groutJudged) :
    s.judgePermit.levelPart.leveled := by
  obtain ⟨hreset, -, hcabin, hpen⟩ := hl
  have hjudged : ((s.modMku fun k => { k with beltPermit := s.permitFor, lMuck := if s.permitFor then 8 else 0 }).judgeRate).levelPart.leveled :=
    judgeRate_leveled ⟨hreset, rfl, hcabin, hpen⟩ hg
  exact (SameLevels.of_faultWork (judgePermit_work s)).kept.kept hjudged

namespace LevelsKept

theorem refl (s : State) : LevelsKept s s := ⟨id⟩

theorem trans {s t u : State} (h : LevelsKept s t) (k : LevelsKept t u) : LevelsKept s u := ⟨fun hs => k.kept (h.kept hs)⟩

theorem foldl {α : Type} {f : State → α → State} (h : ∀ t a, LevelsKept t (f t a)) (l : List α) (s : State) :
    LevelsKept s (l.foldl f s) := foldl_along refl trans h l s

theorem judgeRate (s : State) : LevelsKept s s.judgeRate := ⟨fun ⟨hl, hg, _⟩ => judgeRate_leveled hl hg⟩

theorem of_judgeGrout {s t : State} (h : SameLimits s t) : LevelsKept s t.judgeGrout :=
  ⟨fun hs => judgeGrout_leveled (h.limited hs.1)⟩

theorem judgeGrout (s : State) : LevelsKept s s.judgeGrout := of_judgeGrout (.refl s)

theorem judgePermit (s : State) : LevelsKept s s.judgePermit := ⟨fun ⟨hl, hg, _⟩ => judgePermit_leveled hl hg⟩

theorem setEvent (s : State) (e : Event) : LevelsKept s (s.setEvent e) := (SameLevels.setEvent s e).kept

/-! ## The ACT -/

theorem takeDeficits {s t : State} (h : SameLimits s t) : LevelsKept s t.takeDeficits :=
  of_judgeGrout (h.trans (LineWork.foldl LineWork.takeDeficit _ t).limits)

theorem takeOpening (s : State) (p : LineIx) : LevelsKept s (s.takeOpening p).judgeGrout :=
  (SameLevels.takeOpening s p).kept.trans (judgeGrout _)

theorem windowNotice (s : State) (was now : Bool) (p : LineIx) : LevelsKept s (s.windowNotice was now p) := by
  unfold State.windowNotice
  split
  · exact takeOpening s p
  · exact (SameLevels.idleLine s p).kept.trans (judgeGrout _)
  · exact refl s

theorem accrue (s : State) (new : Nat) : LevelsKept s (s.accrue new) := by
  unfold State.accrue
  extract_lets old t t1 t2
  have hsteps : LevelsKept s t := takeDeficits (.accrueSteps s new)
  have hnotices : LevelsKept s t1 := hsteps.trans (foldl (fun u p => windowNotice u _ _ p) _ _)
  have hskips : LevelsKept s t2 := hnotices.trans (foldl (fun u p => ite_along (setEvent u _) (refl u)) _ _)
  exact ite_along (hskips.trans (SameLevels.raise _ _).kept) hskips

theorem takeChange (s : State) : LevelsKept s s.takeChange := ite_along (accrue s _) (refl s)

theorem flush (s : State) : LevelsKept s s.flush := ite_along (accrue s _) (refl s)

theorem startAccountRing (s : State) : LevelsKept s s.startAccountRing :=
  (takeDeficits ((SameLimits.modAct s _).trans (.judgeDeficits _))).trans
    (foldl (fun u p => ite_along (takeOpening u p) (refl u)) _ _)

/-! ## The ADU -/

theorem enterCycle (s : State) (c : Cycle) : LevelsKept s (s.enterCycle c) where
  kept hs := by
    obtain ⟨hl, hg, -⟩ := hs
    have hjudged : ((s.modAdu fun a => { a with cycle := c, permitKept := false }).judgeRate).levelPart.leveled :=
      judgeRate_leveled hl hg
    exact (SameLevels.judgeKeys _ _).kept.kept hjudged

/-- L_pen is at most 8: a penetration above PEN_MAX gives the eighths of PEN_MAX in it (R46). -/
theorem judgePen (s : State) : LevelsKept s s.judgePen where
  kept hs := by
    obtain ⟨⟨hreset, hmuck, hcabin, -⟩, hg, -⟩ := hs
    refine judgeRate_leveled (s := s.modAdu _) ⟨hreset, hmuck, hcabin, ?_⟩ hg
    change (if s.adu.penetrationValid && decide (s.item .penMax < s.adu.penetration) then
      8 * s.item .penMax / s.adu.penetration else 8) ≤ 8
    split
    · next h =>
      have hlt : s.item .penMax < s.adu.penetration := by simp_all
      exact Nat.div_le_of_le_mul (by omega)
    · exact le_rfl

theorem enterStandstill (s : State) : LevelsKept s s.enterStandstill := (enterCycle s _).trans (flush _)

/-- An advance record changed in none of its levels, nor in the cycle state. -/
theorem modAdu (s : State) (f : Advance → Advance) (hcabin : (f s.adu).lCabin = s.adu.lCabin) (hpen : (f s.adu).lPen = s.adu.lPen)
    (hrate : (f s.adu).rateLevel = s.adu.rateLevel) (hcycle : (f s.adu).cycle = s.adu.cycle) : LevelsKept s (s.modAdu f) := by
  refine SameLevels.kept ⟨?_⟩
  unfold State.levelPart State.modAdu
  dsimp only
  rw [hcabin, hpen, hrate, hcycle]
  rfl

theorem setCause (s : State) (c : StopCause) : LevelsKept s (s.setCause c) := modAdu s _ rfl rfl rfl rfl

theorem enterRundown (s : State) : LevelsKept s s.enterRundown := by
  have hrun := (SameLevels.holdIfBoring s).kept.trans ((modAdu _ (fun a =>
    { a with thrustPermit := false, cutterPermit := false, spinup := none }) rfl rfl rfl rfl).trans
      ((enterCycle _ .rundown).trans (flush _)))
  exact ite_along (hrun.trans ((setEvent _ _).trans (enterStandstill _))) hrun

theorem enterPaused (s : State) (kept : Bool) : LevelsKept s (s.enterPaused kept) := by
  unfold State.enterPaused
  exact (SameLevels.holdIfBoring s).kept.trans ((modAdu _ _ rfl rfl rfl rfl).trans ((enterCycle _ .paused).trans
    (modAdu _ _ rfl rfl rfl rfl)))

theorem enterSpinup (s : State) : LevelsKept s s.enterSpinup :=
  (modAdu s _ rfl rfl rfl rfl).trans ((enterCycle _ _).trans (judgePen _))

theorem startRing (s : State) : LevelsKept s s.startRing := by
  have hcaptured : LevelsKept s s.captureStrokes := SameLevels.kept ⟨rfl⟩
  have hrolled : LevelsKept s s.rolled := hcaptured.trans ((modAdu _ _ rfl rfl rfl rfl).trans (SameLevels.rollCarries _).kept)
  have hreset (t : State) : SameLevels t t.ringReset := ⟨rfl⟩
  rw [startRing_eq]
  exact hrolled.trans ((startAccountRing _).trans (hreset _).kept)

theorem enterBoring (s : State) : LevelsKept s s.enterBoring := by
  have hentered := (modAdu s (fun a => { a with spinup := none }) rfl rfl rfl rfl).trans (enterCycle _ .boring)
  exact trans (ite_along (hentered.trans (startRing _)) hentered) ((SameLevels.jguPush _).kept.trans
    ((modAdu _ _ rfl rfl rfl rfl).trans (judgeRate _)))

theorem testTarget (s : State) : LevelsKept s s.testTarget :=
  ite_along ((setEvent s _).trans ((setCause _ _).trans (enterRundown _))) (refl s)

theorem takeStrokeChange (s : State) : LevelsKept s s.takeStrokeChange := by
  have hmeasured := modAdu s (fun a => { a with a := meanAdvance s.groups }) rfl rfl rfl rfl
  unfold State.takeStrokeChange
  dsimp only
  split
  · exact trans (ite_along (hmeasured.trans (takeChange _)) hmeasured) (testTarget _)
  · exact hmeasured.trans (testTarget _)
  · exact refl s

theorem takeStrokeEnd (s : State) : LevelsKept s s.takeStrokeEnd :=
  ite_along ((setEvent s _).trans ((setCause _ _).trans (enterRundown _))) (refl s)

theorem takeHalt (s : State) : LevelsKept s s.takeHalt := by
  unfold State.takeHalt
  dsimp only
  split
  · exact enterPaused s _
  · exact ite_along (enterPaused s _) (refl s)
  · exact ite_along (modAdu s _ rfl rfl rfl rfl) (refl s)
  · exact refl s

theorem takeHaltLift (s : State) : LevelsKept s s.takeHaltLift := ite_along (ite_along (enterBoring s) (enterSpinup s)) (refl s)

theorem takeRevolution (s : State) : LevelsKept s s.takeRevolution := by
  have hmeasured : LevelsKept s s.measurePulse := by
    rw [measurePulse_eq]
    exact modAdu s _ rfl rfl rfl rfl
  have hconfirm (t : State) : LevelsKept t t.confirmSpinup := ite_along (enterPaused t _) (enterBoring t)
  have hjudge (t : State) : LevelsKept t t.judgeConfirmation :=
    ite_along (ite_along ((modAdu t _ rfl rfl rfl rfl).trans (hconfirm _)) (modAdu t _ rfl rfl rfl rfl)) (refl t)
  exact hmeasured.trans ((hjudge _).trans (judgePen _))

theorem expireStopTimer (s : State) : LevelsKept s s.expireStopTimer := by
  have hstopped := modAdu s (fun a => { a with stopTimer := none, cutter := .stopped }) rfl rfl rfl rfl
  exact ite_along (ite_along (hstopped.trans ((setEvent _ _).trans (enterStandstill _))) hstopped) (refl s)

theorem expireSpinup (s : State) : LevelsKept s s.expireSpinup :=
  ite_along ((modAdu s _ rfl rfl rfl rfl).trans ((setEvent _ _).trans (enterStandstill _))) (refl s)

theorem dropCycle (s : State) : LevelsKept s s.dropCycle :=
  trans (setEvent s .estop) (ite_along ((SameLevels.changeGroups _ _).kept.trans ((modAdu _ _ rfl rfl rfl rfl).trans
    (enterStandstill _))) (refl _))

theorem takeCompletion (s : State) : LevelsKept s s.takeCompletion :=
  trans (modAdu s (fun a => { a with ringStartPending := true }) rfl rfl rfl rfl) (ite_along (enterStandstill _) (refl _))

theorem requestStart (s : State) : LevelsKept s s.requestStart.1 := by
  unfold State.requestStart
  split
  · exact refl s
  · exact enterSpinup s

theorem requestStop (s : State) : LevelsKept s s.requestStop.1 := by
  have hstop : LevelsKept s (s.setCause .stopRequest).enterRundown := (setCause s _).trans (enterRundown _)
  unfold State.requestStop
  split <;> dsimp only
  case h_4 | h_5 | h_6 => exact refl s
  all_goals exact hstop

/-- SET LEVEL takes a level of at most 8 (R45). -/
theorem requestLevel (s : State) (n : Nat) : LevelsKept s (s.requestLevel n).1 := by
  unfold State.requestLevel
  split
  · exact refl s
  · next h =>
    refine ⟨fun hs => ?_⟩
    obtain ⟨⟨hreset, hmuck, -, hpen⟩, hg, -⟩ := hs
    exact judgeRate_leveled (s := s.modAdu fun a => { a with lCabin := n }) ⟨hreset, hmuck, Nat.le_of_not_lt h, hpen⟩ hg

/-! ## The RBU -/

theorem completeRing (s : State) : LevelsKept s s.completeRing :=
  (SameLevels.modRecord s _).kept.trans ((SameLevels.modRbu _ _).kept.trans ((SameLevels.judgeKeys _ _).kept.trans
    ((setEvent _ _).trans (takeCompletion _))))

theorem arriveHold (s : State) (g : GroupIx) (pc : Piece) : LevelsKept s (s.arriveHold g pc) := by
  unfold State.arriveHold
  dsimp only
  split
  · have hset := (SameLevels.modPiece s pc fun r => r.arrived .set).kept.trans (setEvent _ .pieceSet)
    exact ite_along (ite_along (hset.trans (completeRing _)) hset) (SameLevels.modPiece s pc _).kept
  · exact ite_along ((SameLevels.modPiece s pc _).kept.trans (setEvent _ _)) (SameLevels.modPiece s pc _).kept
  · exact refl s

theorem takeGroupState (s : State) (g : GroupIx) (st : GroupState) (arrived : Option Piece) :
    LevelsKept s (s.takeGroupState g st arrived) := by
  refine trans ?_ (SameLevels.examineHead _).kept
  split
  · exact (SameLevels.arriveClear s g _).kept
  · exact arriveHold s g _
  · exact refl s

/-- RING BEGIN shuts the windows before L_grout is judged (R43). -/
theorem requestRing (s : State) (number key : Nat) : LevelsKept s (s.requestRing number key).1 := by
  unfold State.requestRing
  split
  · exact refl s
  · have hopened (t : State) (k : GroupIx) : LevelsKept t (t.openRecord number k) :=
      ((SameLevels.modRbu t _).trans ((SameLevels.judgeKeys _ _).trans (.setEvent _ _))).kept
    have hshut (t : State) : LevelsKept t t.shutWindows.idleLines.judgeGrout :=
      of_judgeGrout ((SameLimits.modAct t _).trans (LineWork.idleLines _).limits)
    have hfrozen (t : State) : LevelsKept t t.freezeAccounts := SameLevels.kept ⟨rfl⟩
    dsimp only
    exact (enterCycle s _).trans ((hopened _ _).trans ((hshut _).trans (hfrozen _)))

/-! ## Reports -/

theorem countMuck (s : State) (n : Nat) : LevelsKept s (s.countMuck n) :=
  (SameLevels.modMku s _ rfl rfl).kept.trans (ite_along ((SameLevels.modMku _ _ rfl rfl).kept.trans
    ((SameLevels.testCarDue _).kept.trans (judgePermit _))) (SameLevels.modMku _ _ rfl rfl).kept)

theorem takeBeltCounter (s : State) (v : Nat) : LevelsKept s (s.takeBeltCounter v) := by
  have hnoted := (SameLevels.modMku s (fun k => { k with lastCounter := v, counterValid := true }) rfl rfl).kept
  exact ite_along hnoted (ite_along hnoted (ite_along (hnoted.trans (SameLevels.raise _ _).kept) (hnoted.trans (countMuck _ _))))

theorem deliver (s : State) (p : LineIx) (n : Nat) : LevelsKept s (s.deliver p n) :=
  of_judgeGrout ((SameLevels.modLine s p _ Iff.rfl).limits.trans ((SameLimits.judgeDeficit _ p).trans
    ((SameLevels.noteDeficit _ p).trans ((SameLevels.testPrimed _ p).trans (.takeDeficit _ p))).limits))

theorem takeLineCounter (s : State) (p : LineIx) (v : Nat) : LevelsKept s (s.takeLineCounter p v) := by
  have hnoted := (SameLevels.modLine s p (fun l => { l with lastCounter := v, counterValid := true }) Iff.rfl).kept
  exact ite_along hnoted (ite_along hnoted (ite_along (hnoted.trans (SameLevels.raise _ _).kept) (hnoted.trans (deliver _ _ _))))

theorem passValue (s : State) (m : MeasIx) (v : Nat) : LevelsKept s (s.passValue m v) := by
  unfold State.passValue
  split_ifs
  · exact refl s
  · exact (SameLevels.takePressure s _).kept
  · exact takeLineCounter s _ v
  · exact takeBeltCounter s v

theorem takeReport (s : State) (m : MeasIx) (reported : Nat) : LevelsKept s (s.takeReport m reported) := by
  unfold State.takeReport
  dsimp only
  refine trans ?_ (passValue _ _ _)
  split <;> exact SameLevels.kept ⟨rfl⟩

/-! ## The requests of GROUT and MUCK -/

theorem requestSuspend (s : State) (index : Nat) : LevelsKept s (s.requestSuspend index).1 := by
  unfold State.requestSuspend
  split
  · exact refl s
  · split
    case h_3 => exact of_judgeGrout (LineWork.enterPhase s _ .out).limits
    all_goals exact refl s

theorem requestResume (s : State) (index : Nat) : LevelsKept s (s.requestResume index).1 := by
  unfold State.requestResume
  split
  · exact refl s
  · split
    · exact of_judgeGrout ((SameLevels.modLine s _ _ Iff.rfl).limits.trans (LineWork.startLine _ _).limits)
    · exact refl s

theorem requestTrainIn (s : State) (n capacity : Nat) : LevelsKept s (s.requestTrainIn n capacity).1 := by
  unfold State.requestTrainIn
  split
  · exact refl s
  · exact (SameLevels.modMku s _ rfl rfl).kept.trans ((SameLevels.testCarDue _).kept.trans (judgePermit _))

theorem requestCarShift (s : State) : LevelsKept s s.requestCarShift.1 := by
  unfold State.requestCarShift
  split
  · exact refl s
  · exact (SameLevels.modMku s _ rfl rfl).kept.trans
      ((ite_along (SameLevels.testCarDue _).kept (setEvent _ _)).trans (judgePermit _))

theorem requestTrainOut (s : State) : LevelsKept s s.requestTrainOut.1 := (SameLevels.modMku s _ rfl rfl).kept.trans (judgePermit _)

/-! ## Emergency stop -/

/-- With the level of the input changed, the limits and L_grout stand, and the judgment of the belt permit judges the rate level. -/
theorem assertStop (s : State) : LevelsKept s s.assertStop where
  kept hs := by
    obtain ⟨hl, hg, -⟩ := hs
    have hidled := (SameLevels.idleLines { s with estop := true }).eq
    have hjudged : ({ s with estop := true } : State).idleLines.judgePermit.levelPart.leveled :=
      judgePermit_leveled (by rw [hidled]; exact hl) (by rw [hidled]; exact hg)
    have hforced (t : State) : SameLevels t t.stopDwells.suspendTimers := ⟨rfl⟩
    exact ((hforced _).kept.trans ((dropCycle _).trans ((judgeGrout _).trans (judgeRate _)))).kept hjudged

theorem releaseStop (s : State) : LevelsKept s s.releaseStop where
  kept hs := by
    have hstarted : SameLevels { s with estop := false } (({ s with estop := false } : State).restartDwells.resumeTimers.startIdleLines) :=
      (SameLevels.restartDwells _).trans ((SameLevels.resumeTimers _).trans (.startIdleLines _))
    have hjudged : (({ s with estop := false } : State).restartDwells.resumeTimers.startIdleLines.judgeGrout).levelPart.leveled :=
      judgeGrout_leveled (hstarted.limits.limited hs.1)
    exact ((judgePermit _).trans ((judgeRate _).trans (SameLevels.examineHead _).kept)).kept hjudged

end LevelsKept

/-! ## CONFIGURE -/

theorem onChange_along {R : State → State → Prop} (hrefl : ∀ s, R s s) {f : State → State} (h : ∀ t, R t (f t)) (s : State)
    (old : ConfigSet) (i : Item) : R s (s.onChange old i f) := ite_along (hrefl s) (h s)

theorem onChange_same {s : State} {old : ConfigSet} {i : Item} {f : State → State} (h : itemValue old i = s.item i) :
    s.onChange old i f = s := if_pos h

theorem onChange_changed {s : State} {old : ConfigSet} {i : Item} {f : State → State} (h : itemValue old i ≠ s.item i) :
    s.onChange old i f = f s := if_neg h

/-- The responses up to FLOW_SPAN; those to DEFICIT_LOW, DEFICIT_HIGH and the items behind them follow (Table 10-3). -/
def State.respondFirst (s : State) (old : ConfigSet) (pairs : List (Payload × Payload)) : State :=
  ((allMeas.foldl (fun t m => t.onChange old (.novalPolicy m) fun u => u.changePolicy m) (s.onCoefficients pairs)).onChange old
    .rounding fun t => t.judgeDeficits.takeDeficits).onChange old .flowSpan fun t => allLines.foldl State.judgeSetpoint t

/-- The responses behind those to DEFICIT_LOW and DEFICIT_HIGH (Table 10-3). -/
def State.respondLast (s : State) (old : ConfigSet) : State :=
  let s := s.onChange old .primeVolume fun t => allLines.foldl State.testPrimed t
  let s := s.onChange old .stallTime State.emptyHistories
  let s := s.onChange old .carReserve State.testCarDue
  let s := s.onChange old .carOverfill State.judgePermit
  let s := s.onChange old .muckLag State.trimDelayLine
  let s := allMeas.foldl (fun t m => t.onChange old (.freshLimit m) fun u => if u.tooOld m then u.enterStale m else u) s
  (List.finRange 12).foldl (fun t c => t.onChange old (.faultMode c) fun u => u.reviseClass c) s

theorem respond_eq (s : State) (old : ConfigSet) (pairs : List (Payload × Payload)) :
    s.respond old pairs =
      (((s.respondFirst old pairs).onChange old .deficitLow State.judgeGrout).onChange old .deficitHigh State.judgeGrout).respondLast
        old := rfl

theorem respondFirst_policies (s : State) (old : ConfigSet) (pairs : List (Payload × Payload)) :
    SameLevels s (allMeas.foldl (fun t m => t.onChange old (.novalPolicy m) fun u => u.changePolicy m) (s.onCoefficients pairs)) :=
  SameLevels.trans (ite_along (.recomputeCoefficients s) (.refl s))
    (.foldl (fun t m => onChange_along SameLevels.refl (fun u => .changePolicy u m) t old _) _ _)

theorem respondFirst_limits (s : State) (old : ConfigSet) (pairs : List (Payload × Payload)) : SameLimits s (s.respondFirst old pairs) :=
  (respondFirst_policies s old pairs).limits.trans
    ((onChange_along SameLimits.refl (fun t => (SameLimits.judgeDeficits t).trans (LineWork.takeDeficits _).limits) _ old _).trans
      (onChange_along SameLimits.refl (fun t => (LineWork.foldl LineWork.judgeSetpoint _ t).limits) _ old _))

theorem respondFirst_kept (s : State) (old : ConfigSet) (pairs : List (Payload × Payload)) : LevelsKept s (s.respondFirst old pairs) :=
  (respondFirst_policies s old pairs).kept.trans
    ((onChange_along LevelsKept.refl (fun t => .takeDeficits (.judgeDeficits t)) _ old _).trans
      (onChange_along LevelsKept.refl (fun t => (SameLevels.foldl SameLevels.judgeSetpoint _ t).kept) _ old _))

theorem respondLast_kept (s : State) (old : ConfigSet) : LevelsKept s (s.respondLast old) := by
  unfold State.respondLast
  refine .trans ?_ (.foldl (fun t c => onChange_along LevelsKept.refl
    (fun u => .foldl (fun v k => (SameLevels.of_aside (.reviseReported v k)).kept) _ u) t old _) _ _)
  refine .trans ?_ (.foldl (fun t m => onChange_along LevelsKept.refl
    (fun u => ite_along (SameLevels.enterStale u m).kept (.refl u)) t old _) _ _)
  refine .trans ?_ (onChange_along LevelsKept.refl (fun t => (SameLevels.modMku t _ rfl rfl).kept) _ old .muckLag)
  refine .trans ?_ (onChange_along LevelsKept.refl LevelsKept.judgePermit _ old .carOverfill)
  refine .trans ?_ (onChange_along LevelsKept.refl (fun t => (SameLevels.testCarDue t).kept) _ old .carReserve)
  refine .trans ?_ (onChange_along LevelsKept.refl (fun t => (SameLevels.emptyHistories t).kept) _ old .stallTime)
  exact onChange_along LevelsKept.refl (fun t => (SameLevels.foldl SameLevels.testPrimed _ t).kept) _ old .primeVolume

/-- L_grout is judged again where one of the bounds of R112 has changed (Table 10-3). -/
theorem respond_leveled {s : State} {old : ConfigSet} (pairs : List (Payload × Payload)) (hl : s.levelPart.limited)
    (hsame : itemValue old .deficitLow = s.item .deficitLow → itemValue old .deficitHigh = s.item .deficitHigh →
      s.levelPart.leveled) : (s.respond old pairs).levelPart.leveled := by
  have hfirst := respondFirst_limits s old pairs
  have hlow : (s.respondFirst old pairs).item .deficitLow = s.item .deficitLow := congrArg LimitPart.low hfirst.eq
  have hhigh : (s.respondFirst old pairs).item .deficitHigh = s.item .deficitHigh := congrArg LimitPart.high hfirst.eq
  have hjudged : (s.respondFirst old pairs).judgeGrout.levelPart.leveled := judgeGrout_leveled (hfirst.limited hl)
  rw [respond_eq]
  refine (respondLast_kept _ old).kept ?_
  by_cases hlows : itemValue old .deficitLow = s.item .deficitLow
  · rw [onChange_same (hlows.trans hlow.symm)]
    by_cases hhighs : itemValue old .deficitHigh = s.item .deficitHigh
    · rw [onChange_same (hhighs.trans hhigh.symm)]
      exact (respondFirst_kept s old pairs).kept (hsame hlows hhighs)
    · rw [onChange_changed (by rwa [hhigh])]
      exact hjudged
  · rw [onChange_changed (i := .deficitLow) (by rwa [hlow])]
    exact (onChange_along LevelsKept.refl LevelsKept.judgeGrout _ old .deficitHigh).kept hjudged

namespace LevelsKept

theorem requestConfigure (s : State) (pairs : List (Payload × Payload)) : LevelsKept s (s.requestConfigure pairs).1 := by
  unfold State.requestConfigure
  split
  · exact refl s
  · refine ⟨fun hs => respond_leveled pairs hs.1 fun hlow hhigh => ?_⟩
    have hsame : ({ s with config := resultingSet s.config pairs } : State).levelPart = s.levelPart := by
      unfold State.levelPart
      rw [← hlow, ← hhigh]
      rfl
    rw [hsame]
    exact hs

/-! ## What a command sets going -/

theorem takeEntering (s : State) (a : Action) : LevelsKept s (s.takeEntering a) := by
  unfold State.takeEntering
  split
  · exact takeHalt s
  · exact takeHalt s
  · exact judgePermit s
  · exact SameLevels.kept ⟨rfl⟩
  · exact (SameLevels.holdLine s _).kept.trans (judgeGrout _)

theorem takeLeaving (s : State) (a : Action) : LevelsKept s (s.takeLeaving a) := by
  refine trans ?_ (SameLevels.examineHead _).kept
  split
  · exact takeHaltLift s
  · exact takeHaltLift s
  · exact judgePermit s
  · exact ((SameLevels.restartDwells s).trans (.resumeTimers _)).kept
  · exact (SameLevels.releaseLine s _).kept.trans (judgeGrout _)

theorem take (s : State) (n : Notice) : LevelsKept s (s.take n) := by
  cases n with
  | strokeChange => exact takeStrokeChange s
  | strokeEnd g => exact takeStrokeEnd s
  | groupState g st owner arrived => exact takeGroupState s g st arrived
  | actionEnters a => exact takeEntering s a
  | actionLeaves a => exact takeLeaving s a
  | blockedRemoved p => exact (SameLevels.unblockLine s p).kept.trans (judgeGrout _)

end LevelsKept

/-- With RESET released, every operation leaves every level as its rule gives it. -/
theorem levelsSound_upheld : Upheld State.levelsSound where
  aside h := (SameLevels.of_aside h).keeps
  passMs s := (SameLevels.passMs s).keeps
  take s n := (LevelsKept.take s n).keeps
  pulse s g e := (SameLevels.pulse s g e).keeps
  expireDwell s g := (SameLevels.expireDwell s g).keeps
  takeRevolution s := (LevelsKept.takeRevolution s).keeps
  expireStopTimer s := (LevelsKept.expireStopTimer s).keeps
  expireSpinup s := (LevelsKept.expireSpinup s).keeps
  expirePieceTimer s pc := (SameLevels.expirePieceTimer s pc).keeps
  expireWait s pc := (SameLevels.expireWait s pc).keeps
  enterStale s m := (SameLevels.enterStale s m).keeps
  groutTick s := (SameLevels.groutTick s).keeps
  muckTick s := (SameLevels.muckTick s).keeps
  assertStop s := (LevelsKept.assertStop s).keeps
  releaseStop s := (LevelsKept.releaseStop s).keeps
  takeReport s m v := (LevelsKept.takeReport s m v).keeps
  requestConfigure s pairs := (LevelsKept.requestConfigure s pairs).keeps
  requestReference s v := (SameLevels.requestReference s v).keeps
  requestStart s := (LevelsKept.requestStart s).keeps
  requestStop s := (LevelsKept.requestStop s).keeps
  requestLevel s n := (LevelsKept.requestLevel s n).keeps
  requestRing s n k := (LevelsKept.requestRing s n k).keeps
  requestClaim s c := (SameLevels.requestClaim s c).keeps
  requestWithdraw s c := (SameLevels.requestWithdraw s c).keeps
  requestPlaced s c := (SameLevels.requestPlaced s c).keeps
  requestSuspend s p := (LevelsKept.requestSuspend s p).keeps
  requestResume s p := (LevelsKept.requestResume s p).keeps
  requestTrainIn s n c := (LevelsKept.requestTrainIn s n c).keeps
  requestCarShift s := (LevelsKept.requestCarShift s).keeps
  requestTrainOut s := (LevelsKept.requestTrainOut s).keeps

theorem deviceReset_levelsSound (s : State) : s.deviceReset.levelsSound := by
  have hdmax : s.deviceReset.dmax = none := by
    have hshut (p : LineIx) : (s.deviceReset.account p).window = false := by
      simp [State.account, State.deviceReset, State.reset, Accounts.reset]
    simp [State.dmax, hshut]
  refine ⟨by rw [hdmax]; rfl, rfl, Nat.zero_le 8, le_rfl, le_rfl, ?_, fun _ => rfl⟩
  simp [State.deviceReset, State.reset, Advance.reset]

/-- Under RESET the cycle is STANDSTILL, so the rate level is 0 whatever the level of the emergency stop input is. -/
theorem levelsSound_held (s : State) (l : List Instr) (r e : Bool) (hr : s.resetActive = true) (h : s.levelsSound) :
    ({ s with pending := l, resetActive := r, estop := e } : State).levelsSound := by
  obtain ⟨hgrout, hmuck, hcabin, hbound, hpen, hrate, hreset⟩ := h
  have hstands := hreset hr
  refine ⟨hgrout, hmuck, hcabin, hbound, hpen, ?_, fun _ => hstands⟩
  rw [hstands] at hrate
  simp only [hstands]
  exact hrate

/-- Settles O56: each change of what a level is judged from ends in the judgment of that level, in the same operation. -/
theorem levelsStayJudged : Obligations.LevelsStayJudged := fun _ _ hs h =>
  levelsSound_upheld.step deviceReset_levelsSound levelsSound_held hs h

end Sys2Proof.Machine
end

section
/-! Device reset: the values it gives, and what is taken while RESET is held. -/

namespace Sys2Proof.Machine

theorem deviceReset_item (s : State) (i : Item) : s.deviceReset.item i = i.dflt := reset_item i

theorem deviceReset_port (s : State) (st : Station) : s.deviceReset.port st = Port.reset := by
  simp [State.port, State.deviceReset, State.reset]

/-- Settles O2: every record is read off the reset values, and what RESET holds is a case split over the commands. -/
theorem resetTakesAndHoldsTheResetValues : Obligations.ResetTakesAndHoldsTheResetValues := by
  refine ⟨fun s => ⟨⟨_, exec_deviceReset s, ?_⟩, exec_resetRelease s⟩, fun i s hr => ⟨exec_held hr i, ?_⟩⟩
  · exact ⟨rfl, rfl, rfl, rfl, rfl, deviceReset_item s, deviceReset_group s, rfl, rfl, rfl, rfl, rfl, rfl, rfl,
      deviceReset_port s, rfl⟩
  · exact ⟨exec_estopAssert_held hr, exec_estopRelease_held hr⟩

end Sys2Proof.Machine
end

section
/-! SET LEVEL, and the ends of the two times of the advance cycle. -/

namespace Sys2Proof.Machine

/-! ## SET LEVEL -/

/-- A level of 0 to 8 is taken and the rate level judged (R45, R47). -/
theorem requestLevel_taken (s : State) {n : Nat} (h : n ≤ 8) :
    s.requestLevel n =
      (s.modAdu fun a =>
        { a with
          lCabin := n
          rateLevel := if a.cycle = .boring ∧ s.estop = false then min (min n s.gru.lGrout) (min s.mku.lMuck a.lPen) else 0 },
       .accepted) := by
  have hrate : (s.modAdu fun a => { a with lCabin := n }).rateFor =
      if s.adu.cycle = .boring ∧ s.estop = false then min (min n s.gru.lGrout) (min s.mku.lMuck s.adu.lPen) else 0 := by
    simp [State.rateFor, State.modAdu]
  rw [State.requestLevel, if_neg (Nat.not_lt.mpr h), State.judgeRate, hrate]
  rfl

theorem requestLevel_refused (s : State) {n : Nat} (h : 8 < n) : s.requestLevel n = (s, .refusedRange 10) := if_pos h

theorem exec_setLevel (level : Payload) (s : State) :
    exec (.setLevel level) s = s.run fun t => t.request .cabin 5 fun u => u.requestLevel level.toNat := rfl

/-- Settles O18: the owner's two answers, and for PORT RESET what a command may change. -/
theorem setLevelSetsTheCabinLimiter : Obligations.SetLevelSetsTheCabinLimiter := by
  intro s level
  refine ⟨fun hready hlevel => ?_, fun hready hlevel => ?_, ⟨_, exec_deviceReset s, rfl⟩, fun st t h => ?_⟩
  · rw [exec_setLevel]
    exact run_request hready (requestLevel_taken _ hlevel) ((quiet_modAdu (by rfl)).trans (ready_iff.mp hready).2)
  · rw [exec_setLevel]
    exact run_refused hready (requestLevel_refused _ hlevel)
  · have hlevel : t.guarded.lCabin = s.guarded.lCabin :=
      (congrArg Guarded.lCabin (exec_guarded h)).trans (mayChange_lCabin _ _ (by simp) (by simp) (by simp))
    exact hlevel

/-! ## A move of the cycle in which no condition comes or goes -/

/-- The part with the cycle in a state other than BORING, the rate level 0 (R39, R47). -/
def State.cycledTo (s : State) (c : Cycle) : State := s.modAdu fun a => { a with cycle := c, permitKept := false, rateLevel := 0 }

theorem judgeRate_cycledTo (s : State) {c : Cycle} (h : c ≠ .boring) :
    (s.modAdu fun a => { a with cycle := c, permitKept := false }).judgeRate = s.cycledTo c := by
  have hrate : (s.modAdu fun a => { a with cycle := c, permitKept := false }).rateFor = 0 := if_neg (by simp [State.modAdu, h])
  rw [State.judgeRate, hrate]
  rfl

theorem agrees_of_unmarked {s : State} (h : s.unmarked = none) {key : FaultKey} (hm : key.measured = true) : s.agrees key :=
  unmarked_none_iff.mp h key (mem_measuredKeys hm)

/-- The cycle moves, and no measured condition comes or goes with it. -/
theorem enterCycle_still {s : State} {c : Cycle} (hc : c ≠ .boring) (h : (s.cycledTo c).unmarked = none) :
    s.enterCycle c = s.cycledTo c := by
  rw [State.enterCycle, judgeRate_cycledTo s hc]
  exact judgeKeys_of_agrees fun key hkey => agrees_of_unmarked h (measured_of_mem_cycleKeys hkey)

/-- With no advance left to accrue a flush does nothing (R54). -/
theorem flush_of_accrued {s : State} (h : s.adu.a ≤ s.act.aAcc) : s.flush = s := if_neg (Nat.not_lt.mpr h)

theorem enterStandstill_still {s : State} (h : (s.cycledTo .standstill).unmarked = none) (ha : s.adu.a ≤ s.act.aAcc) :
    s.enterStandstill = s.cycledTo .standstill := by
  rw [State.enterStandstill, enterCycle_still (by decide) h]
  exact flush_of_accrued ha

/-! ## The stop timer -/

theorem expireStopTimer_idle {s : State} (h : s.adu.stopTimer = none) : s.expireStopTimer = s := by
  simp [State.expireStopTimer, h]

theorem expireStopTimer_elsewhere {s : State} (h : s.adu.stopTimer.isSome = true) (hc : s.adu.cycle ≠ .rundown) :
    s.expireStopTimer = s.modAdu fun a => { a with stopTimer := none, cutter := .stopped } := by
  rw [State.expireStopTimer, if_pos h]
  exact if_neg (by simpa [State.modAdu] using hc)

theorem expireStopTimer_rundown {s : State} (h : s.adu.stopTimer.isSome = true) (hc : s.adu.cycle = .rundown) :
    s.expireStopTimer =
      ((s.modAdu fun a => { a with stopTimer := none, cutter := .stopped }).setEvent .standstillReached).enterStandstill := by
  rw [State.expireStopTimer, if_pos h]
  exact if_pos (by simp [State.modAdu, hc])

/-! ## The spin-up time -/

theorem expireSpinup_idle {s : State} (h : s.adu.cycle ≠ .spinup ∨ s.adu.spinup = none) : s.expireSpinup = s := by
  rcases h with h | h <;> simp [State.expireSpinup, h]

theorem expireSpinup_due {s : State} (h : s.adu.spinup.isSome = true) (hc : s.adu.cycle = .spinup) :
    s.expireSpinup =
      ((s.modAdu fun a => { a with spinup := none, cutterPermit := false, lastStop := .spinupFailed }).setEvent
        .spinupFailed).enterStandstill := if_pos (by simp [h, hc])

/-- Settles O15: where a time runs its end is one move of the cycle, in which no condition comes or goes. -/
theorem cycleTimersRunOut : Obligations.CycleTimersRunOut := by
  refine ⟨fun s hcalm => ⟨fun hidle => ?_, fun hruns hc => ?_, fun hruns hc ha hquiet => ?_⟩,
    fun s hcalm => ⟨fun hidle => ?_, fun hc hruns ha hquiet => ?_⟩⟩
  · exact run_calm hcalm (expireStopTimer_idle hidle) (calm_iff.mp hcalm).2
  · exact run_calm hcalm (expireStopTimer_elsewhere hruns hc) ((quiet_modAdu (by rfl)).trans (calm_iff.mp hcalm).2)
  · refine run_calm hcalm ((expireStopTimer_rundown hruns hc).trans ?_) hquiet
    exact enterStandstill_still (quiet_iff.mp hquiet).1 ha
  · exact run_calm hcalm (expireSpinup_idle hidle) (calm_iff.mp hcalm).2
  · refine run_calm hcalm ((expireSpinup_due hruns hc).trans ?_) hquiet
    exact enterStandstill_still (quiet_iff.mp hquiet).1 ha

end Sys2Proof.Machine
end

section
/-! ADVANCE START: the conditions of Table 2-3 in their order, and the entry into SPINUP. -/

namespace Sys2Proof.Machine

/-! ## Checks in their order -/

/-- A check answers where its condition fails; the checks behind it answer otherwise. -/
theorem firstFailing_cons_if {ok : Bool} {p : Prop} [Decidable p] (h : ok = false ↔ p) (r : Reply) (rest : List (Bool × Reply)) :
    firstFailing ((ok, r) :: rest) = if p then some r else firstFailing rest := by
  cases ok with
  | false => rw [if_pos (h.mp rfl)]; rfl
  | true => rw [if_neg fun hp => by cases h.mpr hp]; rfl

/-- The answer to checks in order, read off by `f` from the chain of their conditions. -/
theorem firstFailing_cons_via {α : Type} (f : α → Option Reply) {ok : Bool} {p : Prop} [Decidable p] (h : ok = false ↔ p)
    {r : Reply} {a b : α} {rest : List (Bool × Reply)} (hr : f a = some r) (hrest : firstFailing rest = f b) :
    firstFailing ((ok, r) :: rest) = f (if p then a else b) := by
  rw [firstFailing_cons_if h, hrest]
  split
  · exact hr.symm
  · rfl

/-- The answer REFUSED_STATE with a reason, none for the reason 0. -/
def reasonReply (n : Nat) : Option Reply := if n = 0 then none else some (.refusedState n)

theorem all_groups_false {f : GroupIx → Bool} : allGroups.all f = false ↔ ∃ g, f g = false :=
  ⟨fun h => by
    obtain ⟨g, -, hg⟩ := List.all_eq_false.mp h
    exact ⟨g, by simpa using hg⟩, fun ⟨g, hg⟩ => List.all_eq_false.mpr ⟨g, mem_allGroups g, by simp [hg]⟩⟩

theorem underWay_iff (c : Cycle) : c.underWay = true ↔ c ∈ [Cycle.spinup, .boring, .paused, .rundown] := by
  cases c <;> simp [Cycle.underWay]

/-- The reason of the first condition of Table 2-3 that fails, 0 where none does. -/
def State.startReason (s : State) : Nat :=
  if s.adu.cycle ∈ [Cycle.spinup, .boring, .paused, .rundown] then 1
  else if s.adu.cycle = .ringBuild then 5
  else if ∃ g, (s.group g).referenced = false then 2
  else if ∃ g, (s.group g).saturated = true then 3
  else if s.inForce .advHalt = true ∨ s.inForce .cutHalt = true then 6
  else if ∃ st ∈ allStations, (s.port st).present = false then 7
  else if s.estop = true then 8
  else if s.item .ringTarget ≤ s.adu.a ∧ s.adu.ringStartPending = false then 9
  else if ∃ g, s.item .strokeEnd ≤ (s.group g).stroke then 10
  else 0

theorem startChecks_firstFailing (s : State) :
    firstFailing s.startChecks = reasonReply s.startReason := by
  have hway : (!s.adu.cycle.underWay) = false ↔ s.adu.cycle ∈ [Cycle.spinup, .boring, .paused, .rundown] := by
    rw [Bool.not_eq_false', underWay_iff]
  have hbuild : (s.adu.cycle != .ringBuild) = false ↔ s.adu.cycle = .ringBuild := by simp
  have hreferenced : (allGroups.all fun g => (s.group g).referenced) = false ↔ ∃ g, (s.group g).referenced = false :=
    all_groups_false
  have hsaturated : (allGroups.all fun g => !(s.group g).saturated) = false ↔ ∃ g, (s.group g).saturated = true := by
    rw [all_groups_false]
    simp
  have hhalt : (!s.haltInForce) = false ↔ s.inForce .advHalt = true ∨ s.inForce .cutHalt = true := by
    rw [Bool.not_eq_false', State.haltInForce, Bool.or_eq_true]
  have hpresent : (allStations.all fun st => (s.port st).present) = false ↔ ∃ st ∈ allStations, (s.port st).present = false := by
    simp [List.all_eq_false]
  have hestop : (!s.estop) = false ↔ s.estop = true := by simp
  have htarget : (decide (s.adu.a < s.item .ringTarget) || s.adu.ringStartPending) = false ↔
      s.item .ringTarget ≤ s.adu.a ∧ s.adu.ringStartPending = false := by simp
  have hstroke : (allGroups.all fun g => decide ((s.group g).stroke < s.item .strokeEnd)) = false ↔
      ∃ g, s.item .strokeEnd ≤ (s.group g).stroke := by
    rw [all_groups_false]
    simp
  have hstrokes := firstFailing_cons_via reasonReply hstroke (a := 10) (b := 0) rfl (rest := []) rfl
  have htargets := firstFailing_cons_via reasonReply htarget (a := 9) rfl hstrokes
  have hestops := firstFailing_cons_via reasonReply hestop (a := 8) rfl htargets
  have hpresents := firstFailing_cons_via reasonReply hpresent (a := 7) rfl hestops
  have hhalts := firstFailing_cons_via reasonReply hhalt (a := 6) rfl hpresents
  have hsaturates := firstFailing_cons_via reasonReply hsaturated (a := 3) rfl hhalts
  have hreferences := firstFailing_cons_via reasonReply hreferenced (a := 2) rfl hsaturates
  have hbuilds := firstFailing_cons_via reasonReply hbuild (a := 5) rfl hreferences
  exact firstFailing_cons_via reasonReply hway (a := 1) rfl hbuilds

/-! ## The entry into SPINUP -/

/-- The part in SPINUP: the cutterhead permit asserted, the spin-up time started, the confirmations and the penetration cleared
(R30, R31, R46). -/
def State.spunUp (s : State) : State :=
  s.modAdu fun a =>
    { a with
      cycle := .spinup, permitKept := false, cutterPermit := true, pulseSincePermit := false
      spinup := some (1000 * s.item .spinupTime), confirmations := 0, penetrationValid := false, lPen := 8
      rateLevel := 0 }

/-- SPINUP is entered, and no condition comes or goes with it. -/
theorem enterSpinup_still {s : State} (h : s.spunUp.unmarked = none) : s.enterSpinup = s.spunUp := by
  have hentered := enterCycle_still (s := s.modAdu fun a =>
    { a with
      cutterPermit := true, pulseSincePermit := false, spinup := some (1000 * s.item .spinupTime)
      confirmations := 0, penetrationValid := false }) (c := .spinup) (by decide) h
  rw [State.enterSpinup, hentered]
  rfl

theorem requestStart_refused {s : State} {r : Reply} (h : firstFailing s.startChecks = some r) : s.requestStart = (s, r) := by
  rw [State.requestStart, h]

theorem requestStart_accepted {s : State} (h : firstFailing s.startChecks = none) : s.requestStart = (s.enterSpinup, .accepted) := by
  rw [State.requestStart, h]

theorem exec_advanceStart_refused {s : State} {r : Reply} (h : s.ready .cabin = true)
    (hr : firstFailing (s.attended .cabin).startChecks = some r) :
    exec .advanceStart s = .next ((s.attended .cabin).answer .cabin 3 r) := by
  rw [exec_advanceStart]
  exact run_refused h (requestStart_refused hr)

theorem exec_advanceStart_accepted {s : State} (h : s.ready .cabin = true)
    (hr : firstFailing (s.attended .cabin).startChecks = none) (hq : (s.attended .cabin).spunUp.quiet = true) :
    exec .advanceStart s = .next ((s.attended .cabin).spunUp.answer .cabin 3 .accepted) := by
  rw [exec_advanceStart]
  refine run_request h ?_ hq
  rw [requestStart_accepted hr, enterSpinup_still (quiet_iff.mp hq).1]

/-- Settles O19: the checks answer in the order of Table 2-3, and where none does SPINUP is entered. -/
theorem advanceStartEntersSpinup : Obligations.AdvanceStartEntersSpinup := by
  intro s hready
  refine ⟨fun hreason => exec_advanceStart_refused hready ?_, fun hreason => exec_advanceStart_accepted hready ?_⟩
  · exact (startChecks_firstFailing _).trans (if_neg hreason)
  · exact (startChecks_firstFailing _).trans (if_pos hreason)

end Sys2Proof.Machine
end

section
/-! RING BEGIN: the conditions of Table 2-5 in their order, and the opening of the record with the stroke accounts frozen. -/

namespace Sys2Proof.Machine

/-! ## The checks -/

/-- The answer of the first condition of Table 2-5 that fails, ACCEPTED where none does. -/
def State.ringReply (s : State) (number key : Nat) : Reply :=
  if s.adu.cycle ∈ [Cycle.spinup, .boring, .paused, .rundown] then .refusedState 1
  else if s.adu.cycle = .ringBuild then .refusedState 2
  else if s.rbu.record.state = .complete ∧ s.adu.ringStartPending = true then .refusedState 3
  else if ∃ g, (s.group g).state = .locked then .refusedState 4
  else if number = 0 then .refusedRange 10
  else if ∃ n ∈ s.rbu.lastCompleted, number ≠ n + 1 then .refusedRange 11
  else if 9 < key then .refusedRange 12
  else .accepted

/-- An answer of the checks: ACCEPTED is none of them. -/
def refusal (r : Reply) : Option Reply := if r = .accepted then none else some r

theorem ringChecks_firstFailing (s : State) (number key : Nat) :
    firstFailing (s.ringChecks number key) = refusal (s.ringReply number key) := by
  have hway : (!s.adu.cycle.underWay) = false ↔ s.adu.cycle ∈ [Cycle.spinup, .boring, .paused, .rundown] := by
    rw [Bool.not_eq_false', underWay_iff]
  have hbuild : (s.adu.cycle != .ringBuild) = false ↔ s.adu.cycle = .ringBuild := by simp
  have hcomplete : (!(s.rbu.record.state == .complete && s.adu.ringStartPending)) = false ↔
      s.rbu.record.state = .complete ∧ s.adu.ringStartPending = true := by simp
  have hlocked : (allGroups.all fun g => (s.group g).state != .locked) = false ↔ ∃ g, (s.group g).state = .locked := by
    rw [all_groups_false]
    simp
  have hnumber : decide (1 ≤ number) = false ↔ number = 0 := by simp
  have hfollows : (s.rbu.lastCompleted.map fun n => number == n + 1).getD true = false ↔
      ∃ n ∈ s.rbu.lastCompleted, number ≠ n + 1 := by
    cases s.rbu.lastCompleted <;> simp
  have hkey : decide (key ≤ 9) = false ↔ 9 < key := by simp
  have hkeys := firstFailing_cons_via refusal hkey (a := .refusedRange 12) (b := .accepted) rfl (rest := []) rfl
  have hfollowed := firstFailing_cons_via refusal hfollows (a := .refusedRange 11) rfl hkeys
  have hnumbers := firstFailing_cons_via refusal hnumber (a := .refusedRange 10) rfl hfollowed
  have hlocks := firstFailing_cons_via refusal hlocked (a := .refusedState 4) rfl hnumbers
  have hcompletes := firstFailing_cons_via refusal hcomplete (a := .refusedState 3) rfl hlocks
  have hbuilds := firstFailing_cons_via refusal hbuild (a := .refusedState 2) rfl hcompletes
  exact firstFailing_cons_via refusal hway (a := .refusedState 1) rfl hbuilds

theorem ringReply_accepted_standstill {s : State} {number key : Nat} (h : s.ringReply number key = .accepted) :
    s.adu.cycle = .standstill := by
  have hok := firstFailing_none ((ringChecks_firstFailing s number key).trans (if_pos h))
  have hway : s.adu.cycle.underWay = false := by simpa using hok _ (List.mem_cons_self ..)
  have hbuild : s.adu.cycle ≠ .ringBuild := by simpa using hok (s.adu.cycle != .ringBuild, .refusedState 2) (by simp [State.ringChecks])
  exact (Cycle.underWay_eq_false hway).resolve_right hbuild

/-! ## The steps of RING BEGIN -/

/-- The stroke accounts as they stand (R74). -/
def State.strokeAccounts (s : State) : Frozen :=
  { boredLength := s.act.aAcc, revolutions := s.adu.revolutions, maxPenetration := s.adu.maxPenetration
    lines := Vector.ofFn fun p =>
      { litres := some (s.whole (s.account p).target, (s.line p).delivered), absent := (s.line p).outThroughout }
    unassigned := s.whole s.act.unassigned, expected := s.whole s.act.expected, measured := s.mku.measured
    maxFace := s.mst.maxFace }

theorem freezeAccounts_eq (s : State) :
    s.freezeAccounts = s.modRecord fun r => { r with frozen := some s.strokeAccounts, faultCounts := s.fsv.counters } := rfl

/-- The part with a record opened for a ring (R71, R73). -/
def State.withRingOpen (s : State) (number : Nat) (key : GroupIx) : State :=
  s.modRbu fun b =>
    { b with
      queue := []
      record :=
        { state := .building, number := some number, key := some key
          pieces := Vector.ofFn fun i =>
            { state := .pending, groups := pieceGroups key ((Piece.ofCode i).getD .k), claimTime := none, awaited := [],
              timer := PieceTimer.idle }
          frozen := b.record.frozen, buildStart := some s.seconds, buildDuration := none, claimsExpired := 0
          faultCounts := b.record.faultCounts } }

/-- The record is opened, and the erector station's silence does not come with it (R165). -/
theorem openRecord_still {s : State} {number : Nat} {key : GroupIx} (h : (s.withRingOpen number key).agrees (.stationSilent .erector)) :
    s.openRecord number key = (s.withRingOpen number key).setEvent .ringOpened :=
  congrArg (State.setEvent · .ringOpened) (judgeKeys_of_agrees fun _ hkey => List.mem_singleton.mp hkey ▸ h)

/-- With every window SHUT L_grout is 8 (R112). -/
theorem judgeGrout_shut {s : State} (hshut : ∀ p, (s.account p).window = false) (hc : s.adu.cycle ≠ .boring) :
    s.judgeGrout = { s with gru := { s.gru with lGrout := 8 }, adu := { s.adu with rateLevel := 0 } } := by
  have hdmax : s.dmax = none := by simp [State.dmax, hshut]
  have hrate (n : Nat) : ({ s with gru := { s.gru with lGrout := n } } : State).rateFor = 0 := if_neg (by simp [hc])
  rw [State.judgeGrout, State.judgeRate, hrate, hdmax]
  rfl

/-- The part once RING BEGIN has been accepted, but for the event RING_OPENED (R43, R59, R71, R73, R74, R110, R112). -/
def State.ringBegun (s : State) (number : Nat) (key : GroupIx) : State :=
  { s with
    adu := { s.adu with cycle := .ringBuild, permitKept := false, rateLevel := 0 }
    act := { s.act with lines := mapIx s.act.lines fun _ l => { l with window := false } }
    rbu := { s.rbu with
      queue := []
      record :=
        { state := .building, number := some number, key := some key
          pieces := Vector.ofFn fun i =>
            { state := .pending, groups := pieceGroups key ((Piece.ofCode i).getD .k), claimTime := none, awaited := [],
              timer := { state := .stopped, kind := .none, left := 0 } }
          frozen := some s.strokeAccounts, buildStart := some s.seconds, buildDuration := none, claimsExpired := 0
          faultCounts := s.fsv.counters } }
    gru := { lines := mapIx s.gru.lines fun _ l => l.idled, lGrout := 8 } }

theorem shutWindows_account (s : State) (p : LineIx) : s.shutWindows.account p = { s.account p with window := false } :=
  mapIx_getElem s.act.lines (fun _ (l : LineAccount) => ({ l with window := false } : LineAccount)) p

/-- Shutting the windows and idling the lines leaves the stroke accounts. -/
theorem strokeAccounts_idled (s : State) :
    (s.shutWindows.withLines (mapIx s.gru.lines fun _ l => l.idled)).strokeAccounts = s.strokeAccounts := by
  have haccount (p : LineIx) : ((s.shutWindows.withLines (mapIx s.gru.lines fun _ l => l.idled)).account p).target =
      (s.account p).target := (congrArg LineAccount.target (shutWindows_account s p) :)
  have hline (p : LineIx) : (s.shutWindows.withLines (mapIx s.gru.lines fun _ l => l.idled)).line p = (s.line p).idled :=
    mapIx_getElem s.gru.lines (fun _ l => l.idled) p
  have hkept (l : Line) : l.idled.delivered = l.delivered ∧ l.idled.outThroughout = l.outThroughout := by
    unfold Line.idled
    split <;> exact ⟨rfl, rfl⟩
  unfold State.strokeAccounts
  simp only [haccount, hline, (hkept _).1, (hkept _).2]
  rfl

theorem strokeAccounts_judgeGrout (s : State) : s.judgeGrout.strokeAccounts = s.strokeAccounts := rfl

/-- The judgment of L_grout and the freezing of the accounts, once the windows are SHUT and the lines idled (R74, R112). -/
theorem judged_frozen (s : State) (hc : s.adu.cycle ≠ .boring) :
    ((s.shutWindows.withLines (mapIx s.gru.lines fun _ l => l.idled)).judgeGrout).freezeAccounts =
      { s with
        adu := { s.adu with rateLevel := 0 }
        act := { s.act with lines := mapIx s.act.lines fun _ l => { l with window := false } }
        rbu := { s.rbu with record := { s.rbu.record with frozen := some s.strokeAccounts, faultCounts := s.fsv.counters } }
        gru := { lines := mapIx s.gru.lines fun _ l => l.idled, lGrout := 8 } } := by
  have hshut (p : LineIx) : ((s.shutWindows.withLines (mapIx s.gru.lines fun _ l => l.idled)).account p).window = false :=
    (congrArg LineAccount.window (shutWindows_account s p) :)
  rw [freezeAccounts_eq, strokeAccounts_judgeGrout, strokeAccounts_idled, judgeGrout_shut hshut hc]
  rfl

theorem requestRing_refused {s : State} {number key : Nat} {r : Reply} (h : firstFailing (s.ringChecks number key) = some r) :
    s.requestRing number key = (s, r) := by
  rw [State.requestRing, h]

theorem requestRing_accepted {s : State} {number key : Nat} (h : firstFailing (s.ringChecks number key) = none) :
    s.requestRing number key =
      ((((s.enterCycle .ringBuild).openRecord number (Fin.ofNat 10 key)).shutWindows.idleLines.judgeGrout).freezeAccounts,
        .accepted) := by
  rw [State.requestRing, h]

/-- The five steps of RING BEGIN from STANDSTILL, where no condition comes or goes with them (R43). -/
theorem ringSteps_still {s : State} {number : Nat} {key : GroupIx} (hq : s.quiet = true) (hc : s.adu.cycle = .standstill)
    (ht : (s.ringBegun number key).unmarked = none) :
    (((s.enterCycle .ringBuild).openRecord number key).shutWindows.idleLines.judgeGrout).freezeAccounts =
      (s.ringBegun number key).setEvent .ringOpened := by
  have hcycled : (s.cycledTo .ringBuild).quiet = true := quiet_modAdu_cutting (by rw [hc]; rfl) (by rw [hc]; rfl) hq
  have hentered : s.enterCycle .ringBuild = s.cycledTo .ringBuild := enterCycle_still (by decide) (quiet_iff.mp hcycled).1
  have hopened : (s.cycledTo .ringBuild).openRecord number key =
      ((s.cycledTo .ringBuild).withRingOpen number key).setEvent .ringOpened :=
    openRecord_still (agrees_of_unmarked (key := .stationSilent .erector) ht rfl)
  have hgrout : ((s.cycledTo .ringBuild).withRingOpen number key).shutWindows.agrees (.stationSilent .grout) :=
    agrees_of_quiet hcycled (key := .stationSilent .grout) rfl
  have hidled : (((s.cycledTo .ringBuild).withRingOpen number key).setEvent .ringOpened).shutWindows.idleLines =
      (((s.cycledTo .ringBuild).withRingOpen number key).setEvent .ringOpened).shutWindows.withLines
        (mapIx s.gru.lines fun _ l => l.idled) := by
    refine idleLines_eq ((agrees_of_watched (watched_setEvent _ .ringOpened) _).mpr hgrout) fun p key' hkey => ?_
    exact (agrees_of_watched (watched_setEvent (s.ringBegun number key) .ringOpened) _).mpr
      (agrees_of_unmarked ht (measured_of_mem_lineKeys hkey))
  rw [hentered, hopened, hidled]
  exact judged_frozen (((s.cycledTo .ringBuild).withRingOpen number key).setEvent .ringOpened) Cycle.noConfusion

theorem exec_ringBegin (number key : Payload) (s : State) :
    exec (.ringBegin number key) s = s.run fun t => t.request .cabin 6 fun u => u.requestRing number.toNat key.toNat := rfl

theorem exec_ringBegin_refused {s : State} {number key : Payload} (h : s.ready .cabin = true)
    (hr : (s.attended .cabin).ringReply number.toNat key.toNat ≠ .accepted) :
    exec (.ringBegin number key) s =
      .next ((s.attended .cabin).answer .cabin 6 ((s.attended .cabin).ringReply number.toNat key.toNat)) := by
  rw [exec_ringBegin]
  exact run_refused h (requestRing_refused ((ringChecks_firstFailing ..).trans (if_neg hr)))

theorem exec_ringBegin_accepted {s : State} {number key : Payload} (h : s.ready .cabin = true)
    (hr : (s.attended .cabin).ringReply number.toNat key.toNat = .accepted)
    (hq : ((s.attended .cabin).ringBegun number.toNat (Fin.ofNat 10 key.toNat)).quiet = true) :
    exec (.ringBegin number key) s =
      .next ((((s.attended .cabin).ringBegun number.toNat (Fin.ofNat 10 key.toNat)).setEvent .ringOpened).answer .cabin 6
        .accepted) := by
  rw [exec_ringBegin]
  refine run_request h ?_ ((quiet_setEvent _ _).trans hq)
  rw [requestRing_accepted ((ringChecks_firstFailing ..).trans (if_pos hr)),
    ringSteps_still (ready_iff.mp h).2 (ringReply_accepted_standstill hr) (quiet_iff.mp hq).1]

/-- Settles O21: the checks answer in the order of Table 2-5, and where none does the five steps are taken in a part at STANDSTILL. -/
theorem ringBeginOpensTheRecord : Obligations.RingBeginOpensTheRecord := fun _ _ _ hready =>
  ⟨exec_ringBegin_refused hready, exec_ringBegin_accepted hready⟩

end Sys2Proof.Machine
end

section
/-! What waits does not matter to an accrual: notices that stand before theirs stay before them. -/

namespace Sys2Proof.Machine

/-- The part with these notices waiting before its own. -/
def State.behind (s : State) (l : List Notice) : State := { s with notices := l ++ s.notices }

theorem behind_ite {c : Prop} [Decidable c] {a b a' b' : State} {l : List Notice} (ha : a' = a.behind l) (hb : b' = b.behind l) :
    (if c then a' else b') = (if c then a else b).behind l := by split <;> assumption

theorem behind_foldl {α : Type} {l : List Notice} {f g : State → α → State}
    (h : ∀ (t : State) (x : α), f (t.behind l) x = (g t x).behind l) (xs : List α) (s : State) :
    xs.foldl f (s.behind l) = (xs.foldl g s).behind l := by
  induction xs generalizing s with
  | nil => rfl
  | cons x xs ih => exact (congrArg (xs.foldl f) (h s x)).trans (ih (g s x))

section
variable (s : State) (l : List Notice)

/-! ## The blocks' single operations -/

theorem behind_send (n : Notice) : (s.behind l).send n = (s.send n).behind l := by
  simp [State.send, State.behind]

theorem behind_setEvent (e : Event) : (s.behind l).setEvent e = (s.setEvent e).behind l := rfl

theorem behind_modAdu (f : Advance → Advance) : (s.behind l).modAdu f = (s.modAdu f).behind l := rfl

theorem behind_modLine (p : LineIx) (f : Line → Line) : (s.behind l).modLine p f = (s.modLine p f).behind l := rfl

theorem behind_judgeGrout : (s.behind l).judgeGrout = s.judgeGrout.behind l := rfl

/-! ## The Fault Supervisor -/

theorem behind_announce (before : Faults) : (s.behind l).announce before = (s.announce before).behind l := by
  have hentering : (s.behind l).announceEntering before = (s.announceEntering before).behind l := by
    unfold State.announceEntering
    refine behind_foldl (fun t a => ?_) allActions s
    exact behind_ite (behind_send t l (.actionEnters a)) rfl
  have hleaving (t : State) : (t.behind l).announceLeaving before = (t.announceLeaving before).behind l := by
    unfold State.announceLeaving
    refine behind_foldl (fun u a => ?_) allActions t
    exact behind_ite (behind_send u l (.actionLeaves a)) rfl
  rw [State.announce, hentering, hleaving]
  rfl

theorem behind_offerFirst (key : FaultKey) : (s.behind l).offerFirst key = (s.offerFirst key).behind l := by
  have hfirst : (s.behind l).fsv.first = s.fsv.first := rfl
  unfold State.offerFirst
  rw [hfirst]
  cases s.fsv.first <;> rfl

theorem behind_setDomainEvent (key : FaultKey) : (s.behind l).setDomainEvent key = (s.setDomainEvent key).behind l := by
  unfold State.setDomainEvent
  cases key.domain <;> rfl

theorem behind_raiseUnder (key : FaultKey) (mode : Nat) : (s.behind l).raiseUnder key mode = (s.raiseUnder key mode).behind l := by
  have hoffered (t : State) :
      (((t.behind l).offerFirst key).setEvent .faultRaised).setDomainEvent key =
        (((t.offerFirst key).setEvent .faultRaised).setDomainEvent key).behind l := by
    rw [behind_offerFirst, behind_setEvent, behind_setDomainEvent]
  unfold State.raiseUnder
  exact behind_ite (hoffered { s.countRaise key with fsv := (s.countRaise key).raisedList key mode }) rfl

theorem behind_answerBlocked (key : FaultKey) : (s.behind l).answerBlocked key = (s.answerBlocked key).behind l := by
  unfold State.answerBlocked
  split
  · exact behind_ite (behind_send s l _) rfl
  · rfl

theorem behind_raise (key : FaultKey) : (s.behind l).raise key = (s.raise key).behind l := by
  have hunder : (s.behind l).raiseUnder key ((s.behind l).faultMode key) = (s.raiseUnder key (s.faultMode key)).behind l :=
    behind_raiseUnder s l key _
  rw [State.raise, hunder, behind_announce, behind_answerBlocked]
  rfl

theorem behind_clearCondition (key : FaultKey) : (s.behind l).clearCondition key = (s.clearCondition key).behind l := by
  have hmodFsv (f : Faults → Faults) : (s.behind l).modFsv f = (s.modFsv f).behind l := rfl
  have hentry (e : FaultEntry) : (s.behind l).clearedEntry e = s.clearedEntry e := rfl
  have hfsv : (s.behind l).fsv = s.fsv := rfl
  unfold State.clearCondition
  simp only [hmodFsv, hentry, hfsv, behind_announce]

theorem behind_report (key : FaultKey) : (s.behind l).report key = (s.report key).behind l :=
  behind_ite (c := s.condition key = true) (behind_raise s l key) (behind_clearCondition s l key)

theorem behind_judgeKeys (keys : List FaultKey) : (s.behind l).judgeKeys keys = (s.judgeKeys keys).behind l := by
  unfold State.judgeKeys
  refine behind_foldl (fun t key => ?_) keys s
  exact behind_ite (c := (t.condition key != t.fsv.marked key) = true) (behind_report t l key) rfl

/-! ## The Grout Unit -/

theorem behind_enterPhase (p : LineIx) (ph : Phase) : (s.behind l).enterPhase p ph = (s.enterPhase p ph).behind l := by
  have hentered (f : Line → Line) (keys : List FaultKey) :
      ((s.behind l).modLine p f).judgeKeys keys = ((s.modLine p f).judgeKeys keys).behind l := behind_judgeKeys (s.modLine p f) l keys
  exact hentered _ _

theorem behind_enterLimit (p : LineIx) : (s.behind l).enterLimit p = (s.enterLimit p).behind l := by
  rw [State.enterLimit, behind_enterPhase, behind_modLine]
  rfl

theorem behind_testLimit (p : LineIx) : (s.behind l).testLimit p = (s.testLimit p).behind l :=
  behind_ite (behind_enterLimit s l p) rfl

theorem behind_testResume (p : LineIx) : (s.behind l).testResume p = (s.testResume p).behind l :=
  behind_ite ((congrArg (State.testLimit · p) (behind_enterPhase s l p .flow)).trans (behind_testLimit _ l p)) rfl

theorem behind_enterSatisfied (p : LineIx) : (s.behind l).enterSatisfied p = (s.enterSatisfied p).behind l := by
  rw [State.enterSatisfied, behind_enterPhase, behind_setEvent, behind_testResume]
  rfl

theorem behind_testSatisfied (p : LineIx) : (s.behind l).testSatisfied p = (s.testSatisfied p).behind l :=
  behind_ite (behind_enterSatisfied s l p) rfl

theorem behind_enterFlow (p : LineIx) : (s.behind l).enterFlow p = (s.enterFlow p).behind l := by
  rw [State.enterFlow, behind_enterPhase, behind_testLimit, behind_testSatisfied]
  rfl

theorem behind_testPrimed (p : LineIx) : (s.behind l).testPrimed p = (s.testPrimed p).behind l :=
  behind_ite (behind_enterFlow s l p) rfl

theorem behind_startLine (p : LineIx) : (s.behind l).startLine p = (s.startLine p).behind l := by
  refine behind_ite (behind_enterPhase s l p _) (behind_ite (behind_enterPhase s l p _) ?_)
  rw [behind_modLine, behind_enterPhase, behind_testPrimed]

theorem behind_judgeSetpoint (p : LineIx) : (s.behind l).judgeSetpoint p = (s.judgeSetpoint p).behind l := behind_ite rfl rfl

theorem behind_takeDeficit (p : LineIx) : (s.behind l).takeDeficit p = (s.takeDeficit p).behind l := by
  have hnoted : (s.behind l).noteDeficit p = (s.noteDeficit p).behind l := rfl
  rw [State.takeDeficit, hnoted, behind_judgeSetpoint, behind_testSatisfied, behind_testResume]
  rfl

theorem behind_takeDeficits : (s.behind l).takeDeficits = s.takeDeficits.behind l := by
  rw [State.takeDeficits, behind_foldl (fun t p => behind_takeDeficit t l p), behind_judgeGrout]
  rfl

theorem behind_takeOpening (p : LineIx) : (s.behind l).takeOpening p = (s.takeOpening p).behind l :=
  behind_ite (behind_startLine s l p) rfl

theorem behind_idleLine (p : LineIx) : (s.behind l).idleLine p = (s.idleLine p).behind l :=
  behind_ite (behind_enterPhase s l p .idle) rfl

/-! ## The Accounting Unit -/

theorem behind_windowNotice (was now : Bool) (p : LineIx) : (s.behind l).windowNotice was now p = (s.windowNotice was now p).behind l := by
  unfold State.windowNotice
  split
  · rw [behind_takeOpening, behind_judgeGrout]
  · rw [behind_idleLine, behind_judgeGrout]
  · rfl

theorem behind_accrueSteps (new : Nat) : (s.behind l).accrueSteps new = (s.accrueSteps new).behind l := by
  have hmodAct (t : State) (f : Accounts → Accounts) : (t.behind l).modAct f = (t.modAct f).behind l := rfl
  have hdistributed (t : State) (v : Nat) : (t.behind l).distribute v = (t.distribute v).behind l := behind_ite rfl rfl
  have hjudged (t : State) : (t.behind l).judgeDeficits = t.judgeDeficits.behind l := behind_foldl (fun _ _ => rfl) allLines t
  have hcrossing (t : State) (p : LineIx) : (t.behind l).crossing t.act.aAcc new p = t.crossing t.act.aAcc new p := rfl
  have hact (t : State) : (t.behind l).act = t.act := rfl
  have hgap (t : State) : (t.behind l).gapFound = t.gapFound := rfl
  unfold State.accrueSteps
  simp only [hmodAct, hdistributed, hjudged, hcrossing, hact, hgap]

theorem behind_accrue (new : Nat) : (s.behind l).accrue new = (s.accrue new).behind l := by
  have hsteps : ((s.behind l).accrueSteps new).takeDeficits = (s.accrueSteps new).takeDeficits.behind l := by
    rw [behind_accrueSteps, behind_takeDeficits]
  have hnotices (before after t : State) :
      allLines.foldl (fun u p => u.windowNotice (before.account p).window (after.account p).window p) (t.behind l) =
        (allLines.foldl (fun u p => u.windowNotice (before.account p).window (after.account p).window p) t).behind l :=
    behind_foldl (fun u p => behind_windowNotice u l _ _ p) allLines t
  have hskips (x : LineIx → Bool) (t : State) :
      allLines.foldl (fun u p => if x p then u.setEvent .windowSkipped else u) (t.behind l) =
        (allLines.foldl (fun u p => if x p then u.setEvent .windowSkipped else u) t).behind l := by
    refine behind_foldl (fun u p => ?_) allLines t
    exact behind_ite rfl rfl
  have haccount (t : State) (p : LineIx) : (t.behind l).account p = t.account p := rfl
  have hact (t : State) : (t.behind l).act = t.act := rfl
  have hcrossing (t : State) (p : LineIx) : (t.behind l).crossing t.act.aAcc new p = t.crossing t.act.aAcc new p := rfl
  unfold State.accrue
  simp only [hact, hcrossing, haccount, hsteps, hnotices, hskips]
  exact behind_ite (behind_raise _ l .groutGap) rfl

theorem behind_flush : (s.behind l).flush = s.flush.behind l :=
  behind_ite (c := s.act.aAcc < s.adu.a) (behind_accrue s l s.adu.a) rfl

end

end Sys2Proof.Machine
end

section
/-! What an accrual leaves: the advance accrued, and outside BORING the rate level at 0. -/

namespace Sys2Proof.Machine

/-! ## The advance accrued -/

/-- After its steps an accrual is the GRU's work and a raise (R56). -/
theorem LineWork.accrue_of_steps (s : State) (new : Nat) : LineWork (s.accrueSteps new) (s.accrue new) := by
  unfold State.accrue
  extract_lets old t t1 t2
  have hdeficits : LineWork (s.accrueSteps new) t := takeDeficits _
  have hnotices : LineWork (s.accrueSteps new) t1 := hdeficits.trans (foldl (fun u p => windowNotice u _ _ p) _ _)
  have hskips : LineWork (s.accrueSteps new) t2 := hnotices.trans (foldl (fun u p => ite_along (setEvent u _) (refl u)) _ _)
  exact ite_along (hskips.trans (raise _ _)) hskips

theorem accrueSteps_aAcc (s : State) (new : Nat) : (s.accrueSteps new).act.aAcc = new := by
  have hjudged (t : State) : t.judgeDeficits.act.aAcc = t.act.aAcc := by rw [judgeDeficits_eq]; rfl
  unfold State.accrueSteps
  rw [hjudged]
  rfl

/-- An accrual up to an advance leaves it accrued (R56). -/
theorem accrue_aAcc (s : State) (new : Nat) : (s.accrue new).act.aAcc = new :=
  (congrArg (fun t : State => t.act.aAcc) (LineWork.accrue_of_steps s new).eq).trans (accrueSteps_aAcc s new)

/-- A flush leaves no advance to accrue (R54). -/
theorem flush_accrued (s : State) : s.flush.adu.a ≤ s.flush.act.aAcc := by
  have ha : s.flush.adu.a = s.adu.a := (congrArg (fun t : State => t.adu.a) (Downstream.flush s).eq :)
  rw [ha, State.flush]
  split
  · rw [accrue_aAcc]
  · next h => exact Nat.not_lt.mp h

/-- Where no more than the advance is accrued, a flush makes it the whole advance (R54). -/
theorem flush_aAcc {s : State} (h : s.act.aAcc ≤ s.adu.a) : s.flush.act.aAcc = s.adu.a := by
  rw [State.flush]
  split
  · rw [accrue_aAcc]
  · next hlt => exact Nat.le_antisymm h (Nat.not_lt.mp hlt)

/-! ## The rate level outside BORING -/

/-- The cycle is not BORING, and the rate level is 0 (R47). -/
def State.rateOff (s : State) : Prop := s.adu.cycle ≠ .boring ∧ s.adu.rateLevel = 0

/-- The rate level of a cycle outside BORING stays at 0. -/
structure StaysOff (s t : State) : Prop where
  kept : s.rateOff → t.rateOff

theorem SameLevels.staysOff {s t : State} (h : SameLevels s t) : StaysOff s t where
  kept hs := by
    obtain ⟨hcycle, hrate⟩ := hs
    exact ⟨(congrArg LevelPart.cycle h.eq).trans_ne hcycle, (congrArg LevelPart.rateLevel h.eq).trans hrate⟩

theorem rateOff_judgeGrout {s : State} (h : s.adu.cycle ≠ .boring) : s.judgeGrout.rateOff :=
  ⟨h, if_neg (by simp [h])⟩

namespace StaysOff

theorem refl (s : State) : StaysOff s s := ⟨id⟩

theorem trans {s t u : State} (h : StaysOff s t) (k : StaysOff t u) : StaysOff s u := ⟨fun hs => k.kept (h.kept hs)⟩

theorem foldl {α : Type} {f : State → α → State} (h : ∀ t a, StaysOff t (f t a)) (l : List α) (s : State) :
    StaysOff s (l.foldl f s) := foldl_along refl trans h l s

theorem judgeGrout {s t : State} (h : Downstream s t) : StaysOff s t.judgeGrout where
  kept hs := rateOff_judgeGrout ((congrArg (fun t : State => t.adu.cycle) h.eq :).trans_ne hs.1)

theorem windowNotice (s : State) (was now : Bool) (p : LineIx) : StaysOff s (s.windowNotice was now p) := by
  unfold State.windowNotice
  split
  · exact judgeGrout (LineWork.takeOpening s p).downstream
  · exact judgeGrout (LineWork.idleLine s p).downstream
  · exact refl s

theorem accrue (s : State) (new : Nat) : StaysOff s (s.accrue new) := by
  unfold State.accrue
  extract_lets old t t1 t2
  have hsteps : StaysOff s t :=
    judgeGrout ((Downstream.accrueSteps s new).trans (LineWork.foldl LineWork.takeDeficit _ _).downstream)
  have hnotices : StaysOff s t1 := hsteps.trans (foldl (fun u p => windowNotice u _ _ p) _ _)
  have hskips : StaysOff s t2 :=
    hnotices.trans (foldl (fun u p => ite_along (SameLevels.setEvent u _).staysOff (refl u)) _ _)
  exact ite_along (hskips.trans (SameLevels.raise _ _).staysOff) hskips

theorem flush (s : State) : StaysOff s s.flush := ite_along (accrue s _) (refl s)

end StaysOff

end Sys2Proof.Machine
end

section
/-! ADVANCE STOP: the entry into RUNDOWN, and the notices of the groups that leave PUSH. -/

namespace Sys2Proof.Machine

/-! ## The hold request -/

/-- Every group in PUSH enters HOLD with a new contact capture (R15). -/
def State.pushHeld (s : State) : State :=
  { s with groups := mapIx s.groups fun _ r => if r.state = GroupState.push then r.enterHold else r }

/-- The notices of the groups that leave PUSH (R25). -/
def State.haltNotices (s : State) : List Notice :=
  (allGroups.filter fun g => (s.group g).state == .push).map fun g => Notice.groupState g .hold none (s.group g).owner

/-- The hold request holds the groups in PUSH and sends their notices (R15, R25). -/
theorem jguHold_eq (s : State) : s.jguHold = { s.pushHeld with notices := s.notices ++ s.haltNotices } := by
  have hgroup (r : Group) : (if r.state == .push then r.enterHold else r) = if r.state = .push then r.enterHold else r := by
    simp only [beq_iff_eq]
  have hnotice (g : GroupIx) (r : Group) :
      (if r.state != (if r.state = .push then r.enterHold else r).state then
        some (Group.notice g r (if r.state = .push then r.enterHold else r)) else none) =
        if r.state == .push then some (Notice.groupState g .hold none r.owner) else none := by
    cases h : r.state <;> simp [h, Group.enterHold, Group.notice]
  have hnotices : changeNotices s (fun _ r => if r.state = .push then r.enterHold else r) = s.haltNotices := by
    unfold changeNotices State.haltNotices
    simp only [hnotice]
    exact filterMap_ite_some ..
  simp only [State.jguHold, hgroup]
  rw [changeGroups_eq, hnotices]
  rfl

theorem holdIfBoring_boring {s : State} (h : s.adu.cycle = .boring) :
    s.holdIfBoring = { s.pushHeld with notices := s.notices ++ s.haltNotices } := by
  rw [State.holdIfBoring, if_pos (by simp [h]), jguHold_eq]

theorem holdIfBoring_elsewhere {s : State} (h : s.adu.cycle ≠ .boring) : s.holdIfBoring = s := if_neg (by simp [h])

theorem haltNotices_length (s : State) : s.haltNotices.length ≤ 10 := by
  rw [State.haltNotices, List.length_map]
  exact (List.length_filter_le ..).trans (by decide)

/-- Where no group in PUSH has an owner, the groups' halt is no arrival. -/
theorem haltNotices_noArrivals {s : State} (h : ∀ g, (s.group g).state = .push → (s.group g).owner = none) :
    noArrivals s.haltNotices := by
  intro n hn
  obtain ⟨g, hg, rfl⟩ := List.mem_map.mp hn
  have hpush : (s.group g).state = .push := by simpa using (List.mem_filter.mp hg).2
  exact ⟨g, .hold, none, by rw [h g hpush]⟩

/-! ## The entry into RUNDOWN -/

/-- The part in RUNDOWN once the rest of the advance is accrued, with the STANDSTILL that follows at once where the cutterhead is
STOPPED (R40). -/
def State.runDown (s : State) : State :=
  if s.adu.cutter = .stopped then (s.flush.modAdu fun a => { a with cycle := .standstill }).setEvent .standstillReached else s.flush

theorem cycledTo_of_off {s : State} (c : Cycle) (hp : s.adu.permitKept = false) (hr : s.adu.rateLevel = 0) :
    s.cycledTo c = s.modAdu fun a => { a with cycle := c } := by
  simp [State.cycledTo, State.modAdu, hp, hr]

/-- Where no condition comes or goes with the entry into RUNDOWN, nor with the STANDSTILL after it, the entry is the accrual of the
rest and that STANDSTILL. -/
theorem enterRundown_still {s w : State}
    (hw : (s.holdIfBoring.modAdu fun a => { a with thrustPermit := false, cutterPermit := false, spinup := none }).cycledTo .rundown = w)
    (hu : w.unmarked = none) (hend : w.runDown.unmarked = none) : s.enterRundown = w.runDown := by
  have hentered :
      (s.holdIfBoring.modAdu fun a => { a with thrustPermit := false, cutterPermit := false, spinup := none }).enterCycle .rundown = w := by
    rw [enterCycle_still (by decide) (by rw [hw]; exact hu), hw]
  have hoff : w.flush.rateOff := (StaysOff.flush w).kept (by rw [← hw]; exact ⟨Cycle.noConfusion, rfl⟩)
  have hcutter : w.flush.adu.cutter = w.adu.cutter := (congrArg (fun t : State => t.adu.cutter) (Downstream.flush w).eq :)
  have hkept : w.flush.adu.permitKept = false :=
    (congrArg (fun t : State => t.adu.permitKept) (Downstream.flush w).eq :).trans (by rw [← hw]; rfl)
  unfold State.enterRundown
  dsimp only
  rw [hentered, hcutter]
  by_cases hc : w.adu.cutter = .stopped
  · have hmoved : (w.flush.setEvent .standstillReached).cycledTo .standstill = w.runDown := by
      rw [State.runDown, if_pos hc, ← cycledTo_of_off .standstill hkept hoff.2]
      rfl
    have hset (t : State) (ht : t.adu.a ≤ t.act.aAcc) :
        (t.setEvent .standstillReached).adu.a ≤ (t.setEvent .standstillReached).act.aAcc := ht
    have hstill : (w.flush.setEvent .standstillReached).enterStandstill = w.runDown :=
      (enterStandstill_still (by rw [hmoved]; exact hend) (hset _ (flush_accrued w))).trans hmoved
    rw [if_pos (by simp [hc]), hstill]
  · rw [if_neg (by simpa using hc), State.runDown, if_neg hc]

theorem behind_runDown (s : State) (l : List Notice) : (s.behind l).runDown = s.runDown.behind l :=
  behind_ite (c := s.adu.cutter = .stopped)
    (by rw [behind_flush, behind_modAdu, behind_setEvent]) (behind_flush s l)

theorem runDown_rbu (s : State) : s.runDown.rbu = s.rbu := by
  have hflush : s.flush.rbu = s.rbu := (congrArg State.rbu (Downstream.flush s).eq :)
  unfold State.runDown
  split <;> exact hflush

/-! ## The request -/

/-- The part that an accepted stop request leaves in RUNDOWN, beside its groups (R41, R40). -/
def State.stopRequested (s : State) : State :=
  s.modAdu fun a =>
    { a with
      thrustPermit := false, cutterPermit := false, spinup := none, lastStop := .stopRequest, cycle := .rundown
      permitKept := false, rateLevel := 0 }

theorem exec_advanceStop (s : State) : exec .advanceStop s = s.run fun t => t.request .cabin 4 State.requestStop := rfl

theorem requestStop_cutting {s : State} (h : s.adu.cycle = .spinup ∨ s.adu.cycle = .boring ∨ s.adu.cycle = .paused) :
    s.requestStop = ((s.setCause .stopRequest).enterRundown, .accepted) := by
  rcases h with h | h | h <;> simp [State.requestStop, h]

/-- From SPINUP and PAUSED the stop request moves no group. -/
theorem requestStop_elsewhere {s : State} (hcut : s.adu.cycle = .spinup ∨ s.adu.cycle = .paused)
    (hu : s.stopRequested.unmarked = none) (hend : s.stopRequested.runDown.unmarked = none) :
    s.requestStop = (s.stopRequested.runDown, .accepted) := by
  have hboring : (s.setCause .stopRequest).adu.cycle ≠ .boring := by rcases hcut with h | h <;> simp [State.setCause, h]
  have hcutting : s.adu.cycle = .spinup ∨ s.adu.cycle = .boring ∨ s.adu.cycle = .paused := hcut.imp_right .inr
  rw [requestStop_cutting hcutting, enterRundown_still (w := s.stopRequested) (by rw [holdIfBoring_elsewhere hboring]; rfl) hu hend]

/-- From BORING the stop request holds the groups in PUSH, whose notices wait (R15, R25). -/
theorem requestStop_boring {s : State} (hcut : s.adu.cycle = .boring) (hn : s.notices = []) (hu : s.stopRequested.unmarked = none)
    (hend : (s.stopRequested.pushHeld.waiting s.haltNotices).runDown.unmarked = none) :
    s.requestStop = ((s.stopRequested.pushHeld.waiting s.haltNotices).runDown, .accepted) := by
  have hheld : (s.setCause .stopRequest).holdIfBoring =
      { (s.setCause .stopRequest).pushHeld with notices := s.haltNotices } := by
    rw [holdIfBoring_boring (s := s.setCause .stopRequest) hcut]
    have hnone : (s.setCause .stopRequest).notices = [] := hn
    rw [hnone]
    rfl
  have hunmarked : (s.stopRequested.pushHeld.waiting s.haltNotices).unmarked = none := (unmarked_of_watched rfl).trans hu
  rw [requestStop_cutting (.inr (.inl hcut)), enterRundown_still (by rw [hheld]; rfl) hunmarked hend]

/-- A request whose owner's effect is known is answered, and what waits is followed. -/
theorem run_request_settled {s t : State} {st : Station} {code : Nat} {owner : State → State × Reply} {r : Reply}
    (h : s.ready st = true) (ho : owner (s.attended st) = (t, r)) :
    s.run (fun u => u.request st code owner) = .next (t.answer st code r).settled := by
  obtain ⟨hr, hq⟩ := ready_iff.mp h
  have ha : ((s.endFrame st).renewPresence st).settled = s.attended st := settled_of_quiet hq
  rw [run_awake hr]
  unfold State.request
  rw [ha, ho]
  rfl

/-- Notices of no arrival come to nothing after the answer, where the claim queue is empty. -/
theorem settled_behind_answer {s : State} {l : List Notice} (st : Station) (code : Nat) (r : Reply) (hs : s.quiet = true)
    (hq : s.rbu.queue = []) (hlen : l.length ≤ 10) (hl : noArrivals l) :
    ((s.behind l).answer st code r).settled = s.answer st code r := by
  obtain ⟨hu, hn⟩ := quiet_iff.mp hs
  have hwaits : ((s.behind l).answer st code r).notices = l := (congrArg (l ++ ·) hn).trans (List.append_nil l)
  have hunmarked : ((s.behind l).answer st code r).unmarked = none :=
    (unmarked_of_watched ((watched_answer (s.behind l) st code r).trans rfl)).trans hu
  have hsettled := settle_noArrivals settleBound _ hunmarked hq (by rw [hwaits]; exact hlen.trans (by decide)) (by rw [hwaits]; exact hl)
  exact hsettled.trans (waiting_nil (s := s.answer st code r) hn)

/-! ## In a part at rest -/

section
variable {s : State}

theorem exec_advanceStop_elsewhere (h : s.ready .cabin = true)
    (hcut : (s.attended .cabin).adu.cycle = .spinup ∨ (s.attended .cabin).adu.cycle = .paused)
    (hu : (s.attended .cabin).stopRequested.unmarked = none)
    (hend : (s.attended .cabin).stopRequested.runDown.unmarked = none) :
    exec .advanceStop s = .next ((s.attended .cabin).stopRequested.runDown.answer .cabin 4 .accepted).settled :=
  run_request_settled h (requestStop_elsewhere hcut hu hend)

theorem exec_advanceStop_boring (h : s.ready .cabin = true) (hcut : (s.attended .cabin).adu.cycle = .boring)
    (hu : (s.attended .cabin).stopRequested.unmarked = none)
    (hend : ((s.attended .cabin).stopRequested.pushHeld.waiting (s.attended .cabin).haltNotices).runDown.unmarked = none) :
    exec .advanceStop s =
      .next (((s.attended .cabin).stopRequested.pushHeld.waiting (s.attended .cabin).haltNotices).runDown.answer .cabin 4
        .accepted).settled :=
  run_request_settled h (requestStop_boring hcut (quiet_iff.mp (ready_iff.mp h).2).2 hu hend)

/-- With an empty claim queue and no owner on a group in PUSH the halt sets nothing else going. -/
theorem exec_advanceStop_boring_quiet (h : s.ready .cabin = true) (hcut : (s.attended .cabin).adu.cycle = .boring)
    (hu : (s.attended .cabin).stopRequested.unmarked = none) (hqueue : (s.attended .cabin).rbu.queue = [])
    (howner : ∀ g, ((s.attended .cabin).group g).state = .push → ((s.attended .cabin).group g).owner = none)
    (hq : (s.attended .cabin).stopRequested.pushHeld.runDown.quiet = true) :
    exec .advanceStop s = .next ((s.attended .cabin).stopRequested.pushHeld.runDown.answer .cabin 4 .accepted) := by
  have hn : (s.attended .cabin).notices = [] := (quiet_iff.mp (ready_iff.mp h).2).2
  have hwaiting : (s.attended .cabin).stopRequested.pushHeld.waiting (s.attended .cabin).haltNotices =
      (s.attended .cabin).stopRequested.pushHeld.behind (s.attended .cabin).haltNotices :=
    congrArg (State.waiting _) ((congrArg ((s.attended .cabin).haltNotices ++ ·) hn).trans (List.append_nil _)).symm
  have hbehind := behind_runDown (s.attended .cabin).stopRequested.pushHeld (s.attended .cabin).haltNotices
  have hunmarked := (unmarked_of_watched (s := State.behind _ (s.attended .cabin).haltNotices) rfl).trans (quiet_iff.mp hq).1
  rw [exec_advanceStop_boring h hcut hu (by rw [hwaiting, hbehind]; exact hunmarked), hwaiting, hbehind]
  exact congrArg _ (settled_behind_answer .cabin 4 .accepted hq ((congrArg RingBuild.queue (runDown_rbu _)).trans hqueue)
    (haltNotices_length _) (haltNotices_noArrivals howner))

end

/-- With the cutterhead not STOPPED and no advance left to accrue, the entry into RUNDOWN is the last move. -/
theorem runDown_of_accrued {s : State} (hc : s.adu.cutter ≠ .stopped) (ha : s.adu.a ≤ s.act.aAcc) : s.runDown = s :=
  (if_neg hc).trans (flush_of_accrued ha)

/-- Settles O20: the entry into RUNDOWN is one move of the cycle with the accrual of the rest, and the halted groups' notices stay
before what that accrual sends. -/
theorem advanceStopRunsDown : Obligations.AdvanceStopRunsDown := by
  refine ⟨fun s hready => ⟨fun hc => ?_, fun hc => ?_, fun hc => ?_, fun hcutter ha hq => ⟨fun hc => ?_, fun hc hqueue howner => ?_⟩⟩,
    fun s hready hstopped hcut => ⟨fun hu => ?_, fun hrest hq => ?_⟩⟩
  · exact run_refused hready (by simp [State.requestStop, hc])
  · exact run_refused hready (by simp [State.requestStop, hc])
  · exact run_refused hready (by simp [State.requestStop, hc])
  · have hstill : (s.attended .cabin).stopRequested.runDown = (s.attended .cabin).stopRequested := runDown_of_accrued hcutter ha
    have hu := (quiet_iff.mp hq).1
    rw [exec_advanceStop_elsewhere hready hc hu (by rw [hstill]; exact hu), hstill]
    exact congrArg _ (settled_of_quiet ((quiet_answer ..).trans hq))
  · have hstill : (s.attended .cabin).stopRequested.pushHeld.runDown = (s.attended .cabin).stopRequested.pushHeld :=
      runDown_of_accrued hcutter ha
    have hheld : (s.attended .cabin).stopRequested.pushHeld.quiet = true := (quiet_of_watched rfl rfl).trans hq
    have hexec := exec_advanceStop_boring_quiet hready hc (quiet_iff.mp hq).1 hqueue howner (by rw [hstill]; exact hheld)
    rw [hstill] at hexec
    exact hexec
  · by_cases hc : (s.attended .cabin).adu.cycle = .boring
    · simp only [if_pos hc] at hu ⊢
      exact exec_advanceStop_boring hready hc (quiet_iff.mp hstopped).1 hu
    · have helse : (s.attended .cabin).adu.cycle = .spinup ∨ (s.attended .cabin).adu.cycle = .paused := by tauto
      simp only [if_neg hc] at hu ⊢
      exact exec_advanceStop_elsewhere hready helse (quiet_iff.mp hstopped).1 hu
  · by_cases hc : (s.attended .cabin).adu.cycle = .boring
    · obtain ⟨hqueue, howner⟩ := hrest hc
      simp only [if_pos hc] at hq ⊢
      exact exec_advanceStop_boring_quiet hready hc (quiet_iff.mp hstopped).1 hqueue howner hq
    · have helse : (s.attended .cabin).adu.cycle = .spinup ∨ (s.attended .cabin).adu.cycle = .paused := by tauto
      simp only [if_neg hc] at hq ⊢
      rw [exec_advanceStop]
      exact run_request hready (requestStop_elsewhere helse (quiet_iff.mp hstopped).1 (quiet_iff.mp hq).1) hq

end Sys2Proof.Machine
end

section
/-! The ring advance as the mean extension, and the end of a stroke by the ring target or a stroke-end report. -/

namespace Sys2Proof.Machine

/-! ## What a move of the cycle leaves alone -/

/-- `t` is `s` after moves of the cycle: beside what is downstream, the cycle, whether a permit is kept, and the rate level have
changed. -/
structure Moved (s t : State) : Prop where
  eq : t = { s with
    act := t.act, gru := t.gru, mku := t.mku, fsv := t.fsv, ports := t.ports, notices := t.notices
    adu := { s.adu with cycle := t.adu.cycle, permitKept := t.adu.permitKept, rateLevel := t.adu.rateLevel } }
  events : ∀ e, s.eventSet e = true → t.eventSet e = true

theorem Downstream.moved {s t : State} (h : Downstream s t) : Moved s t := ⟨by rw [h.eq], h.events⟩

namespace Moved

theorem trans {s t u : State} (h : Moved s t) (k : Moved t u) : Moved s u :=
  ⟨by rw [k.eq, h.eq], fun e he => k.events e (h.events e he)⟩

theorem enterCycle (s : State) (c : Cycle) : Moved s (s.enterCycle c) := by
  have hmove : Moved s (s.modAdu fun a => { a with cycle := c, permitKept := false }) := ⟨rfl, fun _ h => h⟩
  exact hmove.trans ((Downstream.judgeRate _).trans (Downstream.judgeKeys _ _)).moved

theorem enterStandstill (s : State) : Moved s s.enterStandstill := (enterCycle s _).trans (Downstream.flush _).moved

section
variable {s t : State} (h : Moved s t)
include h

theorem groups_eq : t.groups = s.groups := (congrArg State.groups h.eq :)

theorem a_eq : t.adu.a = s.adu.a := (congrArg (fun u : State => u.adu.a) h.eq :)

theorem lastStop_eq : t.adu.lastStop = s.adu.lastStop := (congrArg (fun u : State => u.adu.lastStop) h.eq :)

end

end Moved

theorem enterCycle_act (s : State) (c : Cycle) : (s.enterCycle c).act = s.act :=
  (congrArg State.act
    (FaultWork.judgeKeys ((s.modAdu fun a => { a with cycle := c, permitKept := false }).judgeRate) cycleKeys).eq :)

/-- The flush after a move of the cycle accrues the whole advance. -/
theorem enterCycle_flush_aAcc {s : State} (c : Cycle) (h : s.act.aAcc ≤ s.adu.a) : (s.enterCycle c).flush.act.aAcc = s.adu.a := by
  have ha : (s.enterCycle c).adu.a = s.adu.a := (Moved.enterCycle s c).a_eq
  rw [flush_aAcc (by rw [enterCycle_act, ha]; exact h), ha]

/-! ## The entry into RUNDOWN -/

/-- RUNDOWN entered from BORING or another state, before the flush (R40). -/
def State.rundownEntered (s : State) : State :=
  (s.holdIfBoring.modAdu fun a => { a with thrustPermit := false, cutterPermit := false, spinup := none }).enterCycle .rundown

section
variable (s : State)

theorem rundownEntered_flush_cutter : s.rundownEntered.flush.adu.cutter = s.adu.cutter :=
  (cutter_enterCycle_flush _ _).trans (show s.holdIfBoring.adu.cutter = s.adu.cutter by rw [adu_holdIfBoring])

theorem enterRundown_stopped {s : State} (h : s.adu.cutter = .stopped) :
    s.enterRundown = (s.rundownEntered.flush.setEvent .standstillReached).enterStandstill :=
  if_pos (by rw [beq_iff_eq]; exact (rundownEntered_flush_cutter s).trans h)

theorem enterRundown_running {s : State} (h : s.adu.cutter ≠ .stopped) : s.enterRundown = s.rundownEntered.flush :=
  if_neg (by rw [beq_iff_eq]; exact fun hc => h ((rundownEntered_flush_cutter s).symm.trans hc))

/-- The entry into RUNDOWN moves the cycle of the part whose groups are held and whose permits are removed. -/
theorem Moved.enterRundown :
    Moved (s.holdIfBoring.modAdu fun a => { a with thrustPermit := false, cutterPermit := false, spinup := none }) s.enterRundown := by
  have hentered := (Moved.enterCycle (s.holdIfBoring.modAdu fun a =>
    { a with thrustPermit := false, cutterPermit := false, spinup := none }) .rundown).trans (Downstream.flush _).moved
  by_cases hc : s.adu.cutter = .stopped
  · rw [enterRundown_stopped hc]
    exact hentered.trans ((Downstream.setEvent _ _).moved.trans (Moved.enterStandstill _))
  · rw [enterRundown_running hc]
    exact hentered

theorem enterRundown_a : s.enterRundown.adu.a = s.adu.a := by
  have hheld : s.holdIfBoring.adu.a = s.adu.a := congrArg Advance.a (adu_holdIfBoring s)
  exact (Moved.enterRundown s).a_eq.trans hheld

theorem enterRundown_lastStop : s.enterRundown.adu.lastStop = s.adu.lastStop := by
  have hheld : s.holdIfBoring.adu.lastStop = s.adu.lastStop := congrArg Advance.lastStop (adu_holdIfBoring s)
  exact (Moved.enterRundown s).lastStop_eq.trans hheld

/-- What the entry into RUNDOWN makes of the cycle, the permits and the spin-up time (R40). -/
theorem enterRundown_advance :
    s.enterRundown.adu.cycle = (if s.adu.cutter = .stopped then .standstill else .rundown) ∧
    s.enterRundown.adu.thrustPermit = false ∧ s.enterRundown.adu.cutterPermit = false ∧ s.enterRundown.adu.spinup = none := by
  have hread (t : State) (c : CyclePart) (ht : t.cyclePart = c) :
      t.adu.cycle = c.cycle ∧ t.adu.thrustPermit = c.thrustPermit ∧ t.adu.cutterPermit = c.cutterPermit ∧
        t.adu.spinup.isSome = c.spinning := by subst ht; exact ⟨rfl, rfl, rfl, rfl⟩
  obtain ⟨hcycle, hthrust, hcutter, hspinning⟩ := hread _ _ (cyclePart_enterRundown s)
  exact ⟨hcycle, hthrust, hcutter, Option.not_isSome_iff_eq_none.mp (by rw [hspinning]; exact Bool.false_ne_true)⟩

theorem enterRundown_groups : s.enterRundown.groups = s.holdIfBoring.groups := (Moved.enterRundown s).groups_eq

theorem ports_holdIfBoring : s.holdIfBoring.ports = s.ports := by
  unfold State.holdIfBoring State.jguHold
  rw [changeGroups_eq]
  split <;> rfl

theorem enterRundown_events {e : Event} (h : s.eventSet e = true) : s.enterRundown.eventSet e = true := by
  refine (Moved.enterRundown s).events e ?_
  unfold State.eventSet State.port State.modAdu at *
  rw [ports_holdIfBoring]
  exact h

end

theorem enterRundown_standstillReached {s : State} (h : s.adu.cutter = .stopped) :
    s.enterRundown.eventSet .standstillReached = true := by
  rw [enterRundown_stopped h]
  exact (Moved.enterStandstill _).events _ (setEvent_eventSet _ _ _ (.inl rfl))

/-- The entry into RUNDOWN accrues the whole advance (R40, R54). -/
theorem enterRundown_aAcc {s : State} (h : s.act.aAcc ≤ s.adu.a) : s.enterRundown.act.aAcc = s.adu.a := by
  have hact : s.holdIfBoring.act = s.act := by
    unfold State.holdIfBoring State.jguHold
    rw [changeGroups_eq]
    split <;> rfl
  have hadu : s.holdIfBoring.adu.a = s.adu.a := congrArg Advance.a (adu_holdIfBoring s)
  have hflushed : s.rundownEntered.flush.act.aAcc = s.adu.a :=
    (enterCycle_flush_aAcc .rundown (by rw [modAdu_act, hact]; exact h.trans hadu.ge)).trans hadu
  by_cases hc : s.adu.cutter = .stopped
  · have ha : s.rundownEntered.flush.adu.a = s.adu.a :=
      (((Moved.enterCycle _ .rundown).trans (Downstream.flush _).moved).a_eq).trans hadu
    have hstill (t : State) (ht : t.act.aAcc = t.adu.a) : (t.setEvent .standstillReached).enterStandstill.act.aAcc = t.adu.a :=
      enterCycle_flush_aAcc (s := t.setEvent .standstillReached) .standstill ht.le
    rw [enterRundown_stopped hc, hstill _ (hflushed.trans ha.symm), ha]
  · rw [enterRundown_running hc]
    exact hflushed

/-- From BORING every group in PUSH is held (R15). -/
theorem enterRundown_held {s : State} (hb : s.adu.cycle = .boring) {g : GroupIx} (hg : (s.group g).state = .push) :
    (s.enterRundown.group g).state = .hold := by
  have hheld : s.enterRundown.group g = (s.group g).enterHold := by
    unfold State.group
    rw [enterRundown_groups, holdIfBoring_boring hb]
    exact (mapIx_getElem _ _ _).trans (if_pos hg)
  rw [hheld]
  rfl

/-! ## The end of a stroke -/

/-- `t` is `s` once a stroke has ended for this cause, with this event and this advance (R38, R39, R40). -/
def EndsStroke (s t : State) (c : StopCause) (e : Event) (a : Nat) : Prop :=
  t.adu.lastStop = c ∧ t.eventSet e = true ∧ t.adu.thrustPermit = false ∧ t.adu.cutterPermit = false ∧
  t.adu.spinup = none ∧ t.adu.cycle = (if s.adu.cutter = .stopped then .standstill else .rundown) ∧
  (s.adu.cutter = .stopped → t.eventSet .standstillReached = true) ∧ (s.act.aAcc ≤ a → t.act.aAcc = a) ∧
  (s.adu.cycle = .boring → ∀ g, (s.group g).state = .push → (t.group g).state = .hold)

/-- The entry into RUNDOWN after a cause and its event ends the stroke of a part that work downstream has brought to `w`. -/
theorem endsStroke_enterRundown {s w : State} (h : Downstream s w) (hacc : s.act.aAcc ≤ s.adu.a → w.act.aAcc ≤ s.adu.a)
    (c : StopCause) (e : Event) : EndsStroke s ((w.setEvent e).setCause c).enterRundown c e s.adu.a := by
  have hcutter : w.adu.cutter = s.adu.cutter := (congrArg (fun t : State => t.adu.cutter) h.eq :)
  have hcycle : w.adu.cycle = s.adu.cycle := (congrArg (fun t : State => t.adu.cycle) h.eq :)
  have ha : w.adu.a = s.adu.a := (congrArg (fun t : State => t.adu.a) h.eq :)
  have hgroups : w.groups = s.groups := (congrArg State.groups h.eq :)
  have hstopped : ((w.setEvent e).setCause c).adu.cutter = s.adu.cutter := hcutter
  have hboring (hb : s.adu.cycle = .boring) : ((w.setEvent e).setCause c).adu.cycle = .boring := hcycle.trans hb
  have hpush (g : GroupIx) : ((w.setEvent e).setCause c).group g = s.group g := congrArg (fun v : Vector Group 10 => v[g]) hgroups
  have haccrued (u : State) (hu : u.act.aAcc ≤ u.adu.a) : ((u.setEvent e).setCause c).enterRundown.act.aAcc = u.adu.a :=
    enterRundown_aAcc (s := (u.setEvent e).setCause c) hu
  have hevent (u : State) (hu : u.eventSet e = true) : (u.setCause c).eventSet e = true := hu
  obtain ⟨hentered, hthrust, hpermit, hspinup⟩ := enterRundown_advance ((w.setEvent e).setCause c)
  refine ⟨enterRundown_lastStop _, enterRundown_events _ (hevent _ (setEvent_eventSet w e e (.inl rfl))),
    hthrust, hpermit, hspinup, ?_, fun hc => ?_, fun hle => ?_, fun hb g hg => ?_⟩
  · rw [hentered, hstopped]
  · exact enterRundown_standstillReached (hstopped.trans hc)
  · exact (haccrued w ((hacc hle).trans ha.ge)).trans ha
  · exact enterRundown_held (hboring hb) (by rw [hpush, hg])

end Sys2Proof.Machine
end

section
/-! The reports that move the ring advance and end a stroke (R7, R37, R38). -/

namespace Sys2Proof.Machine

/-! ## The mean extension -/

theorem toList_eq_map_allGroups (gs : Vector Group 10) : gs.toList = allGroups.map fun g => gs[g] := by
  have hfin : allGroups = List.finRange 10 := by decide
  refine List.ext_getElem (by simp [hfin]) fun i h k => ?_
  simp [hfin]

/-- The mean extension is the floor of the mean of stroke less capture over the ten groups, between 0 and 32,767 (R37). -/
theorem meanAdvance_eq (s : State) :
    min 32767 (max (allGroups.map fun g => ((s.group g).stroke : Int) - (s.group g).capture).sum 0 / 10).toNat =
      meanAdvance s.groups := by
  have hfloor (total : Int) : (max total 0 / 10).toNat = total.toNat / 10 := by omega
  rw [hfloor, meanAdvance, toList_eq_map_allGroups, List.map_map]
  rfl

/-! ## The report of a stroke change -/

/-- The part with this ring advance. -/
def State.advancedTo (s : State) (a : Nat) : State := s.modAdu fun r => { r with a := a }

/-- The part with the mean extension as its ring advance, a change reported to the ACT in BORING (R37, R53). -/
def State.strokesTaken (s : State) : State :=
  if s.adu.cycle = .boring ∧ meanAdvance s.groups ≠ s.adu.a then (s.advancedTo (meanAdvance s.groups)).takeChange
  else s.advancedTo (meanAdvance s.groups)

section
variable {s : State}

theorem take_strokeChange_cutting (h : s.adu.cycle = .boring ∨ s.adu.cycle = .paused) :
    s.take .strokeChange = s.strokesTaken.testTarget := by
  rcases h with h | h <;> simp [State.take, State.takeStrokeChange, State.strokesTaken, State.advancedTo, h]

theorem strokesTaken_paused (h : s.adu.cycle = .paused) : s.strokesTaken = s.advancedTo (meanAdvance s.groups) :=
  if_neg (by simp [h])

theorem strokesTaken_unchanged (h : meanAdvance s.groups = s.adu.a) : s.strokesTaken = s.advancedTo (meanAdvance s.groups) :=
  if_neg fun hc => hc.2 h

/-- With less than QUANTUM to accrue the change is not accrued (R53). -/
theorem strokesTaken_below (h : meanAdvance s.groups < s.act.aAcc + s.item .quantum) :
    s.strokesTaken = s.advancedTo (meanAdvance s.groups) := by
  have hchange : (s.advancedTo (meanAdvance s.groups)).takeChange = s.advancedTo (meanAdvance s.groups) := if_neg (Nat.not_le.mpr h)
  rw [State.strokesTaken, hchange, ite_self]

/-- With QUANTUM or more to accrue the advance is accrued (R53). -/
theorem strokesTaken_accrued (hb : s.adu.cycle = .boring) (hne : meanAdvance s.groups ≠ s.adu.a)
    (h : s.act.aAcc + s.item .quantum ≤ meanAdvance s.groups) :
    s.strokesTaken = (s.advancedTo (meanAdvance s.groups)).accrue (meanAdvance s.groups) :=
  (if_pos ⟨hb, hne⟩).trans (if_pos h)

theorem strokesTaken_downstream (s : State) : Downstream (s.advancedTo (meanAdvance s.groups)) s.strokesTaken :=
  ite_along (Downstream.takeChange _) (Downstream.refl _)

theorem strokesTaken_a (s : State) : s.strokesTaken.adu.a = meanAdvance s.groups :=
  (congrArg (fun t : State => t.adu.a) (strokesTaken_downstream s).eq :)

theorem strokesTaken_target (s : State) : s.strokesTaken.item .ringTarget = s.item .ringTarget :=
  (congrArg (fun t : State => t.item .ringTarget) (strokesTaken_downstream s).eq :)

theorem strokesTaken_cycle (s : State) : s.strokesTaken.adu.cycle = s.adu.cycle :=
  (congrArg (fun t : State => t.adu.cycle) (strokesTaken_downstream s).eq :)

/-- No more than the advance is accrued by a change report. -/
theorem strokesTaken_aAcc (h : s.act.aAcc ≤ meanAdvance s.groups) : s.strokesTaken.act.aAcc ≤ meanAdvance s.groups := by
  have hchange (t : State) (ht : t.act.aAcc ≤ t.adu.a) : t.takeChange.act.aAcc ≤ t.adu.a := by
    unfold State.takeChange
    split
    · rw [accrue_aAcc]
    · exact ht
  unfold State.strokesTaken
  split
  · exact hchange _ h
  · exact h

theorem testTarget_below (h : s.adu.a < s.item .ringTarget) : s.testTarget = s := if_neg (by simp [h])

theorem testTarget_reached (hc : s.adu.cycle = .boring ∨ s.adu.cycle = .paused) (h : s.item .ringTarget ≤ s.adu.a) :
    s.testTarget = ((s.setEvent .ringStroke).setCause .ringStroke).enterRundown := if_pos (by simp [hc, h])

/-- Below RING_TARGET the report only makes the advance the mean, and accrues it (R37, R53). -/
theorem take_strokeChange_below (hc : s.adu.cycle = .boring ∨ s.adu.cycle = .paused)
    (h : meanAdvance s.groups < s.item .ringTarget) : s.take .strokeChange = s.strokesTaken := by
  rw [take_strokeChange_cutting hc]
  exact testTarget_below (by rw [strokesTaken_a, strokesTaken_target]; exact h)

/-- At RING_TARGET the report ends the stroke (R38, R39). -/
theorem take_strokeChange_reached (hc : s.adu.cycle = .boring ∨ s.adu.cycle = .paused)
    (h : s.item .ringTarget ≤ meanAdvance s.groups) :
    s.take .strokeChange = ((s.strokesTaken.setEvent .ringStroke).setCause .ringStroke).enterRundown := by
  rw [take_strokeChange_cutting hc]
  exact testTarget_reached (by rw [strokesTaken_cycle]; exact hc) (by rw [strokesTaken_a, strokesTaken_target]; exact h)

theorem take_strokeChange_a (hc : s.adu.cycle = .boring ∨ s.adu.cycle = .paused) :
    (s.take .strokeChange).adu.a = meanAdvance s.groups := by
  rcases Nat.lt_or_ge (meanAdvance s.groups) (s.item .ringTarget) with h | h
  · rw [take_strokeChange_below hc h, strokesTaken_a]
  · have hset (t : State) : ((t.setEvent .ringStroke).setCause .ringStroke).adu.a = t.adu.a := rfl
    rw [take_strokeChange_reached hc h, enterRundown_a, hset, strokesTaken_a]

theorem take_strokeChange_ends (hc : s.adu.cycle = .boring ∨ s.adu.cycle = .paused) (h : s.item .ringTarget ≤ meanAdvance s.groups) :
    EndsStroke s (s.take .strokeChange) .ringStroke .ringStroke (meanAdvance s.groups) := by
  have hends : EndsStroke (s.advancedTo (meanAdvance s.groups)) ((s.strokesTaken.setEvent .ringStroke).setCause .ringStroke).enterRundown
      .ringStroke .ringStroke (meanAdvance s.groups) :=
    endsStroke_enterRundown (strokesTaken_downstream s) (strokesTaken_aAcc (s := s)) .ringStroke .ringStroke
  rw [take_strokeChange_reached hc h]
  exact hends

/-! ## The stroke-end report -/

theorem take_strokeEnd_boring (h : s.adu.cycle = .boring) (g : GroupIx) :
    s.take (.strokeEnd g) = ((s.setEvent .strokeEnd).setCause .strokeEnd).enterRundown := if_pos (by simp [h])

theorem take_strokeEnd_elsewhere (h : s.adu.cycle ≠ .boring) (g : GroupIx) : s.take (.strokeEnd g) = s := if_neg (by simp [h])

/-! ## A pulse of a HOLD group -/

/-- A pulse of a HOLD group within its slack is counted and reported (R6, R7). -/
theorem exec_strokePulse_held {g : GroupIx} (hc : s.calm = true) (hg : (s.group g).state = .hold) (hs : (s.group g).stroke < 32767)
    (hslack : (s.group g).contact = false ∨ (s.group g).stroke + 1 ≤ (s.group g).contactCapture + s.item .contactSlack) :
    exec (.strokePulse g true) s =
      .next ((s.modGroup g fun r => { r with stroke := r.stroke + 1 }).send .strokeChange).settled := by
  have hcounted : s.counting g ((s.group g).stroke + 1) = s.modGroup g fun r => { r with stroke := r.stroke + 1 } := modGroup_congr rfl
  have hwithin : (s.counting g ((s.group g).stroke + 1)).comparePulse g = s.counting g ((s.group g).stroke + 1) :=
    comparePulse_hold_within (by rw [counting_group]; exact hg) (by rw [counting_group]; exact hslack.symm)
  rw [exec_strokePulse_true hc hs, hwithin, hcounted]

end

/-- Settles O14: in BORING and PAUSED the report of a stroke change makes the advance the mean and tests the target, and each end of
the stroke is the entry into RUNDOWN. -/
theorem ringAdvanceIsTheMeanExtension : Obligations.RingAdvanceIsTheMeanExtension := by
  intro s total mean moved ended
  have hmean : mean = meanAdvance s.groups := meanAdvance_eq s
  have hmoved : moved = s.advancedTo (meanAdvance s.groups) := congrArg s.advancedTo hmean
  rw [hmean]
  refine ⟨take_strokeChange, fun hp hlt => ?_, fun hb hlt hq => ?_, take_strokeChange_a, fun hb hlt => ⟨fun ha => ?_, fun hne hq => ?_⟩,
    take_strokeChange_ends, fun g => ⟨fun hb => ?_, fun hb => take_strokeEnd_elsewhere hb g⟩, fun g hc hg hs hslack => ?_⟩
  · exact (take_strokeChange_below (.inr hp) hlt).trans (strokesTaken_paused hp)
  · exact (take_strokeChange_below (.inl hb) hlt).trans (strokesTaken_below hq)
  · rw [hmoved]
    exact (take_strokeChange_below (.inl hb) hlt).trans (strokesTaken_unchanged ha)
  · rw [hmoved]
    exact (take_strokeChange_below (.inl hb) hlt).trans (strokesTaken_accrued hb hne hq)
  · rw [take_strokeEnd_boring hb]
    exact endsStroke_enterRundown (.refl s) id .strokeEnd .strokeEnd
  · exact exec_strokePulse_held hc hg hs hslack

end Sys2Proof.Machine
end

section
/-! An accrual's volume: what each line receives of it, what goes to U, and that nothing is lost (R56, R57, R60, R61). -/

namespace Sys2Proof.Machine

/-! ## Sums over the lines -/

theorem sum_allLines (f : LineIx → Nat) : (allLines.map f).sum = ∑ p, f p := by
  simp only [allLines, List.map_cons, List.map_nil, List.sum_cons, List.sum_nil, Fin.sum_univ_six]
  omega

theorem sum_filter_allLines (c : LineIx → Bool) (f : LineIx → Nat) :
    ((allLines.filter c).map f).sum = ∑ p, if c p then f p else 0 := by
  rw [← sum_allLines]
  induction allLines with
  | nil => rfl
  | cons p l ih =>
    rw [List.filter_cons]
    cases hc : c p <;> simp [hc, ih]

/-! ## Shares and the remainder -/

section
variable (s : State)

theorem mem_openSet {p : LineIx} : p ∈ s.openSet ↔ s.inOpenSet p = true := by
  simp [State.openSet, mem_allLines]

theorem weight_pos {p : LineIx} (h : s.inOpenSet p = true) : 0 < s.item (.weight p) := by
  simp only [State.inOpenSet, Bool.and_eq_true, decide_eq_true_eq] at h
  exact h.1.2

theorem weightSum_eq : s.weightSum = ∑ p, if s.inOpenSet p then s.item (.weight p) else 0 := sum_filter_allLines ..

/-- The weights come to nothing exactly where no line is open (R60). -/
theorem weightSum_eq_zero : s.weightSum = 0 ↔ ∀ p, s.inOpenSet p = false := by
  rw [weightSum_eq, Finset.sum_eq_zero_iff]
  refine forall_congr' fun p => ?_
  cases hp : s.inOpenSet p with
  | false => simp
  | true => simpa using (weight_pos s hp).ne'

/-- The shares of a volume are together no more than it. -/
theorem shares_le (v : Nat) : (s.openSet.map (s.share v)).sum ≤ v := by
  rcases Nat.eq_zero_or_pos s.weightSum with hw | hw
  · have hnone : s.openSet = [] := by
      rw [State.openSet, List.filter_eq_nil_iff]
      exact fun p _ => by simp [(weightSum_eq_zero s).mp hw p]
    simp [hnone]
  · refine le_of_mul_le_mul_left ?_ hw
    calc s.weightSum * (s.openSet.map (s.share v)).sum
        = ∑ p, s.weightSum * (if s.inOpenSet p then s.share v p else 0) := by
          rw [State.openSet, sum_filter_allLines, Finset.mul_sum]
      _ ≤ ∑ p, v * (if s.inOpenSet p then s.item (.weight p) else 0) := Finset.sum_le_sum fun p _ => by
          split
          · exact Nat.mul_div_le _ _
          · exact Nat.le_refl _
      _ = s.weightSum * v := by rw [← Finset.mul_sum, ← weightSum_eq, Nat.mul_comm]

/-- The line takes the remainder: it is open, and of the open lines the one of largest weight, of lowest index among equals (R60). -/
def State.leads (p : LineIx) : Prop :=
  s.inOpenSet p = true ∧ ∀ q, s.inOpenSet q = true →
    s.item (.weight q) < s.item (.weight p) ∨ (s.item (.weight q) = s.item (.weight p) ∧ p ≤ q)

theorem leads_of_heaviest {p : LineIx} (h : s.heaviest = some p) : s.leads p := by
  obtain ⟨hmax, before, after, hsplit, hbefore⟩ := List.find?_eq_some_iff_append.mp h
  simp only [List.all_eq_true, decide_eq_true_eq, mem_openSet] at hmax
  have hordered : s.openSet.Pairwise (· < ·) := (show allLines.Pairwise (· < ·) by decide).filter _
  rw [hsplit, List.pairwise_append, List.pairwise_cons] at hordered
  obtain ⟨-, ⟨hlater, -⟩, -⟩ := hordered
  refine ⟨(mem_openSet s).mp (by simp [hsplit]), fun q hq => ?_⟩
  have hmem : q ∈ before ++ p :: after := hsplit ▸ (mem_openSet s).mpr hq
  rcases List.mem_append.mp hmem with hb | hc
  · have hlighter := hbefore q hb
    simp only [Bool.not_eq_true', List.all_eq_false, decide_eq_true_eq, Nat.not_le, mem_openSet] at hlighter
    obtain ⟨r, hr, hlt⟩ := hlighter
    exact .inl (hlt.trans_le (hmax r hr))
  · rcases List.mem_cons.mp hc with rfl | ha
    · exact .inr ⟨rfl, le_rfl⟩
    · exact (Nat.lt_or_eq_of_le (hmax q hq)).imp_right fun he => ⟨he, (hlater q ha).le⟩

/-- Where a line is open, one leads. -/
theorem exists_heaviest {p : LineIx} (h : s.inOpenSet p = true) : ∃ q, s.heaviest = some q := by
  obtain ⟨q, hq, hmax⟩ := s.openSet.toFinset.exists_max_image (fun q => s.item (.weight q)) ⟨p, by simpa [mem_openSet] using h⟩
  refine Option.isSome_iff_exists.mp (List.find?_isSome.mpr ⟨q, List.mem_toFinset.mp hq, ?_⟩)
  simpa using hmax

theorem heaviest_eq_some {p : LineIx} : s.heaviest = some p ↔ s.leads p := by
  refine ⟨leads_of_heaviest s, fun hp => ?_⟩
  obtain ⟨q, hq⟩ := exists_heaviest s hp.1
  have hleads := leads_of_heaviest s hq
  have hqp := hp.2 q hleads.1
  have hpq := hleads.2 p hp.1
  have he : q = p := by
    rcases hqp with hlt | ⟨heq, hle⟩
    · omega
    · exact le_antisymm ((hpq.resolve_left (by omega)).2) hle
  rw [hq, he]

theorem receives_of_closed {p : LineIx} (h : s.inOpenSet p = false) (v : Nat) : s.receives v p = 0 := by
  rw [State.receives, h]
  rfl

theorem receives_of_leads {p : LineIx} (h : s.leads p) (v : Nat) : s.receives v p = s.share v p + s.shareRemainder v := by
  rw [State.receives, if_pos h.1, if_pos ((heaviest_eq_some s).mpr h)]

theorem receives_of_open {p : LineIx} (h : s.inOpenSet p = true) (hp : ¬s.leads p) (v : Nat) :
    s.receives v p = s.share v p := by
  rw [State.receives, if_pos h, if_neg (mt (heaviest_eq_some s).mp hp), Nat.add_zero]

/-- The open lines receive the whole of a volume (R60). -/
theorem sum_receives (v : Nat) (h : s.weightSum ≠ 0) : ∑ p, s.receives v p = v := by
  obtain ⟨p, hp⟩ : ∃ p, s.inOpenSet p = true := by
    by_contra hnone
    exact h ((weightSum_eq_zero s).mpr fun p => by simpa using mt (Exists.intro p) hnone)
  obtain ⟨q, hq⟩ := exists_heaviest s hp
  have hopen : s.inOpenSet q = true := (leads_of_heaviest s hq).1
  have hreceives (p : LineIx) : s.receives v p =
      (if s.inOpenSet p then s.share v p else 0) + if p = q then s.shareRemainder v else 0 := by
    unfold State.receives
    rw [hq]
    by_cases hpq : p = q
    · subst hpq; simp [hopen]
    · simp [hpq, Ne.symm hpq]
  simp only [hreceives, Finset.sum_add_distrib, Finset.sum_ite_eq', Finset.mem_univ, if_true]
  rw [← sum_filter_allLines]
  exact Nat.add_sub_of_le (shares_le s v)

/-! ## The distribution -/

/-- What U receives of a volume: the whole of it where no line is open (R60). -/
def State.spare (v : Nat) : Nat := if s.weightSum = 0 then v else 0

/-- A volume goes to the open lines or to U, and none of it is lost (R60). -/
theorem sum_receives_add_spare (v : Nat) : ∑ p, s.receives v p + s.spare v = v := by
  unfold State.spare
  split
  · next h =>
    rw [Finset.sum_eq_zero fun p _ => receives_of_closed s ((weightSum_eq_zero s).mp h p) v, Nat.zero_add]
  · next h => exact sum_receives s v h

theorem distribute_eq (v : Nat) :
    s.distribute v = s.modAct fun a =>
      { a with
        lines := mapIx a.lines fun p l => { l with target := l.target + s.receives v p }
        unassigned := a.unassigned + s.spare v } := by
  unfold State.distribute State.spare
  split
  · next h =>
    have hlines : (mapIx s.act.lines fun p l => { l with target := l.target + s.receives v p }) = s.act.lines := by
      ext p hp : 1
      simp [mapIx, receives_of_closed s ((weightSum_eq_zero s).mp h ⟨p, hp⟩) v]
    simp only [State.modAct, hlines]
  · rfl

end

/-! ## The steps of an accrual -/

/-- The part with the windows that an accrual up to `new` leaves (R57). -/
def State.windowsMoved (s : State) (new : Nat) : State :=
  s.withAccounts (mapIx s.act.lines fun p l => { l with window := (s.crossing s.act.aAcc new p).window l.window })

/-- The volume of an accrual up to `new` (R56). -/
def State.accrued (s : State) (new : Nat) : Nat := (new - s.act.aAcc) * s.act.kv

/-- What TL*p* receives in an accrual up to `new`, once the windows have moved (R60). -/
def State.gains (s : State) (new : Nat) (p : LineIx) : Nat := (s.windowsMoved new).receives (s.accrued new) p

/-- U after an accrual up to `new` (R60). -/
def State.leftOver (s : State) (new : Nat) : Nat := s.act.unassigned + (s.windowsMoved new).spare (s.accrued new)

/-- An accrual's steps before the deficits are judged (R56). -/
def State.accounted (s : State) (new : Nat) : State :=
  { s with act :=
    { s.act with
      lines := mapIx s.act.lines fun p l =>
        { target := l.target + s.gains new p, window := (s.crossing s.act.aAcc new p).window l.window, deficit := l.deficit }
      unassigned := s.leftOver new
      expected := s.act.expected + (new - s.act.aAcc) * s.act.km
      aAcc := new
      gapRaised := s.act.gapRaised || (!s.act.gapRaised && decide (s.item .gapLimit * 65536 < s.leftOver new)) } }

theorem mapIx_mapIx {α β γ : Type} {n : Nat} (t : Vector α n) (f : Fin n → α → β) (g : Fin n → β → γ) :
    mapIx (mapIx t f) g = mapIx t fun i a => g i (f i a) := by
  ext i hi : 1
  simp [mapIx]

section
variable (s : State) (new : Nat)

theorem accrueSteps_eq : s.accrueSteps new = (s.accounted new).judgeDeficits := by
  have hdistributed := distribute_eq (s.windowsMoved new) (s.accrued new)
  have hlines := mapIx_mapIx s.act.lines
    (fun p (l : LineAccount) => { l with window := (s.crossing s.act.aAcc new p).window l.window })
    (fun p (l : LineAccount) => { l with target := l.target + s.gains new p })
  have hsteps : s.accrueSteps new =
      (let t := ((s.windowsMoved new).distribute (s.accrued new)).modAct fun a =>
        { a with expected := a.expected + (new - s.act.aAcc) * a.km, aAcc := new };
       (t.modAct fun a => { a with gapRaised := a.gapRaised || t.gapFound }).judgeDeficits) := rfl
  rw [hsteps, hdistributed]
  exact congrArg (fun v => ({ s.accounted new with act := { (s.accounted new).act with lines := v } } : State).judgeDeficits) hlines

theorem accounted_account (p : LineIx) :
    (s.accounted new).account p =
      { target := (s.account p).target + s.gains new p
        window := (s.crossing s.act.aAcc new p).window (s.account p).window
        deficit := (s.account p).deficit } :=
  mapIx_getElem s.act.lines
    (fun p (l : LineAccount) => LineAccount.mk (l.target + s.gains new p) ((s.crossing s.act.aAcc new p).window l.window) l.deficit) p

/-- An accrual's steps touch the accounts alone. -/
theorem accrueSteps_state : s.accrueSteps new = { s with act := (s.accrueSteps new).act } := by
  rw [accrueSteps_eq, judgeDeficits_eq]
  rfl

/-- Beside the lines' records, the accounts after an accrual's steps. -/
theorem accrueSteps_act :
    (s.accrueSteps new).act = { (s.accounted new).act with lines := (s.accrueSteps new).act.lines } := by
  rw [accrueSteps_eq, judgeDeficits_eq]
  rfl

theorem accrueSteps_account (p : LineIx) :
    (s.accrueSteps new).account p =
      { target := (s.account p).target + s.gains new p
        window := (s.crossing s.act.aAcc new p).window (s.account p).window
        deficit := deficitOf (s.item .rounding) ((s.account p).target + s.gains new p)
          ((s.whole ((s.account p).target + s.gains new p) : Int) + (s.line p).carry - (s.line p).delivered) } := by
  rw [accrueSteps_eq, judgeDeficits_account, accounted_account]
  rfl

theorem accrueSteps_unassigned : (s.accrueSteps new).act.unassigned = s.leftOver new := congrArg Accounts.unassigned (accrueSteps_act s new)

/-- The targets and U grow together by the volume of the accrual (R56, R60). -/
theorem accrueSteps_sum :
    ∑ p, ((s.accrueSteps new).account p).target + (s.accrueSteps new).act.unassigned =
      ∑ p, (s.account p).target + s.act.unassigned + s.accrued new := by
  have hall := sum_receives_add_spare (s.windowsMoved new) (s.accrued new)
  simp only [accrueSteps_account, accrueSteps_unassigned, Finset.sum_add_distrib, State.gains, State.leftOver]
  omega

end

end Sys2Proof.Machine
end

section
/-! The deficit of a line and its flags as a judgment publishes them (R63, R65, R66). -/

namespace Sys2Proof.Machine

/-- The whole part is rounded up where the mode is ROUND and the remainder is a half or more (R63). -/
theorem wholePart_eq (rounding x : Nat) :
    wholePart rounding x =
      if rounding = 1 then x / 65536 + (if 32768 ≤ x % 65536 then 1 else 0) else x / 65536 := by
  unfold wholePart
  split
  · split <;> omega
  · rfl

/-- The published deficit is the exact sum held within the limits (R65). -/
theorem deficitOf_d (rounding target : Nat) (sum : Int) : (deficitOf rounding target sum).d = max (-16383) (min 16383 sum) := rfl

/-- Z and N follow the published deficit, V the exact sum, and C the target's remainder under ROUND (R66). -/
theorem deficitOf_flags (rounding target : Nat) (sum : Int) :
    ((deficitOf rounding target sum).z = true ↔ (deficitOf rounding target sum).d = 0) ∧
    ((deficitOf rounding target sum).n = true ↔ (deficitOf rounding target sum).d < 0) ∧
    ((deficitOf rounding target sum).v = true ↔ sum < -16383 ∨ 16383 < sum) ∧
    ((deficitOf rounding target sum).c = true ↔ rounding = 1 ∧ 32768 ≤ target % 65536) :=
  ⟨beq_iff_eq, decide_eq_true_iff, decide_eq_true_iff, by simp [deficitOf]⟩

theorem judgeDeficit_deficit (s : State) (p : LineIx) :
    ((s.judgeDeficit p).account p).deficit = deficitOf (s.item .rounding) (s.account p).target (s.deficitSum p) := by
  rw [State.judgeDeficit, modAccount_account, if_pos rfl]

theorem modAccount_congr {s : State} {p : LineIx} {f f' : LineAccount → LineAccount} (h : f (s.account p) = f' (s.account p)) :
    s.modAccount p f = s.modAccount p f' :=
  congrArg s.withAccounts (modAt_congr (t := s.act.lines) (i := p) h)

/-- Settles O34: the judgment publishes `deficitOf` the exact sum, whose limits and flags are read off it. -/
theorem deficitsAndFlagsArePublished : Obligations.DeficitsAndFlagsArePublished := by
  intro s p x whole sum d
  have hsum : s.deficitSum p = sum :=
    congrArg (fun n : Nat => (n : Int) + (s.line p).carry - (s.line p).delivered) (wholePart_eq (s.item .rounding) x)
  have hd : d = deficitOf (s.item .rounding) x sum := hsum ▸ judgeDeficit_deficit s p
  have hbounded : d.d = max (-16383) (min 16383 sum) := hd ▸ deficitOf_d ..
  obtain ⟨hz, hn, hv, hc⟩ := deficitOf_flags (s.item .rounding) x sum
  rw [← hd] at hz hn hv hc
  refine ⟨fun _ _ => by omega, fun _ => by omega, fun _ => by omega, hz, hn, hv, hc, modAccount_congr ?_⟩
  rw [show d = _ from judgeDeficit_deficit s p]

end Sys2Proof.Machine
end

section
/-! The targets and U stay at K_v, and E at K_m, for each count accrued: only an accrual, the boring start and a change of coefficients
touch them (R52, R56, R58, R60). -/

namespace Sys2Proof.Machine

/-! ## What the balance speaks of -/

/-- What `State.accountsBalance` speaks of, and whether RESET is held. -/
structure Books where
  kv : Nat
  km : Nat
  aAcc : Nat
  targets : LineIx → Nat
  unassigned : Nat
  expected : Nat
  resetActive : Bool

def State.books (s : State) : Books :=
  { kv := s.act.kv, km := s.act.km, aAcc := s.act.aAcc, targets := fun p => (s.account p).target
    unassigned := s.act.unassigned, expected := s.act.expected, resetActive := s.resetActive }

/-- `State.accountsBalance`, said of what it speaks of. -/
def Books.balanced (b : Books) : Prop := ∑ p, b.targets p + b.unassigned = b.kv * b.aAcc ∧ b.expected = b.km * b.aAcc

/-- With nothing accrued the accounts balance under any coefficients. -/
theorem Books.balanced.rekeyed {b : Books} (h : b.balanced) (hzero : b.aAcc = 0) (kv km : Nat) :
    ({ b with kv := kv, km := km } : Books).balanced := by
  obtain ⟨hsum, hexpected⟩ := h
  rw [hzero, Nat.mul_zero] at hsum hexpected
  exact ⟨by rw [hsum, hzero, Nat.mul_zero], by rw [hexpected, hzero, Nat.mul_zero]⟩

theorem accountsBalance_iff (s : State) : s.accountsBalance ↔ s.books.balanced := by
  rw [State.accountsBalance, sum_allLines]
  rfl

/-- The part with a pair of coefficients in use, or pending where something is accrued (R52). -/
def State.withCoefficients (s : State) (kv km : Nat) : State :=
  s.modAct fun a => if a.aAcc = 0 then { a with kv := kv, km := km, pendingK := none } else { a with pendingK := some (kv, km) }

theorem recomputeCoefficients_eq (s : State) :
    s.recomputeCoefficients =
      s.withCoefficients (coefficientKv (s.item .boreDiameter) (s.item .ringOd))
        (coefficientKm (s.item .boreDiameter) (s.item .muckDensity)) := rfl

theorem books_withCoefficients (s : State) (kv km : Nat) :
    (s.withCoefficients kv km).books = if s.act.aAcc = 0 then { s.books with kv := kv, km := km } else s.books := by
  unfold State.withCoefficients State.modAct
  dsimp only
  split
  · rfl
  · rfl

/-- With RESET released, `t` balances where `s` does. -/
abbrev BalanceKept : State → State → Prop := Keeps State.accountsBalance

theorem Keeps.of_books {s t : State} (h : t.books = s.books) : BalanceKept s t where
  kept hs := ⟨(congrArg Books.resetActive h).trans hs.1, (accountsBalance_iff t).mpr (h ▸ (accountsBalance_iff s).mp hs.2)⟩

namespace BalanceKept

theorem of_aside {s t : State} (h : Aside s t) : BalanceKept s t := .of_books (by rw [h.eq]; rfl)

theorem of_lineWork {s t : State} (h : LineWork s t) : BalanceKept s t := .of_books (by rw [h.eq]; rfl)

theorem refl (s : State) : BalanceKept s s := Keeps.refl s

theorem changeGroups (s : State) (f : GroupIx → Group → Group) : BalanceKept s (s.changeGroups f) :=
  .of_books (by rw [changeGroups_eq]; rfl)

theorem modGroup (s : State) (g : GroupIx) (f : Group → Group) : BalanceKept s (s.modGroup g f) := .of_books rfl

theorem modAdu (s : State) (f : Advance → Advance) : BalanceKept s (s.modAdu f) := .of_books rfl

theorem modRbu (s : State) (f : RingBuild → RingBuild) : BalanceKept s (s.modRbu f) := .of_books rfl

theorem modRecord (s : State) (f : RingRecord → RingRecord) : BalanceKept s (s.modRecord f) := .of_books rfl

theorem modPiece (s : State) (pc : Piece) (f : PieceRecord → PieceRecord) : BalanceKept s (s.modPiece pc f) := .of_books rfl

theorem modLine (s : State) (p : LineIx) (f : Line → Line) : BalanceKept s (s.modLine p f) := .of_books rfl

theorem modMku (s : State) (f : Muck → Muck) : BalanceKept s (s.modMku f) := .of_books rfl

theorem modMeas (s : State) (m : MeasIx) (f : MeasRecord → MeasRecord) : BalanceKept s (s.modMeas m f) := .of_books rfl

theorem setEvent (s : State) (e : Event) : BalanceKept s (s.setEvent e) := .of_books rfl

theorem send (s : State) (n : Notice) : BalanceKept s (s.send n) := .of_books rfl

theorem raise (s : State) (key : FaultKey) : BalanceKept s (s.raise key) := of_lineWork (LineWork.raise s key)

theorem judgeKeys (s : State) (keys : List FaultKey) : BalanceKept s (s.judgeKeys keys) := of_lineWork (LineWork.judgeKeys s keys)

theorem judgeGrout (s : State) : BalanceKept s s.judgeGrout := of_lineWork (LineWork.judgeGrout s)

/-! ## The ACT -/

/-- An accrual adds K_v to the targets and U together, and K_m to E, for each count it goes up by (R56, R60). -/
theorem accrueSteps (s : State) {new : Nat} (h : s.act.aAcc ≤ new) : BalanceKept s (s.accrueSteps new) where
  kept hs := by
    obtain ⟨hr, hsum, hexpected⟩ := hs
    obtain ⟨d, rfl⟩ := Nat.exists_eq_add_of_le h
    have hact := accrueSteps_act s (s.act.aAcc + d)
    have hreset : (s.accrueSteps (s.act.aAcc + d)).resetActive = s.resetActive := by rw [accrueSteps_state]
    have hkv : (s.accrueSteps (s.act.aAcc + d)).act.kv = s.act.kv := (congrArg Accounts.kv hact :)
    have hkm : (s.accrueSteps (s.act.aAcc + d)).act.km = s.act.km := (congrArg Accounts.km hact :)
    have haAcc : (s.accrueSteps (s.act.aAcc + d)).act.aAcc = s.act.aAcc + d := congrArg Accounts.aAcc hact
    have hgrown : (s.accrueSteps (s.act.aAcc + d)).act.expected = s.act.expected + (s.act.aAcc + d - s.act.aAcc) * s.act.km :=
      congrArg Accounts.expected hact
    rw [sum_allLines] at hsum
    refine ⟨hreset.trans hr, ?_, ?_⟩
    · rw [sum_allLines, accrueSteps_sum, hsum, hkv, haAcc, State.accrued, Nat.add_sub_cancel_left]
      ring
    · rw [hgrown, hexpected, hkm, haAcc, Nat.add_sub_cancel_left]
      ring

theorem accrue (s : State) {new : Nat} (h : s.act.aAcc ≤ new) : BalanceKept s (s.accrue new) :=
  (accrueSteps s h).trans (of_lineWork (LineWork.accrue_of_steps s new))

theorem takeChange (s : State) : BalanceKept s s.takeChange := by
  unfold State.takeChange
  split
  · next h => exact accrue s (Nat.le_of_add_right_le h)
  · exact refl s

theorem flush (s : State) : BalanceKept s s.flush := by
  unfold State.flush
  split
  · next h => exact accrue s h.le
  · exact refl s

theorem judgeDeficits (s : State) : BalanceKept s s.judgeDeficits := by
  have htargets : (fun p => (s.judgeDeficits.account p).target) = fun p => (s.account p).target :=
    funext fun p => by rw [judgeDeficits_account]
  refine .of_books ?_
  unfold State.books
  rw [htargets, judgeDeficits_eq]
  rfl

theorem judgeDeficit (s : State) (p : LineIx) : BalanceKept s (s.judgeDeficit p) := by
  have htargets : (fun q => ((s.judgeDeficit p).account q).target) = fun q => (s.account q).target :=
    funext fun q => by
      rw [State.judgeDeficit, modAccount_account]
      split <;> rfl
  refine .of_books ?_
  unfold State.books
  rw [htargets]
  rfl

/-- At the boring start nothing is accrued, and every account is empty (R58). -/
theorem emptied (s : State) : BalanceKept s s.emptied where
  kept hs := ⟨hs.1, by simp only [State.accountsBalance, emptied_account]; simp [State.emptied]⟩

theorem startAccountRing (s : State) : BalanceKept s s.startAccountRing :=
  (emptied s).trans ((judgeDeficits _).trans (of_lineWork (startAccountRing_work s)))

theorem shutWindows (s : State) : BalanceKept s s.shutWindows := by
  have htargets : (fun p => (s.shutWindows.account p).target) = fun p => (s.account p).target :=
    funext fun p => by rw [shutWindows_account]
  refine .of_books ?_
  unfold State.books
  rw [htargets]
  rfl

theorem recomputeCoefficients (s : State) : BalanceKept s s.recomputeCoefficients := by
  refine ⟨fun hs => ⟨hs.1, (accountsBalance_iff _).mpr ?_⟩⟩
  have hbalanced := (accountsBalance_iff s).mp hs.2
  rw [recomputeCoefficients_eq, books_withCoefficients]
  split
  · next hzero => exact hbalanced.rekeyed hzero _ _
  · exact hbalanced

/-! ## The JGU and the RBU -/

theorem jguPush (s : State) : BalanceKept s s.jguPush :=
  (changeGroups s _).trans (Keeps.foldl (fun t _ => ite_along (send t _) (refl t)) _ _)

theorem holdIfBoring (s : State) : BalanceKept s s.holdIfBoring := ite_along (changeGroups s _) (refl s)

theorem restartDwells (s : State) : BalanceKept s s.restartDwells := ite_along (refl s) (.of_books rfl)

theorem resumeTimers (s : State) : BalanceKept s s.resumeTimers := ite_along (refl s) (modRecord s _)

theorem expireDwell (s : State) (g : GroupIx) : BalanceKept s (s.expireDwell g) := ite_along (changeGroups s _) (refl s)

theorem comparePulse (s : State) (g : GroupIx) : BalanceKept s (s.comparePulse g) := by
  unfold State.comparePulse
  dsimp only
  split
  · exact ite_along (changeGroups s _) (refl s)
  · exact ite_along (modGroup s g _) (refl s)
  · exact ite_along ((modGroup s g _).trans (raise _ _)) (refl s)
  · exact ite_along ((modGroup s g (fun r => { r with strokeEndReported := true })).trans (send _ _)) (refl s)
  all_goals exact refl s

theorem pulse (s : State) (g : GroupIx) (extending : Bool) : BalanceKept s (s.pulse g extending) :=
  ite_along (modGroup s g _) ((modGroup s g _).trans ((comparePulse _ g).trans (send _ _)))

theorem requestReference (s : State) (v : GroupIx → Nat) : BalanceKept s (s.requestReference v).1 := by
  unfold State.requestReference
  split
  · exact refl s
  · exact (changeGroups s _).trans (send _ _)

theorem grant (s : State) (pc : Piece) : BalanceKept s (s.grant pc) :=
  (modPiece s pc _).trans ((setEvent _ _).trans (changeGroups _ _))

theorem examineHead (s : State) : BalanceKept s s.examineHead := by
  unfold State.examineHead
  split
  · exact refl s
  · split
    · exact refl s
    · exact (modRbu s _).trans (grant _ _)

theorem arriveClear (s : State) (g : GroupIx) (pc : Piece) : BalanceKept s (s.arriveClear g pc) :=
  ite_along (refl s) (ite_along ((modPiece s pc _).trans (setEvent _ _)) (modPiece s pc _))

theorem expirePieceTimer (s : State) (pc : Piece) : BalanceKept s (s.expirePieceTimer pc) :=
  ite_along ((modPiece s pc _).trans (raise _ _)) (refl s)

theorem dequeue (s : State) (pc : Piece) : BalanceKept s (s.dequeue pc) := (modRbu s _).trans (modPiece _ pc _)

theorem expireWait (s : State) (pc : Piece) : BalanceKept s (s.expireWait pc) := by
  have hgone := (dequeue s pc).trans ((setEvent _ .claimExpired).trans
    (modRecord _ fun r => { r with claimsExpired := addUpTo 32767 r.claimsExpired 1 }))
  exact ite_along (ite_along (hgone.trans (examineHead _)) hgone) (refl s)

theorem withPiece (s : State) (code : Nat) (f : Piece → State × Reply) (h : ∀ pc, BalanceKept s (f pc).1) :
    BalanceKept s (s.withPiece code f).1 := by
  unfold State.withPiece
  split
  · exact refl s
  · split
    · exact refl s
    · exact h _

theorem requestClaim (s : State) (code : Nat) : BalanceKept s (s.requestClaim code).1 := by
  refine withPiece s code _ fun pc => ?_
  split
  · exact refl s
  · unfold State.takeClaim
    split
    · exact grant s pc
    · split <;> dsimp only
      · exact (modPiece s pc _).trans (modRbu _ _)
      · exact refl s

theorem sendBack (s : State) (pc : Piece) (st : PieceState) : BalanceKept s (s.sendBack pc st) :=
  (modPiece s pc _).trans (changeGroups _ _)

theorem requestPlaced (s : State) (code : Nat) : BalanceKept s (s.requestPlaced code).1 := by
  refine withPiece s code _ fun pc => ?_
  split
  · exact sendBack s pc _
  · exact refl s

theorem requestWithdraw (s : State) (code : Nat) : BalanceKept s (s.requestWithdraw code).1 := by
  refine withPiece s code _ fun pc => ?_
  split
  case h_2 => exact ite_along ((dequeue s pc).trans (examineHead _)) (dequeue s pc)
  case h_3 | h_4 => exact sendBack s pc _
  all_goals exact refl s

/-! ## The MKU, the MST and deliveries -/

theorem judgePermit (s : State) : BalanceKept s s.judgePermit := by
  have hjudged := (modMku s fun k => { k with beltPermit := s.permitFor, lMuck := if s.permitFor then 8 else 0 }).trans
    (of_lineWork (LineWork.judgeRate _))
  exact (ite_along (hjudged.trans (setEvent _ _)) hjudged).trans (judgeKeys _ _)

theorem testCarDue (s : State) : BalanceKept s s.testCarDue := ite_along ((modMku s _).trans (setEvent _ _)) (refl s)

theorem judgeExcavation (s : State) : BalanceKept s s.judgeExcavation := by
  unfold State.judgeExcavation
  split
  · exact ite_along (refl s) (ite_along ((modMku s _).trans (raise _ _)) (ite_along ((modMku s _).trans (raise _ _)) (refl s)))
  · exact refl s

theorem muckTick (s : State) : BalanceKept s s.muckTick := ite_along ((modMku s _).trans (judgeExcavation _)) (refl s)

theorem countMuck (s : State) (n : Nat) : BalanceKept s (s.countMuck n) :=
  (modMku s _).trans (ite_along ((modMku _ _).trans ((testCarDue _).trans (judgePermit _))) (modMku _ _))

theorem takeBeltCounter (s : State) (v : Nat) : BalanceKept s (s.takeBeltCounter v) := by
  have hnoted := modMku s fun k => { k with lastCounter := v, counterValid := true }
  exact ite_along hnoted (ite_along hnoted (ite_along (hnoted.trans (raise _ _)) (hnoted.trans (countMuck _ _))))

theorem requestTrainIn (s : State) (n capacity : Nat) : BalanceKept s (s.requestTrainIn n capacity).1 := by
  unfold State.requestTrainIn
  split
  · exact refl s
  · exact (modMku s _).trans ((testCarDue _).trans (judgePermit _))

theorem requestCarShift (s : State) : BalanceKept s s.requestCarShift.1 := by
  unfold State.requestCarShift
  split
  · exact refl s
  · exact (modMku s _).trans ((ite_along (testCarDue _) (setEvent _ _)).trans (judgePermit _))

theorem requestTrainOut (s : State) : BalanceKept s s.requestTrainOut.1 := (modMku s _).trans (judgePermit _)

theorem deliver (s : State) (p : LineIx) (n : Nat) : BalanceKept s (s.deliver p n) :=
  (modLine s p _).trans ((judgeDeficit _ p).trans (of_lineWork ((LineWork.noteDeficit _ p).trans ((LineWork.testPrimed _ p).trans
    ((LineWork.takeDeficit _ p).trans (LineWork.judgeGrout _))))))

theorem takeLineCounter (s : State) (p : LineIx) (v : Nat) : BalanceKept s (s.takeLineCounter p v) := by
  have hnoted := modLine s p fun l => { l with lastCounter := v, counterValid := true }
  exact ite_along hnoted (ite_along hnoted (ite_along (hnoted.trans (raise _ _)) (hnoted.trans (deliver _ _ _))))

theorem takePressure (s : State) (p : LineIx) : BalanceKept s (s.takePressure p) := by
  have hnoted : BalanceKept s (s.notePressure p) := modLine s p _
  unfold State.takePressure
  dsimp only
  split
  · exact hnoted.trans (of_lineWork (LineWork.testLimit _ p))
  · exact ite_along (hnoted.trans (of_lineWork (LineWork.enterFlow _ p))) hnoted
  · exact hnoted.trans (of_lineWork (LineWork.testResume _ p))
  · exact hnoted

theorem takeReport (s : State) (m : MeasIx) (reported : Nat) : BalanceKept s (s.takeReport m reported) := by
  have hpassed (t : State) (v : Nat) : BalanceKept t (t.passValue m v) := by
    unfold State.passValue
    split_ifs
    · exact refl t
    · exact takePressure t _
    · exact takeLineCounter t _ v
    · exact takeBeltCounter t v
  unfold State.takeReport
  dsimp only
  refine Keeps.trans ?_ (hpassed _ _)
  split <;> exact .of_books rfl

theorem enterStale (s : State) (m : MeasIx) : BalanceKept s (s.enterStale m) := by
  have hinvalid (t : State) : BalanceKept t (t.invalidateCounter m) := by
    unfold State.invalidateCounter
    split_ifs <;> exact .of_books rfl
  exact ite_along ((modMeas s m _).trans ((modMeas _ m _).trans (hinvalid _))) (refl s)

/-! ## The ADU -/

theorem enterCycle (s : State) (c : Cycle) : BalanceKept s (s.enterCycle c) :=
  (modAdu s _).trans ((of_lineWork (LineWork.judgeRate _)).trans (judgeKeys _ _))

theorem enterStandstill (s : State) : BalanceKept s s.enterStandstill := (enterCycle s _).trans (flush _)

theorem enterRundown (s : State) : BalanceKept s s.enterRundown := by
  have hrun := (holdIfBoring s).trans ((modAdu _ fun a => { a with thrustPermit := false, cutterPermit := false, spinup := none }).trans
    ((enterCycle _ .rundown).trans (flush _)))
  exact ite_along (hrun.trans ((setEvent _ _).trans (enterStandstill _))) hrun

theorem enterPaused (s : State) (kept : Bool) : BalanceKept s (s.enterPaused kept) :=
  (holdIfBoring s).trans ((modAdu _ fun a =>
    { a with thrustPermit := false, cutterPermit := kept && a.cutterPermit, spinup := none }).trans
      ((enterCycle _ .paused).trans (modAdu _ fun a => { a with permitKept := kept })))

theorem enterSpinup (s : State) : BalanceKept s s.enterSpinup :=
  (modAdu s _).trans ((enterCycle _ _).trans ((modAdu _ _).trans (of_lineWork (LineWork.judgeRate _))))

theorem startRing (s : State) : BalanceKept s s.startRing := by
  have hrolled : BalanceKept s s.rolled := .of_books rfl
  rw [startRing_eq]
  exact hrolled.trans ((startAccountRing _).trans (.of_books rfl))

theorem enterBoring (s : State) : BalanceKept s s.enterBoring := by
  have hentered := (modAdu s fun a => { a with spinup := none }).trans (enterCycle _ .boring)
  exact (ite_along (hentered.trans (startRing _)) hentered).trans ((jguPush _).trans
    ((modAdu _ _).trans (of_lineWork (LineWork.judgeRate _))))

theorem testTarget (s : State) : BalanceKept s s.testTarget :=
  ite_along ((setEvent s _).trans ((modAdu _ _).trans (enterRundown _))) (refl s)

theorem takeStrokeChange (s : State) : BalanceKept s s.takeStrokeChange := by
  have hmeasured := modAdu s fun a => { a with a := meanAdvance s.groups }
  unfold State.takeStrokeChange
  dsimp only
  split
  · exact (ite_along (hmeasured.trans (takeChange _)) hmeasured).trans (testTarget _)
  · exact hmeasured.trans (testTarget _)
  · exact refl s

theorem takeStrokeEnd (s : State) : BalanceKept s s.takeStrokeEnd :=
  ite_along ((setEvent s _).trans ((modAdu _ _).trans (enterRundown _))) (refl s)

theorem takeHalt (s : State) : BalanceKept s s.takeHalt := by
  unfold State.takeHalt
  dsimp only
  split
  · exact enterPaused s _
  · exact ite_along (enterPaused s _) (refl s)
  · exact ite_along (modAdu s _) (refl s)
  · exact refl s

theorem takeHaltLift (s : State) : BalanceKept s s.takeHaltLift := ite_along (ite_along (enterBoring s) (enterSpinup s)) (refl s)

theorem takeRevolution (s : State) : BalanceKept s s.takeRevolution := by
  have hmeasured : BalanceKept s s.measurePulse := .of_books rfl
  have hconfirm (t : State) : BalanceKept t t.confirmSpinup := ite_along (enterPaused t _) (enterBoring t)
  have hjudge (t : State) : BalanceKept t t.judgeConfirmation :=
    ite_along (ite_along ((modAdu t _).trans (hconfirm _)) (modAdu t _)) (refl t)
  exact hmeasured.trans ((hjudge _).trans ((modAdu _ _).trans (of_lineWork (LineWork.judgeRate _))))

theorem expireStopTimer (s : State) : BalanceKept s s.expireStopTimer := by
  have hstopped := modAdu s fun a => { a with stopTimer := none, cutter := .stopped }
  exact ite_along (ite_along (hstopped.trans ((setEvent _ _).trans (enterStandstill _))) hstopped) (refl s)

theorem expireSpinup (s : State) : BalanceKept s s.expireSpinup :=
  ite_along ((modAdu s _).trans ((setEvent _ _).trans (enterStandstill _))) (refl s)

theorem dropCycle (s : State) : BalanceKept s s.dropCycle :=
  (setEvent s .estop).trans (ite_along ((changeGroups _ _).trans ((modAdu _ _).trans (enterStandstill _))) (refl _))

theorem takeCompletion (s : State) : BalanceKept s s.takeCompletion :=
  (modAdu s fun a => { a with ringStartPending := true }).trans (ite_along (enterStandstill _) (refl _))

theorem requestStart (s : State) : BalanceKept s s.requestStart.1 := by
  unfold State.requestStart
  split
  · exact refl s
  · exact enterSpinup s

theorem requestStop (s : State) : BalanceKept s s.requestStop.1 := by
  have hstop : BalanceKept s (s.setCause .stopRequest).enterRundown := (modAdu s _).trans (enterRundown _)
  unfold State.requestStop
  split <;> dsimp only
  case h_4 | h_5 | h_6 => exact refl s
  all_goals exact hstop

theorem requestLevel (s : State) (n : Nat) : BalanceKept s (s.requestLevel n).1 := by
  unfold State.requestLevel
  split <;> exact .of_books rfl

/-! ## Rings, lines and emergency stop -/

theorem completeRing (s : State) : BalanceKept s s.completeRing :=
  (modRecord s _).trans ((modRbu _ _).trans ((judgeKeys _ _).trans ((setEvent _ _).trans (takeCompletion _))))

theorem arriveHold (s : State) (g : GroupIx) (pc : Piece) : BalanceKept s (s.arriveHold g pc) := by
  unfold State.arriveHold
  dsimp only
  split
  · have hset := (modPiece s pc fun r => r.arrived .set).trans (setEvent _ .pieceSet)
    exact ite_along (ite_along (hset.trans (completeRing _)) hset) (modPiece s pc _)
  · exact ite_along ((modPiece s pc _).trans (setEvent _ _)) (modPiece s pc _)
  · exact refl s

theorem takeGroupState (s : State) (g : GroupIx) (st : GroupState) (arrived : Option Piece) :
    BalanceKept s (s.takeGroupState g st arrived) := by
  refine Keeps.trans ?_ (examineHead _)
  split
  · exact arriveClear s g _
  · exact arriveHold s g _
  · exact refl s

theorem requestRing (s : State) (number key : Nat) : BalanceKept s (s.requestRing number key).1 := by
  unfold State.requestRing
  split
  · exact refl s
  · have hopened (t : State) (k : GroupIx) : BalanceKept t (t.openRecord number k) :=
      (modRbu t _).trans ((judgeKeys _ _).trans (setEvent _ _))
    have hidled (t : State) : BalanceKept t t.idleLines.judgeGrout := of_lineWork ((LineWork.idleLines t).trans (LineWork.judgeGrout _))
    have hfrozen (t : State) : BalanceKept t t.freezeAccounts := .of_books rfl
    dsimp only
    exact (enterCycle s _).trans ((hopened _ _).trans ((shutWindows _).trans ((hidled _).trans (hfrozen _))))

theorem requestSuspend (s : State) (index : Nat) : BalanceKept s (s.requestSuspend index).1 := by
  unfold State.requestSuspend
  split
  · exact refl s
  · split
    case h_3 => exact of_lineWork ((LineWork.enterPhase s _ .out).trans (LineWork.judgeGrout _))
    all_goals exact refl s

theorem requestResume (s : State) (index : Nat) : BalanceKept s (s.requestResume index).1 := by
  unfold State.requestResume
  split
  · exact refl s
  · split
    · exact (modLine s _ _).trans (of_lineWork ((LineWork.startLine _ _).trans (LineWork.judgeGrout _)))
    · exact refl s

theorem assertStop (s : State) : BalanceKept s s.assertStop := by
  have hstopped : BalanceKept s { s with estop := true } := .of_books rfl
  have hforced (t : State) : BalanceKept t t.stopDwells.suspendTimers := .of_books rfl
  exact hstopped.trans ((of_lineWork (LineWork.idleLines _)).trans ((judgePermit _).trans ((hforced _).trans ((dropCycle _).trans
    (of_lineWork ((LineWork.judgeGrout _).trans (LineWork.judgeRate _)))))))

theorem releaseStop (s : State) : BalanceKept s s.releaseStop := by
  have hreleased : BalanceKept s { s with estop := false } := .of_books rfl
  exact hreleased.trans ((restartDwells _).trans ((resumeTimers _).trans
    ((of_lineWork ((LineWork.startIdleLines _).trans (LineWork.judgeGrout _))).trans
      ((judgePermit _).trans ((of_lineWork (LineWork.judgeRate _)).trans (examineHead _))))))

/-! ## CONFIGURE -/

theorem changePolicy (s : State) (m : MeasIx) : BalanceKept s (s.changePolicy m) := by
  unfold State.changePolicy
  dsimp only
  split
  · exact ite_along ((modMeas s m _).trans (modLine _ _ _)) (modMeas s m _)
  · exact modMeas s m _

theorem onChange (s : State) (old : ConfigSet) (i : Item) {f : State → State} (h : ∀ t, BalanceKept t (f t)) :
    BalanceKept s (s.onChange old i f) := onChange_along refl h s old i

theorem respondLast (s : State) (old : ConfigSet) : BalanceKept s (s.respondLast old) := by
  unfold State.respondLast
  refine Keeps.trans ?_ (Keeps.foldl (fun t c => onChange t old _ fun u => Keeps.foldl (fun v k => of_aside (.reviseReported v k)) _ u) _ _)
  refine Keeps.trans ?_ (Keeps.foldl (fun t m => onChange t old _ fun u => ite_along (enterStale u m) (refl u)) _ _)
  refine Keeps.trans ?_ (onChange _ old .muckLag fun t => modMku t _)
  refine Keeps.trans ?_ (onChange _ old .carOverfill judgePermit)
  refine Keeps.trans ?_ (onChange _ old .carReserve testCarDue)
  refine Keeps.trans ?_ (onChange _ old .stallTime fun t => .of_books rfl)
  exact onChange _ old .primeVolume fun t => of_lineWork (LineWork.foldl LineWork.testPrimed _ t)

theorem respond (s : State) (old : ConfigSet) (pairs : List (Payload × Payload)) : BalanceKept s (s.respond old pairs) := by
  have hcoefficients : BalanceKept s (s.onCoefficients pairs) := ite_along (recomputeCoefficients s) (refl s)
  rw [respond_eq]
  refine Keeps.trans ?_ (respondLast _ old)
  refine Keeps.trans ?_ (onChange _ old .deficitHigh judgeGrout)
  refine Keeps.trans ?_ (onChange _ old .deficitLow judgeGrout)
  refine Keeps.trans ?_ (onChange _ old .flowSpan fun t => of_lineWork (LineWork.foldl LineWork.judgeSetpoint _ t))
  refine Keeps.trans ?_ (onChange _ old .rounding fun t => (judgeDeficits t).trans (of_lineWork (LineWork.takeDeficits _)))
  exact hcoefficients.trans (Keeps.foldl (fun t m => onChange t old _ fun u => changePolicy u m) _ _)

theorem requestConfigure (s : State) (pairs : List (Payload × Payload)) : BalanceKept s (s.requestConfigure pairs).1 := by
  have hset : BalanceKept s { s with config := resultingSet s.config pairs } := .of_books rfl
  unfold State.requestConfigure
  split
  · exact refl s
  · exact hset.trans (respond _ _ _)

/-! ## What a command sets going -/

theorem takeEntering (s : State) (a : Action) : BalanceKept s (s.takeEntering a) := by
  unfold State.takeEntering
  split
  · exact takeHalt s
  · exact takeHalt s
  · exact judgePermit s
  · exact .of_books rfl
  · exact of_lineWork ((LineWork.holdLine s _).trans (LineWork.judgeGrout _))

theorem takeLeaving (s : State) (a : Action) : BalanceKept s (s.takeLeaving a) := by
  refine Keeps.trans ?_ (examineHead _)
  split
  · exact takeHaltLift s
  · exact takeHaltLift s
  · exact judgePermit s
  · exact (restartDwells s).trans (resumeTimers _)
  · exact of_lineWork ((LineWork.releaseLine s _).trans (LineWork.judgeGrout _))

theorem take (s : State) (n : Notice) : BalanceKept s (s.take n) := by
  cases n with
  | strokeChange => exact takeStrokeChange s
  | strokeEnd g => exact takeStrokeEnd s
  | groupState g st owner arrived => exact takeGroupState s g st arrived
  | actionEnters a => exact takeEntering s a
  | actionLeaves a => exact takeLeaving s a
  | blockedRemoved p => exact of_lineWork ((LineWork.unblockLine s p).trans (LineWork.judgeGrout _))

end BalanceKept

/-- With RESET released, every operation keeps the accounts balanced. -/
theorem accountsBalance_upheld : Upheld State.accountsBalance where
  aside := BalanceKept.of_aside
  passMs _ := .of_books rfl
  take := BalanceKept.take
  pulse := BalanceKept.pulse
  expireDwell := BalanceKept.expireDwell
  takeRevolution := BalanceKept.takeRevolution
  expireStopTimer := BalanceKept.expireStopTimer
  expireSpinup := BalanceKept.expireSpinup
  expirePieceTimer := BalanceKept.expirePieceTimer
  expireWait := BalanceKept.expireWait
  enterStale := BalanceKept.enterStale
  groutTick s := BalanceKept.of_lineWork (LineWork.groutTick s)
  muckTick := BalanceKept.muckTick
  assertStop := BalanceKept.assertStop
  releaseStop := BalanceKept.releaseStop
  takeReport := BalanceKept.takeReport
  requestConfigure := BalanceKept.requestConfigure
  requestReference := BalanceKept.requestReference
  requestStart := BalanceKept.requestStart
  requestStop := BalanceKept.requestStop
  requestLevel := BalanceKept.requestLevel
  requestRing := BalanceKept.requestRing
  requestClaim := BalanceKept.requestClaim
  requestWithdraw := BalanceKept.requestWithdraw
  requestPlaced := BalanceKept.requestPlaced
  requestSuspend := BalanceKept.requestSuspend
  requestResume := BalanceKept.requestResume
  requestTrainIn := BalanceKept.requestTrainIn
  requestCarShift := BalanceKept.requestCarShift
  requestTrainOut := BalanceKept.requestTrainOut

/-- Device reset leaves every account empty with nothing accrued (R50). -/
theorem deviceReset_accountsBalance (s : State) : s.deviceReset.accountsBalance := by
  simp [State.accountsBalance, State.account, State.deviceReset, State.reset, Accounts.reset]

/-- Settles O51: an accrual places K_v and K_m for each count, the boring start and a change of coefficients find or leave nothing
accrued, and no other operation touches what is balanced. -/
theorem accountsStayBalanced : Obligations.AccountsStayBalanced := fun _ _ hs h =>
  accountsBalance_upheld.step deviceReset_accountsBalance (fun _ _ _ _ _ hb => hb) hs h

end Sys2Proof.Machine
end

section
/-! The raises that work on the tail lines makes: none of them is of GROUT_GAP, whose class counter stays (R61, R142). -/

namespace Sys2Proof.Machine

/-! ## The class counters -/

theorem raisedList_counters (s : State) (key : FaultKey) (mode : Nat) : (s.raisedList key mode).counters = s.fsv.counters := by
  unfold State.raisedList
  dsimp only
  split
  · rfl
  · split
    · rfl
    · split <;> rfl

theorem offerFirst_counters (s : State) (key : FaultKey) : (s.offerFirst key).fsv.counters = s.fsv.counters := by
  unfold State.offerFirst; split <;> rfl

theorem raiseUnder_counters (s : State) (key : FaultKey) (mode : Nat) :
    (s.raiseUnder key mode).fsv.counters = modAt s.fsv.counters key.cls fun n => addUpTo 32767 n 1 := by
  unfold State.raiseUnder
  dsimp only
  split
  · rw [setDomainEvent_fsv, setEvent_fsv, offerFirst_counters]
    exact raisedList_counters ..
  · exact raisedList_counters ..

/-- A raise counts up the counter of its class alone (R142). -/
theorem raise_counters (s : State) (key : FaultKey) :
    (s.raise key).fsv.counters = modAt s.fsv.counters key.cls fun n => addUpTo 32767 n 1 := by
  rw [State.raise, answerBlocked_fsv, announce_fsv, raiseUnder_counters]

theorem clearCondition_counters (s : State) (key : FaultKey) : (s.clearCondition key).fsv.counters = s.fsv.counters := by
  rw [State.clearCondition, announce_fsv]
  rfl

/-! ## GROUT_GAP's counter -/

/-- No GROUT_GAP has been counted between `s` and `t`. -/
structure NoGap (s t : State) : Prop where
  eq : t.fsv.counters[(6 : Fin 12)] = s.fsv.counters[(6 : Fin 12)]

namespace NoGap

theorem of_fsv {s t : State} (h : t.fsv = s.fsv) : NoGap s t := ⟨by rw [h]⟩

theorem refl (s : State) : NoGap s s := ⟨rfl⟩

theorem trans {s t u : State} (h : NoGap s t) (k : NoGap t u) : NoGap s u := ⟨k.eq.trans h.eq⟩

theorem foldl {α : Type} {f : State → α → State} (h : ∀ t a, NoGap t (f t a)) (l : List α) (s : State) :
    NoGap s (l.foldl f s) := foldl_along refl trans h l s

theorem setEvent (s : State) (e : Event) : NoGap s (s.setEvent e) := of_fsv rfl

theorem modLine (s : State) (p : LineIx) (f : Line → Line) : NoGap s (s.modLine p f) := of_fsv rfl

theorem judgeGrout (s : State) : NoGap s s.judgeGrout := of_fsv rfl

theorem report (s : State) {key : FaultKey} (h : key.cls ≠ 6) : NoGap s (s.report key) := by
  unfold State.report
  split
  · exact ⟨by rw [raise_counters, modAt_getElem_ne _ _ h]⟩
  · exact ⟨by rw [clearCondition_counters]⟩

/-- A line's phase decides measurements' and stations' conditions, none of GROUT_GAP's class. -/
theorem cls_of_mem_lineKeys {p : LineIx} {key : FaultKey} (h : key ∈ lineKeys p) : key.cls ≠ 6 := by
  simp only [lineKeys, List.mem_cons, List.not_mem_nil, or_false] at h
  rcases h with rfl | rfl | rfl
  · exact (by decide : (9 : Fin 12) ≠ 6)
  · exact (by decide : (9 : Fin 12) ≠ 6)
  · exact (by decide : (11 : Fin 12) ≠ 6)

theorem judgeKeys (s : State) {keys : List FaultKey} (h : ∀ key ∈ keys, key.cls ≠ 6) : NoGap s (s.judgeKeys keys) := by
  unfold State.judgeKeys
  induction keys generalizing s with
  | nil => exact refl s
  | cons key keys ih =>
    rw [List.foldl_cons]
    have hfirst := ite_along (c := (s.condition key != s.fsv.marked key) = true) (report s (h key List.mem_cons_self)) (refl s)
    exact hfirst.trans (ih _ fun k hk => h k (List.mem_cons_of_mem _ hk))

theorem enterPhase (s : State) (p : LineIx) (ph : Phase) : NoGap s (s.enterPhase p ph) :=
  (modLine s p _).trans (judgeKeys _ fun _ => cls_of_mem_lineKeys)

theorem testLimit (s : State) (p : LineIx) : NoGap s (s.testLimit p) :=
  ite_along ((enterPhase s p .limit).trans (modLine _ p _)) (refl s)

theorem testResume (s : State) (p : LineIx) : NoGap s (s.testResume p) :=
  ite_along ((enterPhase s p .flow).trans (testLimit _ p)) (refl s)

theorem testSatisfied (s : State) (p : LineIx) : NoGap s (s.testSatisfied p) :=
  ite_along ((enterPhase s p .satisfied).trans ((setEvent _ _).trans (testResume _ p))) (refl s)

theorem testPrimed (s : State) (p : LineIx) : NoGap s (s.testPrimed p) :=
  ite_along ((enterPhase s p .flow).trans ((testLimit _ p).trans (testSatisfied _ p))) (refl s)

theorem startLine (s : State) (p : LineIx) : NoGap s (s.startLine p) :=
  ite_along (enterPhase s p .held) (ite_along (enterPhase s p .idle)
    ((modLine s p fun l => { l with sinceOpen := 0 }).trans ((enterPhase _ p .prime).trans (testPrimed _ p))))

theorem takeDeficit (s : State) (p : LineIx) : NoGap s (s.takeDeficit p) := by
  have hsetpoint (t : State) : NoGap t (t.judgeSetpoint p) := ite_along (modLine t p _) (refl t)
  exact (modLine s p _).trans ((hsetpoint _).trans ((testSatisfied _ p).trans (testResume _ p)))

theorem windowNotice (s : State) (was now : Bool) (p : LineIx) : NoGap s (s.windowNotice was now p) := by
  have hopened : NoGap s (s.takeOpening p) := ite_along (startLine s p) (refl s)
  have hclosed : NoGap s (s.idleLine p) := ite_along (enterPhase s p .idle) (refl s)
  unfold State.windowNotice
  split
  · exact hopened.trans (judgeGrout _)
  · exact hclosed.trans (judgeGrout _)
  · exact refl s

end NoGap

end Sys2Proof.Machine
end

section
/-! An accrual: its steps, the publication of the deficits, the notices, and the raise of GROUT_GAP (R56, R57, R60, R61). -/

namespace Sys2Proof.Machine

/-! ## After the steps -/

/-- The six deficits of an accrual have been published, and each line and L_grout judged by them (R56, R101, R104, R112). -/
def State.published (s : State) (new : Nat) : State := (allLines.foldl State.takeDeficit (s.accrueSteps new)).judgeGrout

/-- The window notices of an accrual have been taken (R56). -/
def State.noticed (s : State) (new : Nat) : State :=
  allLines.foldl (fun u p => u.windowNotice (s.account p).window ((s.accrueSteps new).account p).window p) (s.published new)

/-- Both points of the line's window are crossed by an accrual up to `new` (R57). -/
def State.skipsWindow (s : State) (new : Nat) (p : LineIx) : Bool :=
  (s.crossing s.act.aAcc new p).opening && (s.crossing s.act.aAcc new p).closing

/-- An accrual, but for the raise of GROUT_GAP (R56). -/
def State.gapUnraised (s : State) (new : Nat) : State :=
  allLines.foldl (fun u p => if s.skipsWindow new p then u.setEvent .windowSkipped else u) (s.noticed new)

section
variable (s : State) (new : Nat)

theorem published_work : LineWork (s.accrueSteps new) (s.published new) := LineWork.takeDeficits _

theorem noticed_work : LineWork (s.accrueSteps new) (s.noticed new) :=
  (published_work s new).trans (LineWork.foldl (fun u p => .windowNotice u _ _ p) _ _)

theorem gapUnraised_work : LineWork (s.accrueSteps new) (s.gapUnraised new) :=
  (noticed_work s new).trans (LineWork.foldl (fun u _ => ite_along (.setEvent u _) (.refl u)) _ _)

theorem gapUnraised_noGap : NoGap s (s.gapUnraised new) := by
  have hsteps : NoGap s (s.accrueSteps new) := .of_fsv (by rw [accrueSteps_state])
  have hpublished : NoGap s (s.published new) := hsteps.trans ((NoGap.foldl NoGap.takeDeficit _ _).trans (.judgeGrout _))
  have hnoticed : NoGap s (s.noticed new) := hpublished.trans (NoGap.foldl (fun u p => .windowNotice u _ _ p) _ _)
  exact hnoticed.trans (NoGap.foldl (fun u _ => ite_along (.setEvent u _) (.refl u)) _ _)

theorem LineWork.act_eq {s t : State} (h : LineWork s t) : t.act = s.act := (congrArg State.act h.eq :)

/-- GROUT_GAP is raised where the flag of the ring comes to be set (R61). -/
theorem accrue_eq :
    s.accrue new =
      if s.act.gapRaised = false ∧ (s.accrueSteps new).act.gapRaised = true then (s.gapUnraised new).raise .groutGap
      else s.gapUnraised new := by
  have hwindows (p : LineIx) : (((s.accrueSteps new).takeDeficits).account p).window = ((s.accrueSteps new).account p).window := by
    rw [State.account, (LineWork.takeDeficits (s.accrueSteps new)).act_eq]
    rfl
  have haccrue : s.accrue new =
      if (s.gapUnraised new).act.gapRaised && !s.act.gapRaised then (s.gapUnraised new).raise .groutGap else s.gapUnraised new := by
    unfold State.accrue
    simp only [hwindows]
    rfl
  rw [haccrue, (gapUnraised_work s new).act_eq]
  cases s.act.gapRaised <;> simp

theorem accrue_act : (s.accrue new).act = (s.accrueSteps new).act := (LineWork.accrue_of_steps s new).act_eq

theorem gapUnraised_windowSkipped {p : LineIx} (h : s.skipsWindow new p = true) :
    (s.gapUnraised new).eventSet .windowSkipped = true := by
  obtain ⟨l, l', hsplit, -, -⟩ := allLines_split p
  rw [State.gapUnraised, hsplit, List.foldl_append, List.foldl_cons, if_pos h]
  exact (LineWork.foldl (fun u _ => ite_along (.setEvent u _) (.refl u)) _ _).events _ (setEvent_eventSet _ _ _ (.inl rfl))

theorem accrue_windowSkipped {p : LineIx} (h : s.skipsWindow new p = true) :
    (s.accrue new).eventSet .windowSkipped = true := by
  rw [accrue_eq]
  split
  · exact (FaultWork.raise _ _).events _ (gapUnraised_windowSkipped s new h)
  · exact gapUnraised_windowSkipped s new h

/-! ## The raise of GROUT_GAP -/

/-- An accrual finds the gap of R61: U passes GAP_LIMIT for the first time in the ring. -/
def State.findsGap (s : State) (new : Nat) : Prop :=
  s.act.gapRaised = false ∧ s.item .gapLimit * 65536 < (s.accrueSteps new).act.unassigned

theorem accrueSteps_gapRaised :
    (s.accrueSteps new).act.gapRaised = true ↔ s.act.gapRaised = true ∨ s.findsGap new := by
  rw [State.findsGap, accrueSteps_unassigned, show (s.accrueSteps new).act.gapRaised = _ from congrArg Accounts.gapRaised (accrueSteps_act s new)]
  simp [State.accounted]

theorem accrue_of_gap (h : s.findsGap new) : s.accrue new = (s.gapUnraised new).raise .groutGap := by
  rw [accrue_eq, if_pos ⟨h.1, (accrueSteps_gapRaised s new).mpr (.inr h)⟩]

theorem accrue_of_no_gap (h : ¬s.findsGap new) : s.accrue new = s.gapUnraised new := by
  rw [accrue_eq, if_neg]
  rintro ⟨hclear, hset⟩
  exact ((accrueSteps_gapRaised s new).mp hset).elim (by simp [hclear]) h

/-- GROUT_GAP is counted where the gap is found, and only there (R61, R142). -/
theorem accrue_gapCounter :
    (s.findsGap new → (s.accrue new).fsv.counters[(6 : Fin 12)] = min 32767 (s.fsv.counters[(6 : Fin 12)] + 1)) ∧
    (¬s.findsGap new → (s.accrue new).fsv.counters[(6 : Fin 12)] = s.fsv.counters[(6 : Fin 12)]) := by
  refine ⟨fun h => ?_, fun h => ?_⟩
  · have hcounted := modAt_getElem_self (s.gapUnraised new).fsv.counters (6 : Fin 12) fun n => addUpTo 32767 n 1
    rw [accrue_of_gap s new h, raise_counters]
    exact hcounted.trans (by rw [(gapUnraised_noGap s new).eq]; rfl)
  · rw [accrue_of_no_gap s new h, (gapUnraised_noGap s new).eq]

/-! ## The windows and the open set -/

/-- A window is OPEN after an accrual that crosses no closing point of it, where it was or the opening point is crossed (R57). -/
theorem accrueSteps_window (p : LineIx) :
    ((s.accrueSteps new).account p).window = true ↔
      ¬(s.act.aAcc < s.item (.windowClose p) ∧ s.item (.windowClose p) ≤ new) ∧
      ((s.account p).window = true ∨ (s.act.aAcc < s.item (.windowOpen p) ∧ s.item (.windowOpen p) ≤ new)) := by
  rw [accrueSteps_account]
  simp only [Crossing.window, State.crossing, crossed, Bool.and_eq_true, Bool.or_eq_true, Bool.not_eq_true', decide_eq_true_eq,
    decide_eq_false_iff_not]
  exact And.comm

/-- The open set of an accrual's distribution, by the windows as they stand after it (R60). -/
theorem windowsMoved_inOpenSet (p : LineIx) :
    (s.windowsMoved new).inOpenSet p =
      (((s.accrueSteps new).account p).window && decide (0 < s.item (.weight p)) && (s.line p).phase != .out) := by
  have haccount : (s.windowsMoved new).account p =
      { s.account p with window := (s.crossing s.act.aAcc new p).window (s.account p).window } :=
    mapIx_getElem s.act.lines (fun p (l : LineAccount) =>
      ({ l with window := (s.crossing s.act.aAcc new p).window l.window } : LineAccount)) p
  rw [State.inOpenSet, haccount, accrueSteps_account]
  rfl

theorem accrueSteps_target (p : LineIx) :
    ((s.accrueSteps new).account p).target = (s.account p).target + s.gains new p := by rw [accrueSteps_account]

end

/-! ## The statement -/

/-- The deficit that an accrual publishes for a line, and its flags (R63, R65, R66). -/
theorem accrueSteps_deficit (s : State) (new : Nat) (p : LineIx) :
    ((s.accrueSteps new).account p).deficit =
      deficitOf (s.item .rounding) ((s.accrueSteps new).account p).target
        ((s.whole ((s.accrueSteps new).account p).target : Int) + (s.line p).carry - (s.line p).delivered) := by
  rw [accrueSteps_account]

/-- Settles O35: the distribution of the volume is `State.receives` and `State.spare`, and what follows the steps of an accrual leaves
the accounts as the steps have made them. -/
theorem accrualsPlaceTheWholeVolume : Obligations.AccrualsPlaceTheWholeVolume := by
  refine ⟨⟨?places, ?shares⟩, ?publishes⟩
  case places =>
    intro s new _ t v member total
    have hmember : member = (s.windowsMoved new).inOpenSet := funext fun p => (windowsMoved_inOpenSet s new p).symm
    have htotal : total = (s.windowsMoved new).weightSum :=
      congrArg (fun c => ((allLines.filter c).map fun p => s.item (.weight p)).sum) hmember
    have hstate := accrueSteps_state s new
    rw [hmember, htotal]
    refine ⟨accrueSteps_window s new, accrueSteps_aAcc s new, congrArg Accounts.expected (accrueSteps_act s new), fun p hp => ?_,
      fun p hp => ?_, ?_, ?_, (congrArg State.gru hstate :), (congrArg State.groups hstate :), (congrArg State.fsv hstate :)⟩
    · rw [accrueSteps_target, State.gains, receives_of_closed _ hp, Nat.add_zero]
    · rw [accrueSteps_target, State.gains, State.receives, if_pos hp]
      exact Nat.add_le_add_left (Nat.le_add_right _ _) _
    · rw [sum_allLines, sum_allLines]
      exact accrueSteps_sum s new
    · rw [accrueSteps_unassigned, State.leftOver, State.spare]
      split <;> rfl
  case shares =>
    intro s new _ t v weight member members total shares first
    have hmember : member = (s.windowsMoved new).inOpenSet := funext fun p => (windowsMoved_inOpenSet s new p).symm
    have hmembers : members = (s.windowsMoved new).openSet := congrArg (fun c => allLines.filter c) hmember
    have htotal : total = (s.windowsMoved new).weightSum := congrArg (fun l => (l.map weight).sum) hmembers
    have hshares : shares = ((s.windowsMoved new).openSet.map ((s.windowsMoved new).share v)).sum := by
      rw [← hmembers]
      exact congrArg (fun n => (members.map fun p => v * weight p / n).sum) htotal
    have hfirst (p : LineIx) : first p ↔ (s.windowsMoved new).leads p := by
      unfold first
      rw [hmember]
      rfl
    have hact : (s.accrue new).act = t.act := accrue_act s new
    refine ⟨fun p hp => ⟨fun hl => ?_, fun hl => ?_⟩, ?_, congrArg Accounts.unassigned hact, accrue_aAcc s new,
      congrArg Accounts.expected hact, fun p => congrArg (fun a : Accounts => a.lines[p].target) hact,
      (accrue_gapCounter s new).1, (accrue_gapCounter s new).2, fun p ho hno hc hnc => accrue_windowSkipped s new (p := p) ?_⟩
    · rw [accrueSteps_target, State.gains, receives_of_leads _ ((hfirst p).mp hl), htotal, hshares, ← Nat.add_assoc]
      rfl
    · rw [accrueSteps_target, State.gains, receives_of_open _ (hmember ▸ hp) (mt (hfirst p).mpr hl), htotal]
      rfl
    · rw [hact]
      exact accrueSteps_gapRaised s new
    · simp [State.skipsWindow, State.crossing, crossed, ho, hno, hc, hnc]
  case publishes =>
    intro s new _ t cross
    refine ⟨fun p => ?_, ?_⟩
    · intro x whole sum d
      have hsum : (s.whole x : Int) + (s.line p).carry - (s.line p).delivered = sum :=
        congrArg (fun n : Nat => (n : Int) + (s.line p).carry - (s.line p).delivered) (wholePart_eq (s.item .rounding) x)
      have hd : d = deficitOf (s.item .rounding) x sum := hsum ▸ accrueSteps_deficit s new p
      obtain ⟨hz, hn, hv, hc⟩ := deficitOf_flags (s.item .rounding) x sum
      rw [← hd] at hz hn hv hc
      exact ⟨by rw [hd]; rfl, hz, hn, hv, hc, congrArg (fun a : Accounts => a.lines[p].deficit) (accrue_act s new)⟩
    · intro published noticed skipped
      have hcross : (fun p => cross (s.item (.windowOpen p)) && cross (s.item (.windowClose p))) = s.skipsWindow new := by
        funext p
        simp [cross, State.skipsWindow, State.crossing, crossed]
      have hskipped : skipped = s.gapUnraised new :=
        congrArg (fun c : LineIx → Bool => allLines.foldl (fun u p => if c p then u.setEvent .windowSkipped else u) noticed) hcross
      rw [hskipped]
      exact accrue_eq s new

end Sys2Proof.Machine
end

section
/-! The items of the configuration set, and CONFIGURE of one item (R168 to R172). -/

namespace Sys2Proof.Machine

/-! ## Items and their values -/

theorem ofCode_code (i : Item) : Item.ofCode i.code = some i := by
  cases i with
  | weight p | windowOpen p | windowClose p => fin_cases p <;> rfl
  | faultMode c => fin_cases c <;> rfl
  | freshLimit m | novalPolicy m => fin_cases m <;> rfl
  | _ => rfl

theorem allItems_idx (i : Item) : allItems[i.idx.val]? = some i := by
  cases i with
  | weight p | windowOpen p | windowClose p => fin_cases p <;> rfl
  | faultMode c => fin_cases c <;> rfl
  | freshLimit m | novalPolicy m => fin_cases m <;> rfl
  | _ => rfl

theorem Item.idx_inj {i j : Item} (h : i.idx = j.idx) : i = j :=
  Option.some_inj.mp ((allItems_idx i).symm.trans (h ▸ allItems_idx j))

theorem code_lt (i : Item) : i.code < 2 ^ 15 := by
  cases i <;> simp only [Item.code] <;> omega

theorem itemValue_putItem_self (cfg : ConfigSet) (i : Item) (v : Nat) : itemValue (putItem cfg i v) i = v := by
  simp [itemValue, putItem]

theorem itemValue_putItem_ne (cfg : ConfigSet) {i j : Item} (v : Nat) (h : i ≠ j) :
    itemValue (putItem cfg i v) j = itemValue cfg j := by
  have hplace : i.idx.val ≠ j.idx.val := fun he => h (Item.idx_inj (Fin.ext he))
  simp [itemValue, putItem, hplace]

/-- An item given the value that it has leaves the set as it is. -/
theorem putItem_itemValue (cfg : ConfigSet) (i : Item) : putItem cfg i (itemValue cfg i) = cfg :=
  Vector.set_getElem_self i.idx.isLt

/-- The part with one item at a value. -/
def State.putting (s : State) (i : Item) (v : Nat) : State := { s with config := putItem s.config i v }

theorem putting_item_self (s : State) (i : Item) (v : Nat) : (s.putting i v).item i = v := itemValue_putItem_self ..

theorem putting_item_ne (s : State) {i j : Item} (v : Nat) (h : i ≠ j) : (s.putting i v).item j = s.item j :=
  itemValue_putItem_ne _ v h

theorem putting_present (s : State) (i : Item) : s.putting i (s.item i) = s := by
  unfold State.putting State.item
  rw [putItem_itemValue]

/-! ## The checks -/

section
variable {s : State} {i : Item} {x : Payload}

/-- The pair of a data word of CONFIGURE that gives an item a value. -/
def Item.pair (i : Item) (x : Payload) : Payload × Payload := (BitVec.ofNat 15 i.code, x)

theorem pairItem_pair (i : Item) (x : Payload) : pairItem (i.pair x) = some i := by
  have hcode : (BitVec.ofNat 15 i.code).toNat = i.code := by
    rw [BitVec.toNat_ofNat, Nat.mod_eq_of_lt (code_lt i)]
  unfold pairItem Item.pair
  rw [hcode, ofCode_code]

theorem putPair_pair (cfg : ConfigSet) (i : Item) (x : Payload) : putPair cfg (i.pair x) = putItem cfg i x.toNat := by
  rw [putPair, pairItem_pair]
  rfl

theorem pairModeAllowed_pair (h : ∀ c : Fin 12, i = .faultMode c → c = 3 ∨ c = 11 → x.toNat ≠ 3 ∧ x.toNat ≠ 7) :
    pairModeAllowed (i.pair x) = true := by
  rw [pairModeAllowed, pairItem_pair]
  split
  · next c hc =>
    cases hc
    by_cases hclass : c = 3 ∨ c = 11
    · obtain ⟨h3, h7⟩ := h c rfl hclass
      have hthree : x ≠ 3#15 := fun he => h3 (congrArg BitVec.toNat he)
      have hseven : x ≠ 7#15 := fun he => h7 (congrArg BitVec.toNat he)
      simp [Item.pair, hthree, hseven]
    · obtain ⟨h3, h11⟩ := not_or.mp hclass
      simp [h3, h11]
  · rfl

/-- Checks that all hold leave none to answer. -/
theorem firstFailing_of_forall {l : List (Bool × Reply)} (h : ∀ c ∈ l, c.1 = true) : firstFailing l = none := by
  induction l with
  | nil => rfl
  | cons c l ih =>
    obtain ⟨ok, r⟩ := c
    have hok : ok = true := h _ List.mem_cons_self
    rw [hok]
    exact ih fun d hd => h d (List.mem_cons_of_mem _ hd)

/-- A change that CONFIGURE may make passes its checks (R169 to R171). -/
theorem configChecks_pass (h : s.mayChange i x.toNat) : firstFailing (s.configChecks [i.pair x]) = none := by
  obtain ⟨hrange, hmode, hring, hwindow, hdeficit, hface, hstands⟩ := h
  have hset : resultingSet s.config [i.pair x] = putItem s.config i x.toNat := putPair_pair ..
  have hnames : namesStandstill [i.pair x] = !i.running := by simp [namesStandstill, pairItem_pair]
  have hadmitted : pairAdmitted (i.pair x) = true := by
    rw [pairAdmitted, pairItem_pair]
    exact hrange
  have hcycle : (!namesStandstill [i.pair x] || !s.adu.cycle.underWay) = true := by
    rw [hnames]
    cases hrun : i.running with
    | true => rfl
    | false => simpa using mt (underWay_iff _).mp (hstands hrun).1
  have hbuild : (!namesStandstill [i.pair x] || s.rbu.record.state != .building) = true := by
    rw [hnames]
    cases hrun : i.running with
    | true => rfl
    | false => simpa using (hstands hrun).2
  refine firstFailing_of_forall ?_
  unfold State.configChecks formChecks crossChecks State.standstillChecks
  rw [hset]
  simp [pairItem_pair, hadmitted, pairModeAllowed_pair hmode, hring, hwindow, hdeficit, hface]
  exact ⟨by simpa using hcycle, by simpa using hbuild⟩

end

end Sys2Proof.Machine
end

section
/-! The responses to CONFIGURE item by item: what one changed item sets going (R172, Table 10-3). -/

namespace Sys2Proof.Machine

/-! ## The response to one item -/

/-- The blocks' response to a change of an item (Table 10-3); the items not named here have none. -/
def State.respondTo (s : State) : Item → State
  | .novalPolicy m => s.changePolicy m
  | .rounding => s.judgeDeficits.takeDeficits
  | .flowSpan => allLines.foldl State.judgeSetpoint s
  | .deficitLow | .deficitHigh => s.judgeGrout
  | .primeVolume => allLines.foldl State.testPrimed s
  | .stallTime => s.emptyHistories
  | .carReserve => s.testCarDue
  | .carOverfill => s.judgePermit
  | .muckLag => s.trimDelayLine
  | .freshLimit m => if s.tooOld m then s.enterStale m else s
  | .faultMode c => s.reviseClass c
  | _ => s

/-- The items that have a response of their own, in the order of the responses (log entry 28). -/
def respondingItems : List Item :=
  allMeas.map .novalPolicy ++ [.rounding, .flowSpan, .deficitLow, .deficitHigh, .primeVolume, .stallTime, .carReserve, .carOverfill,
    .muckLag] ++ allMeas.map .freshLimit ++ (List.finRange 12).map .faultMode

theorem respond_eq_foldl (s : State) (old : ConfigSet) (pairs : List (Payload × Payload)) :
    s.respond old pairs =
      respondingItems.foldl (fun t i => t.onChange old i fun u => u.respondTo i) (s.onCoefficients pairs) := by
  simp only [respondingItems, List.foldl_append, List.foldl_map, List.foldl_cons, List.foldl_nil]
  rfl

theorem respondTo_of_not_mem {s : State} {i : Item} (h : i ∉ respondingItems) : s.respondTo i = s := by
  cases i with
  | novalPolicy m | freshLimit m => exact absurd (by fin_cases m <;> decide) h
  | faultMode c => exact absurd (by fin_cases c <;> decide) h
  | rounding | flowSpan | deficitLow | deficitHigh | primeVolume | stallTime | carReserve | carOverfill | muckLag =>
    exact absurd (by decide) h
  | _ => rfl

/-! ## The configuration set under the responses -/

theorem config_of_direct {s t : State} (h : t.direct = s.direct) : t.config = s.config := congrArg Direct.config h

theorem enterStale_config (s : State) (m : MeasIx) : (s.enterStale m).config = s.config :=
  congrArg Guarded.config (guarded_enterStale s m)

theorem respondTo_config (s : State) (i : Item) : (s.respondTo i).config = s.config := by
  unfold State.respondTo
  split
  · unfold State.changePolicy
    dsimp only
    split
    · split <;> rfl
    · rfl
  · exact config_of_direct (by simp)
  · exact config_of_direct (direct_foldl _ _ (fun t p => direct_judgeSetpoint t p) _)
  · exact config_of_direct (direct_judgeGrout s)
  · exact config_of_direct (direct_judgeGrout s)
  · exact config_of_direct (direct_foldl _ _ (fun t p => direct_testPrimed t p) _)
  · rfl
  · exact congrArg Guarded.config (Downstream.testCarDue s).guarded
  · exact config_of_direct (direct_judgePermit s)
  · rfl
  · split
    · exact enterStale_config s _
    · rfl
  · exact config_of_direct (direct_foldl _ _ (fun t k => direct_reviseReported t k) _)
  · rfl

/-! ## One changed item -/

theorem onChange_of_present {s : State} {old : ConfigSet} (h : s.config = old) (i : Item) (f : State → State) :
    s.onChange old i f = s := onChange_same (by rw [State.item, h])

theorem foldl_fixed {α : Type} {s : State} {f : State → α → State} {l : List α} (h : ∀ a ∈ l, f s a = s) : l.foldl f s = s := by
  induction l with
  | nil => rfl
  | cons a l ih =>
    rw [List.foldl_cons, h a List.mem_cons_self]
    exact ih fun b hb => h b (List.mem_cons_of_mem _ hb)

/-- Where no item has changed there is no response. -/
theorem responses_unchanged {s : State} {old : ConfigSet} (h : s.config = old) (l : List Item) :
    l.foldl (fun t i => t.onChange old i fun u => u.respondTo i) s = s := foldl_fixed fun i _ => onChange_of_present h i _

/-- Where one item has changed its response is the only one (R172). -/
theorem responses_changed {s : State} {old : ConfigSet} {i : Item} {v : Nat} (h : s.config = putItem old i v) (hv : v ≠ itemValue old i) :
    respondingItems.foldl (fun t j => t.onChange old j fun u => u.respondTo j) s = s.respondTo i := by
  have hother {t : State} (ht : t.config = s.config) {l : List Item} (hl : i ∉ l) :
      l.foldl (fun t j => t.onChange old j fun u => u.respondTo j) t = t := by
    refine foldl_fixed fun j hj => onChange_same ?_
    rw [State.item, ht, h, itemValue_putItem_ne _ _ fun he : i = j => hl (he ▸ hj)]
  by_cases hmem : i ∈ respondingItems
  · obtain ⟨l, l', hsplit⟩ := List.append_of_mem hmem
    have hnodup : (l ++ i :: l').Nodup := hsplit ▸ (by decide : respondingItems.Nodup)
    obtain ⟨-, hrest, hbefore⟩ := List.nodup_append.mp hnodup
    have hl : i ∉ l := fun hi => hbefore i hi i List.mem_cons_self rfl
    have hl' : i ∉ l' := (List.nodup_cons.mp hrest).1
    have hchanged : itemValue old i ≠ s.item i := by
      rw [State.item, h, itemValue_putItem_self]
      exact hv.symm
    rw [hsplit, List.foldl_append, hother rfl hl, List.foldl_cons, onChange_changed hchanged]
    exact hother (respondTo_config s i) hl'
  · rw [hother rfl hmem, respondTo_of_not_mem hmem]

/-! ## CONFIGURE of one item -/

/-- The items from which the coefficients are computed (R51). -/
def coefficientItems : List Item := [.boreDiameter, .ringOd, .muckDensity]

theorem onCoefficients_pair (s : State) (i : Item) (x : Payload) :
    s.onCoefficients [i.pair x] = if i ∈ coefficientItems then s.recomputeCoefficients else s := by
  unfold State.onCoefficients coefficientItems
  simp [pairItem_pair]

section
variable {s : State} {i : Item} {x : Payload} (h : s.ready .cabin = true) (hchange : (s.attended .cabin).mayChange i x.toNat)
include h hchange

/-- What a CONFIGURE of one item sets going is followed to its end, after its answer (R172). -/
theorem exec_configure_pair :
    exec (.configure [i.pair x]) s =
      .next (((((s.attended .cabin).putting i x.toNat).respond (s.attended .cabin).config [i.pair x]).answer .cabin 1
        .accepted).settled) := by
  have howner : (s.attended .cabin).requestConfigure [i.pair x] =
      (((s.attended .cabin).putting i x.toNat).respond (s.attended .cabin).config [i.pair x], .accepted) := by
    have hset : resultingSet (s.attended .cabin).config [i.pair x] = putItem (s.attended .cabin).config i x.toNat := putPair_pair ..
    rw [State.requestConfigure, configChecks_pass hchange, hset]
    rfl
  exact run_request_settled h howner

/-- An item without coefficients that takes a new value sets its response going. -/
theorem exec_configure_changed (hi : i ∉ coefficientItems) (hv : x.toNat ≠ (s.attended .cabin).item i) :
    exec (.configure [i.pair x]) s =
      .next (((((s.attended .cabin).putting i x.toNat).respondTo i).answer .cabin 1 .accepted).settled) := by
  rw [exec_configure_pair h hchange, respond_eq_foldl, onCoefficients_pair, if_neg hi,
    responses_changed (i := i) (v := x.toNat) rfl hv]

/-- An item without coefficients that is given its present value sets nothing going. -/
theorem exec_configure_present (hi : i ∉ coefficientItems) (hv : x.toNat = (s.attended .cabin).item i) :
    exec (.configure [i.pair x]) s = .next (((s.attended .cabin).answer .cabin 1 .accepted).settled) := by
  rw [exec_configure_pair h hchange, hv, putting_present, respond_eq_foldl, onCoefficients_pair, if_neg hi, responses_unchanged rfl]

/-- An item of the coefficients has them computed again, whether it changes or not (R51, R172). -/
theorem exec_configure_coefficients (hi : i ∈ coefficientItems) :
    exec (.configure [i.pair x]) s =
      .next (((((s.attended .cabin).putting i x.toNat).recomputeCoefficients).answer .cabin 1 .accepted).settled) := by
  have hresponses : respondingItems.foldl (fun t j => t.onChange (s.attended .cabin).config j fun u => u.respondTo j)
      ((s.attended .cabin).putting i x.toNat).recomputeCoefficients = ((s.attended .cabin).putting i x.toNat).recomputeCoefficients := by
    by_cases hv : x.toNat = (s.attended .cabin).item i
    · rw [hv, putting_present]
      exact responses_unchanged (s := (s.attended .cabin).recomputeCoefficients) rfl _
    · rw [responses_changed (i := i) (v := x.toNat) rfl hv]
      refine respondTo_of_not_mem fun hmem => ?_
      have hapart : ∀ j ∈ coefficientItems, j ∉ respondingItems := by decide
      exact hapart i hi hmem
  rw [exec_configure_pair h hchange, respond_eq_foldl, onCoefficients_pair, if_pos hi, hresponses]

end

end Sys2Proof.Machine
end

section
/-! The responses of Table 10-3 as changes of the records, and a REPORTED entry that is given a stop mode (R113, R133, R149). -/

namespace Sys2Proof.Machine

/-! ## The tail lines -/

/-- FLOW_SPAN: S is judged again in every line in FLOW (R101). -/
theorem judgeSetpoints_eq (s : State) :
    allLines.foldl State.judgeSetpoint s = s.withLines (mapIx s.gru.lines fun p l =>
      if l.phase = .flow then { l with setpoint := flowSetpoint (s.deficit p) (s.item .flowSpan) } else l) := by
  refine foldl_allLines (mk := s.withLines) (v := s.gru.lines) fun u p _ _ => ?_
  have hjudged : (s.withLines u).judgeSetpoint p =
      if u[p].phase = .flow then
        s.withLines (modAt u p fun l => { l with setpoint := flowSetpoint (s.deficit p) (s.item .flowSpan) })
      else s.withLines u := if_congr beq_iff_eq rfl rfl
  rw [hjudged]
  split
  · next h => exact congrArg s.withLines (modAt_congr (if_pos h).symm)
  · next h => exact congrArg s.withLines (modAt_fixed (if_neg h)).symm

/-- PRIME_VOLUME: each line in PRIME that has had the volume enters FLOW (R100). -/
theorem testPrimed_lines (s : State) :
    allLines.foldl State.testPrimed s = allLines.foldl (fun t p =>
      if (t.line p).phase = .prime ∧ s.item .primeVolume ≤ (t.line p).sinceOpen then t.enterFlow p else t) s := by
  suffices h : ∀ (l : List LineIx) (t : State), t.config = s.config →
      l.foldl State.testPrimed t = l.foldl (fun t p =>
        if (t.line p).phase = .prime ∧ s.item .primeVolume ≤ (t.line p).sinceOpen then t.enterFlow p else t) t from h _ s rfl
  intro l
  induction l with
  | nil => exact fun _ _ => rfl
  | cons p l ih =>
    intro t ht
    have hitem : t.item .primeVolume = s.item .primeVolume := by rw [State.item, ht]; rfl
    have hturn : t.testPrimed p =
        if (t.line p).phase = .prime ∧ s.item .primeVolume ≤ (t.line p).sinceOpen then t.enterFlow p else t := by
      rw [State.testPrimed, hitem]
      simp
    rw [List.foldl_cons, List.foldl_cons, ← hturn]
    exact ih _ ((config_of_direct (direct_testPrimed t p)).trans ht)

theorem emptyHistories_eq (s : State) :
    s.emptyHistories =
      s.withLines (mapIx s.gru.lines fun _ l => if l.phase = .limit then { l with stallHistory := [], secondCount := 0 } else l) := by
  unfold State.emptyHistories State.withLines
  simp only [beq_iff_eq]

/-! ## The measurement records -/

theorem tooOld_iff (s : State) (m : MeasIx) :
    s.tooOld m = true ↔ (s.meas m).state = .fresh ∧ (s.meas m).age.any (fun a => decide (s.item (.freshLimit m) < a)) = true := by
  unfold State.tooOld
  cases (s.meas m).age <;> simp

theorem modMeas_congr {s : State} {m : MeasIx} {f f' : MeasRecord → MeasRecord} (h : f (s.meas m) = f' (s.meas m)) :
    s.modMeas m f = s.modMeas m f' :=
  congrArg (fun v => ({ s with mst := { s.mst with records := v } } : State)) (modAt_congr (t := s.mst.records) (i := m) h)

/-- The record supplies a held value: STALE, of a level, under the policy HOLD (R133). -/
def State.holds (s : State) (m : MeasIx) : Bool :=
  decide ((s.meas m).state = .stale ∧ m.val < 8 ∧ s.item (.novalPolicy m) = 1)

theorem judgeDegraded_eq (s : State) (m : MeasIx) :
    s.judgeDegraded m = s.modMeas m fun r => { r with degraded := s.holds m } := by
  refine modMeas_congr ?_
  have hheld : ((s.meas m).state == .stale && !isCounter m && s.item (.novalPolicy m) == 1) = s.holds m := by
    unfold State.holds isCounter
    rw [Bool.eq_iff_iff]
    simp [and_assoc]
  rw [hheld]

/-- A change of NOVAL_POLICY that makes a line's pressure held withholds it from the GRU (R133). -/
theorem changePolicy_of_held {s : State} {m : MeasIx} {p : LineIx} (hbefore : (s.meas m).degraded = false) (hheld : s.holds m = true)
    (hp : m.val = 2 + p.val) :
    s.changePolicy m = (s.judgeDegraded m).modLine p fun l => { l with pressureWithheld := true } := by
  have hjudged : ((s.judgeDegraded m).meas m).degraded = true := by
    rw [judgeDegraded_eq, modMeas_meas, if_pos rfl]
    exact hheld
  have hpressure : 2 ≤ m.val ∧ m.val < 8 := by omega
  have hline : (⟨m.val - 2, by omega⟩ : LineIx) = p := Fin.ext (by simp [hp])
  unfold State.changePolicy
  rw [dif_pos hpressure, hjudged, hbefore, hline]
  rfl

/-- Otherwise a change of NOVAL_POLICY changes the record alone. -/
theorem changePolicy_of_supplied {s : State} {m : MeasIx} (h : s.holds m = false ∨ m.val < 2 ∨ 8 ≤ m.val) :
    s.changePolicy m = s.judgeDegraded m := by
  have hjudged : ((s.judgeDegraded m).meas m).degraded = s.holds m := by
    rw [judgeDegraded_eq, modMeas_meas, if_pos rfl]
  unfold State.changePolicy
  dsimp only
  split
  · next hpressure =>
    rw [hjudged, h.resolve_right (by omega)]
    rfl
  · rfl

/-! ## The REPORTED entries of a class -/

theorem Faults.find_key {f : Faults} {key : FaultKey} {e : FaultEntry} (h : f.find key = some e) : e.key = key :=
  beq_iff_eq.mp (List.find?_some (p := fun x : FaultEntry => x.key == key) h)

/-- Only a REPORTED entry of a class with a stop mode is revised (R149). -/
theorem reviseReported_fixed {s : State} {key : FaultKey}
    (h : 3 ≤ s.faultMode key ∨ ∀ e ∈ s.fsv.entries, e.key = key → e.state ≠ .reported) : s.reviseReported key = s := by
  unfold State.reviseReported
  dsimp only
  split
  · next e he =>
    refine if_neg fun hrevised => ?_
    simp only [Bool.and_eq_true, beq_iff_eq, decide_eq_true_eq] at hrevised
    rcases h with hmode | hnone
    · omega
    · exact hnone e (List.mem_of_find?_eq_some he) (Faults.find_key he) hrevised.1
  · rfl

theorem reviseClass_fixed {s : State} {c : Fin 12}
    (h : 3 ≤ s.item (.faultMode c) ∨ ∀ e ∈ s.fsv.entries, e.key.cls = c → e.state ≠ .reported) : s.reviseClass c = s := by
  refine foldl_fixed fun key hkey => reviseReported_fixed ?_
  have hclass : key.cls = c := beq_iff_eq.mp (List.mem_filter.mp hkey).2
  refine h.imp (fun hmode => ?_) fun hnone e he hk => hnone e he (by rw [hk, hclass])
  rw [State.faultMode, hclass]
  exact hmode

/-- A class with one entry has that entry revised. -/
theorem reviseClass_single {s : State} {c : Fin 12} {e : FaultEntry} (h : (s.fsv.entries.filter fun x => x.key.cls == c) = [e]) :
    s.reviseClass c = s.reviseReported e.key := by
  have hkeys : ((s.fsv.entries.map FaultEntry.key).filter fun k => k.cls == c) = [e.key] := by
    rw [List.filter_map]
    exact congrArg (List.map FaultEntry.key) h
  rw [State.reviseClass, hkeys]
  rfl

theorem offerFirst_entries (s : State) (key : FaultKey) : (s.offerFirst key).fsv.entries = s.fsv.entries := by
  unfold State.offerFirst; split <;> rfl

theorem raiseUnder_entries (s : State) (key : FaultKey) (mode : Nat) :
    (s.raiseUnder key mode).fsv.entries = ((s.countRaise key).raisedList key mode).entries := by
  unfold State.raiseUnder
  dsimp only
  split
  · rw [setDomainEvent_fsv, setEvent_fsv, offerFirst_entries]
  · rfl

/-- A raise under a key whose entry stands sets FAULT_RAISED (R142). -/
theorem raiseUnder_faultRaised {s : State} {key : FaultKey} (h : (s.fsv.find key).isSome = true) (mode : Nat) :
    (s.raiseUnder key mode).eventSet .faultRaised = true := by
  unfold State.raiseUnder
  dsimp only
  rw [h, Bool.true_or, if_pos rfl]
  exact (FaultWork.setDomainEvent _ _).events _ (setEvent_eventSet _ _ _ (.inl rfl))

/-- The state that a stop mode gives a REPORTED entry (R149). -/
def State.revisedState (s : State) (key : FaultKey) : EntryState :=
  if s.faultMode key = 2 ∨ s.item .retryLimit ≤ s.fsv.retryCount key then .latched else .active

/-- What a stop mode of its class makes of an entry of the key (R149). -/
def State.revisedEntry (s : State) (key : FaultKey) (e : FaultEntry) : FaultEntry :=
  if e.key == key then { (s.countRaise key).updateEntry e with mode := s.faultMode key, state := s.revisedState key } else e

theorem revisedEntry_key (s : State) (key : FaultKey) (e : FaultEntry) : (s.revisedEntry key e).key = e.key := by
  unfold State.revisedEntry
  split
  · exact updateEntry_key ..
  · rfl

section
variable {s : State} {key : FaultKey} {e : FaultEntry} (hfind : s.fsv.find key = some e) (hreported : e.state = .reported)
  (hmode : s.faultMode key < 3)
include hfind hreported hmode

/-- A REPORTED entry of a class that is given a stop mode is raised afresh under it (R149). -/
theorem reviseReported_eq :
    s.reviseReported key =
      (((s.raiseUnder key (s.faultMode key)).modFsv fun f => { f with entries := f.entries.map fun x =>
        if x.key == key then { x with mode := s.faultMode key, state := s.revisedState key } else x }).announce s.fsv) := by
  have hstate : (if s.faultMode key == 2 || decide (s.item .retryLimit ≤ s.fsv.retryCount key) then EntryState.latched else .active) =
      s.revisedState key := if_congr (by simp) rfl rfl
  unfold State.reviseReported
  simp only [hfind, hreported, hmode, hstate]
  rfl

theorem reviseReported_counters :
    (s.reviseReported key).fsv.counters = modAt s.fsv.counters key.cls fun n => addUpTo 32767 n 1 := by
  rw [reviseReported_eq hfind hreported hmode, announce_fsv]
  exact raiseUnder_counters ..

theorem reviseReported_faultRaised : (s.reviseReported key).eventSet .faultRaised = true := by
  rw [reviseReported_eq hfind hreported hmode]
  exact (FaultWork.announce _ _).events _ (raiseUnder_faultRaised (by rw [hfind]; rfl) _)

theorem reviseReported_entries : (s.reviseReported key).fsv.entries = s.fsv.entries.map (s.revisedEntry key) := by
  have hraised : ((s.countRaise key).raisedList key (s.faultMode key)).entries =
      s.fsv.entries.map fun x => if x.key == key then (s.countRaise key).updateEntry x else x := by
    have hstands : (s.countRaise key).fsv.find key = some e := hfind
    unfold State.raisedList
    simp only [hstands]
    rfl
  rw [reviseReported_eq hfind hreported hmode, announce_fsv]
  change (s.raiseUnder key (s.faultMode key)).fsv.entries.map _ = _
  rw [raiseUnder_entries, hraised, List.map_map]
  refine List.map_congr_left fun x _ => ?_
  rw [Function.comp_apply, State.revisedEntry]
  by_cases hx : (x.key == key) = true
  · rw [if_pos hx, if_pos hx, if_pos (by rw [updateEntry_key]; exact hx)]
  · rw [if_neg hx, if_neg hx, if_neg hx]

theorem reviseReported_find :
    (s.reviseReported key).fsv.find key =
      some { e with
        mode := s.faultMode key, ring := s.ringNumber, aAcc := s.act.aAcc, time := s.seconds, state := s.revisedState key } := by
  have hkey : (e.key == key) = true := beq_iff_eq.mpr (Faults.find_key hfind)
  have hsame : ((fun x : FaultEntry => x.key == key) ∘ s.revisedEntry key) = fun x => x.key == key :=
    funext fun x => by rw [Function.comp_apply, revisedEntry_key]
  have hrevised : s.revisedEntry key e =
      { e with mode := s.faultMode key, ring := s.ringNumber, aAcc := s.act.aAcc, time := s.seconds, state := s.revisedState key } := by
    rw [State.revisedEntry, if_pos hkey]
    unfold State.updateEntry
    simp only [hreported]
    rfl
  rw [Faults.find, reviseReported_entries hfind hreported hmode, List.find?_map, hsame]
  rw [Faults.find] at hfind
  rw [hfind, Option.map_some, hrevised]

theorem reviseReported_others :
    ((s.reviseReported key).fsv.entries.filter fun x => x.key != key) = s.fsv.entries.filter fun x => x.key != key := by
  have hsame : ((fun x : FaultEntry => x.key != key) ∘ s.revisedEntry key) = fun x => x.key != key :=
    funext fun x => by rw [Function.comp_apply, revisedEntry_key]
  rw [reviseReported_entries hfind hreported hmode, List.filter_map, hsame]
  refine (List.map_congr_left fun x hx => ?_).trans (List.map_id _)
  have hother : x.key ≠ key := by simpa using (List.mem_filter.mp hx).2
  exact if_neg (by simpa using hother)

end

end Sys2Proof.Machine
end

section
/-! CONFIGURE of one item: the coefficients, and the response of each item of Table 10-3 (R51, R52, R172). -/

namespace Sys2Proof.Machine

/-! ## The coefficients -/

/-- The rounded quotient is the nearest integer, halves up (R51). -/
theorem roundHalfUp_bounds (x : Nat) {y : Nat} (hy : 0 < y) :
    2 * roundHalfUp x y * y ≤ 2 * x + y ∧ 2 * x + y < 2 * (roundHalfUp x y + 1) * y := by
  have hdivisor : 0 < 2 * y := by omega
  have hbelow : (2 * y) * roundHalfUp x y ≤ 2 * x + y := Nat.mul_div_le _ _
  have habove : 2 * x + y < (2 * y) * (roundHalfUp x y + 1) := Nat.lt_mul_div_succ _ hdivisor
  constructor <;> linarith

theorem coefficientKv_bounds (bore ring : Nat) :
    2 * coefficientKv bore ring * 10 ^ 7 ≤ 2 * ((bore ^ 2 - ring ^ 2) * 51472) + 10 ^ 7 ∧
      2 * ((bore ^ 2 - ring ^ 2) * 51472) + 10 ^ 7 < 2 * (coefficientKv bore ring + 1) * 10 ^ 7 :=
  roundHalfUp_bounds _ (by norm_num)

theorem coefficientKm_bounds (bore density : Nat) :
    2 * coefficientKm bore density * 10 ^ 10 ≤ 2 * (bore ^ 2 * 51472 * density) + 10 ^ 10 ∧
      2 * (bore ^ 2 * 51472 * density) + 10 ^ 10 < 2 * (coefficientKm bore density + 1) * 10 ^ 10 :=
  roundHalfUp_bounds _ (by norm_num)

/-! ## A change that no condition sees -/

/-- The measured conditions are judged by the items of the torque, the face pressure and the supply alone (R133, R136). -/
theorem condition_putting {s : State} {i : Item} {v : Nat} (hlimits : i ∉ [Item.torqueLimit, .faceLow, .faceHigh])
    (hpolicy : ∀ m, i ≠ .novalPolicy m) (key : FaultKey) : (s.putting i v).condition key = s.condition key := by
  simp only [List.mem_cons, List.not_mem_nil, or_false, not_or] at hlimits
  obtain ⟨htorque, hlow, hhigh⟩ := hlimits
  have hsupply (m : MeasIx) : (s.putting i v).supply m = s.supply m := by
    rw [State.supply, putting_item_ne s v (hpolicy m)]
    rfl
  have hneeded (m : MeasIx) : (s.putting i v).needed m = s.needed m := rfl
  cases key with
  | torqueHigh => simp only [State.condition, State.levelTest, hsupply, hneeded, putting_item_ne s v htorque]
  | faceLow => simp only [State.condition, State.levelTest, hsupply, hneeded, putting_item_ne s v hlow]
  | faceHigh => simp only [State.condition, State.levelTest, hsupply, hneeded, putting_item_ne s v hhigh]
  | measInvalid m => simp only [State.condition, hsupply, hneeded]
  | _ => rfl

theorem quiet_putting {s : State} {i : Item} {v : Nat} (hlimits : i ∉ [Item.torqueLimit, .faceLow, .faceHigh])
    (hpolicy : ∀ m, i ≠ .novalPolicy m) : (s.putting i v).quiet = s.quiet := by
  have hunmarked : (s.putting i v).unmarked = s.unmarked := by
    unfold State.unmarked
    congr 1
    funext key
    rw [condition_putting hlimits hpolicy]
    rfl
  rw [State.quiet, hunmarked]
  rfl

/-- With the cross checks of the present set holding, a density of 100 to 300 may be given at STANDSTILL (R169 to R171). -/
theorem mayChange_muckDensity {s : State} {v : Nat} (hlow : 100 ≤ v) (hhigh : v ≤ 300) (hcycle : s.adu.cycle = .standstill)
    (hrecord : s.rbu.record.state ≠ .building) (hring : s.item .ringOd + 20 ≤ s.item .boreDiameter)
    (hwindow : ∀ p, s.item (.windowOpen p) < s.item (.windowClose p)) (hdeficit : s.item .deficitLow + 8 ≤ s.item .deficitHigh)
    (hface : s.item .faceLow + 10 ≤ s.item .faceHigh) : s.mayChange .muckDensity v := by
  have hother {j : Item} (hj : Item.muckDensity ≠ j) : itemValue (putItem s.config .muckDensity v) j = s.item j :=
    itemValue_putItem_ne _ v hj
  refine ⟨decide_eq_true ⟨hlow, hhigh⟩, fun c hc => (nomatch hc), ?_, fun p => ?_, ?_, ?_, fun _ => ⟨by simp [hcycle], hrecord⟩⟩
  · rwa [hother (by decide), hother (by decide)]
  · rw [hother (by simp), hother (by simp)]
    exact hwindow p
  · rwa [hother (by decide), hother (by decide)]
  · rwa [hother (by decide), hother (by decide)]

/-- A density that CONFIGURE may give sets nothing going but the coefficients (R51, R52). -/
theorem exec_configure_muckDensity {s : State} {v : Payload} (h : s.ready .cabin = true)
    (hchange : (s.attended .cabin).mayChange .muckDensity v.toNat) :
    exec (.configure [(3, v)]) s =
      .next ((((s.attended .cabin).putting .muckDensity v.toNat).withCoefficients
        (coefficientKv ((s.attended .cabin).item .boreDiameter) ((s.attended .cabin).item .ringOd))
        (coefficientKm ((s.attended .cabin).item .boreDiameter) v.toNat)).answer .cabin 1 .accepted) := by
  have hquiet (kv km : Nat) : ((((s.attended .cabin).putting .muckDensity v.toNat).withCoefficients kv km).answer .cabin 1
      .accepted).quiet = true := by
    rw [quiet_answer]
    have hsame : (((s.attended .cabin).putting .muckDensity v.toNat).withCoefficients kv km).quiet =
        ((s.attended .cabin).putting .muckDensity v.toNat).quiet := quiet_of_watched rfl rfl
    rw [hsame, quiet_putting (by decide) (by simp)]
    exact (ready_iff.mp h).2
  have hpair : ((3, v) : Payload × Payload) = Item.pair .muckDensity v := rfl
  rw [hpair, exec_configure_coefficients h hchange (by decide), recomputeCoefficients_eq, putting_item_self,
    putting_item_ne _ _ (by decide), putting_item_ne _ _ (by decide), settled_of_quiet (hquiet _ _)]

/-! ## The items without a response -/

/-- The item has no response of its own, and no coefficient is computed from it (R113, R172). -/
def Item.silent (i : Item) : Bool := !respondingItems.contains i && !coefficientItems.contains i

theorem silent_of_mem {i : Item} {l : List Item} (hl : l.all Item.silent = true) (hi : i ∈ l) : i.silent = true :=
  List.all_eq_true.mp hl i hi

theorem silent_of_line {i : Item} {p : LineIx} (h : i = .weight p ∨ i = .windowOpen p ∨ i = .windowClose p) : i.silent = true := by
  rcases h with rfl | rfl | rfl <;> fin_cases p <;> rfl

theorem silent_iff {i : Item} : i.silent = true ↔ i ∉ respondingItems ∧ i ∉ coefficientItems := by
  simp [Item.silent]

/-! ## The statement -/

/-- Settles O25: the one changed item of the request sets its own response going and no other, and a revised entry is read off the
raise that revises it. -/
theorem coefficientsFollowTheirItems : Obligations.CoefficientsFollowTheirItems := by
  refine ⟨?density, ?item, ?revised⟩
  case density =>
    intro s v hready hlow hhigh u w hcycle hrecord hring hwindow hdeficit hface
    exact ⟨_, _, coefficientKv_bounds _ _, coefficientKm_bounds _ _, exec_configure_muckDensity hready
      (mayChange_muckDensity hlow hhigh hcycle hrecord hring hwindow hdeficit hface)⟩
  case revised =>
    intro s key e hfind hreported mode t hmode
    exact ⟨reviseReported_find hfind hreported hmode, reviseReported_counters hfind hreported hmode,
      reviseReported_faultRaised hfind hreported hmode, reviseReported_others hfind hreported hmode⟩
  case item =>
    intro s i x hready u v w answers hchange
    refine ⟨fun hv hi => exec_configure_present hready hchange hi hv, fun hi => ?_, fun hv => ?_⟩
    · refine ⟨_, _, coefficientKv_bounds _ _, coefficientKm_bounds _ _, ?_⟩
      exact (exec_configure_coefficients hready hchange hi).trans (by rw [recomputeCoefficients_eq]; rfl)
    have hresponse {j : Item} {t : State} (hij : i = j) (hj : j ∉ coefficientItems) (ht : w.item j = v → w.respondTo j = t) :
        answers t := by
      subst hij
      rw [← ht (putting_item_self ..)]
      exact exec_configure_changed hready hchange hj hv
    refine ⟨fun hi => ?_, fun hi => hresponse hi (by decide) fun _ => rfl, fun hi => hresponse hi (by decide) fun hvalue => ?_,
      fun hi => ?_, fun hi => hresponse hi (by decide) fun hvalue => ?_,
      fun hi => hresponse hi (by decide) fun _ => emptyHistories_eq w, fun hi => hresponse hi (by decide) fun _ => rfl,
      fun hi => hresponse hi (by decide) fun _ => rfl, fun hi => hresponse hi (by decide) fun hvalue => ?_,
      fun m hi => hresponse hi (by simp [coefficientItems]) fun hvalue => ?_, fun m hi hbefore => ?_, fun c hi => ⟨fun hc =>
        hresponse hi (by simp [coefficientItems]) fun hvalue => ?_, fun e _ hone _ => hresponse hi (by simp [coefficientItems])
        fun _ => reviseClass_single hone⟩⟩
    · have hsilent : i.silent = true := hi.elim (silent_of_mem rfl) fun ⟨p, hp⟩ => silent_of_line hp
      obtain ⟨hresponding, hcoefficient⟩ := silent_iff.mp hsilent
      exact hresponse rfl hcoefficient fun _ => respondTo_of_not_mem hresponding
    · rw [← hvalue]
      exact judgeSetpoints_eq w
    · exact hi.elim (hresponse · (by decide) fun _ => rfl) (hresponse · (by decide) fun _ => rfl)
    · rw [← hvalue]
      exact testPrimed_lines w
    · rw [← hvalue]
      rfl
    · rw [← hvalue]
      exact if_congr (tooOld_iff w m) rfl rfl
    · intro held t
      have hpolicy {r : State} (hr : w.holds m = held → w.changePolicy m = r) : answers r :=
        hresponse hi (by simp [coefficientItems]) fun hvalue => hr (by unfold State.holds; rw [hvalue]; rfl)
      have hrecord (hholds : w.holds m = held) : w.judgeDegraded m = t := by rw [judgeDegraded_eq, hholds]
      refine ⟨fun hheld p hp => hpolicy fun hholds => ?_, fun hsupplied => hpolicy fun hholds => ?_⟩
      · rw [changePolicy_of_held (s := w) hbefore (hholds.trans hheld) hp, hrecord hholds]
      · rw [changePolicy_of_supplied (s := w) (hholds ▸ hsupplied), hrecord hholds]
    · exact reviseClass_fixed (hc.imp_left fun hfree => hvalue.symm ▸ hfree)

end Sys2Proof.Machine
end

section
/-! What a request of ERECTOR leaves when its answer is written behind it: the answer and the work of the RBU and the JGU stay out of each
other's way, and notices of no arrival come to nothing while the head of the claim queue is not granted. -/

namespace Sys2Proof.Machine

/-! ## The answer beside the work -/

theorem modAt_comm {α : Type} {n : Nat} (t : Vector α n) {i j : Fin n} (f g : α → α) (h : i ≠ j) :
    modAt (modAt t i f) j g = modAt (modAt t j g) i f := by
  ext k hk : 1
  have hl := modAt_getElem (modAt t i f) j ⟨k, hk⟩ g
  have hli := modAt_getElem t i ⟨k, hk⟩ f
  have hr := modAt_getElem (modAt t j g) i ⟨k, hk⟩ f
  have hrj := modAt_getElem t j ⟨k, hk⟩ g
  simp only [Fin.getElem_fin] at hl hli hr hrj
  rw [hl, hli, hr, hrj]
  by_cases hj : j = ⟨k, hk⟩
  · have hi : i ≠ ⟨k, hk⟩ := fun hi => h (hi.trans hj.symm)
    rw [if_pos hj, if_pos hj, if_neg hi, if_neg hi]
  · rw [if_neg hj, if_neg hj]

/-- Two changes of ports that do not meet in one port may change places. -/
theorem modPort_comm (s : State) (a b : Station) (f g : Port → Port) (h : a = b → ∀ p, g (f p) = f (g p)) :
    (s.modPort a f).modPort b g = (s.modPort b g).modPort a f := by
  unfold State.modPort
  by_cases hab : a = b
  · subst hab
    simp only [modAt_modAt, h rfl]
  · simp only [modAt_comm _ f g fun hidx => hab (Station.idx_inj.mp hidx)]

theorem modAt_modAt_const {α : Type} {n : Nat} (t : Vector α n) (i j : Fin n) (a : α) :
    modAt (modAt t i fun _ => a) j (fun _ => a) = modAt (modAt t j fun _ => a) i fun _ => a := by
  by_cases h : i = j
  · rw [h]
  · exact modAt_comm t _ _ h

theorem setEvent_comm (s : State) (d e : Event) : (s.setEvent d).setEvent e = (s.setEvent e).setEvent d :=
  modPort_comm s _ _ _ _ fun _ p => by simp only [modAt_modAt_const _ d.bit.2 e.bit.2 true]

section
variable (s : State) (st : Station) (code : Nat) (r : Reply)

theorem setEvent_answer (e : Event) : (s.setEvent e).answer st code r = (s.answer st code r).setEvent e :=
  modPort_comm s _ _ _ _ fun _ _ => rfl

theorem changeGroups_answer (f : GroupIx → Group → Group) :
    (s.changeGroups f).answer st code r = (s.answer st code r).changeGroups f := by
  rw [changeGroups_eq, changeGroups_eq]
  rfl

theorem grant_answer (pc : Piece) : (s.grant pc).answer st code r = (s.answer st code r).grant pc := by
  unfold State.grant State.jguRetract
  dsimp only
  rw [changeGroups_answer, setEvent_answer]
  rfl

theorem granted_answer (pc : Piece) : (s.granted pc).answer st code r = (s.answer st code r).granted pc := by
  have hlending (q : PieceRecord) : (s.lending pc q).answer st code r = (s.answer st code r).lending pc q := setEvent_answer ..
  rw [granted_eq, granted_eq]
  split
  · next h => rw [if_pos (by exact h), setEvent_answer, hlending]; rfl
  · next h => rw [if_neg (by exact h), hlending]; rfl

theorem examineHead_answer : s.examineHead.answer st code r = (s.answer st code r).examineHead := by
  by_cases hclaim : ∃ e ∈ s.rbu.queue.head?, s.claimable e.piece
  · obtain ⟨e, he, hclaim⟩ := hclaim
    obtain ⟨rest, hq⟩ := List.head?_eq_some_iff.mp he
    have hsame : (s.answer st code r).claimable e.piece ↔ s.claimable e.piece := claimable_congr rfl rfl rfl rfl rfl
    rw [examineHead_of_claimable hq hclaim, examineHead_of_claimable (s := s.answer st code r) hq (hsame.mpr hclaim), grant_answer]
    rfl
  · have hnot : ∀ e ∈ s.rbu.queue.head?, ¬s.claimable e.piece := fun e he hc => hclaim ⟨e, he, hc⟩
    have hsame (e : QueueEntry) : (s.answer st code r).claimable e.piece ↔ s.claimable e.piece := claimable_congr rfl rfl rfl rfl rfl
    rw [examineHead_of_not_claimable hnot,
      examineHead_of_not_claimable (s := s.answer st code r) fun e he => (hsame e).not.mpr (hnot e he)]

end

/-! ## Notices of no arrival -/

/-- The head of the claim queue is not granted (R81). -/
def State.headWaits (s : State) : Prop := ∀ e ∈ s.rbu.queue.head?, ¬s.claimable e.piece

theorem headWaits_of_empty {s : State} (h : s.rbu.queue = []) : s.headWaits := by simp [State.headWaits, h]

theorem headWaits_of_frozen {s : State} (h : s.frozen = true) : s.headWaits := fun _ _ ⟨_, _, hfreeze, hstop⟩ => by
  simp [State.frozen, hfreeze, hstop] at h

/-- While the head of the claim queue is not granted, notices that tell of no arrival come to nothing. -/
theorem settle_headWaits {s : State} (hu : s.unmarked = none) (hw : s.headWaits) (l : List Notice) (hl : noArrivals l) (n : Nat)
    (hn : l.length ≤ n) : settle n (s.waiting l) = s.waiting [] := by
  induction l generalizing n with
  | nil => exact settle_of_quiet n (waiting_nil_quiet hu)
  | cons x l ih =>
    obtain ⟨m, rfl⟩ : ∃ m, n = m + 1 := ⟨n - 1, by simp at hn; omega⟩
    obtain ⟨g, st, owner, rfl⟩ := hl x List.mem_cons_self
    have hexamine : (s.waiting l).examineHead = s.waiting l :=
      examineHead_of_not_claimable fun e he => (claimable_congr rfl rfl rfl rfl rfl).not.mpr (hw e he)
    have htake : (s.waiting l).take (.groupState g st owner none) = s.waiting l := by
      cases st <;> exact hexamine
    rw [settle_waiting hu, htake]
    exact ih (fun y hy => hl y (List.mem_cons_of_mem _ hy)) m (by simpa using hn)

/-- A change of groups into other states than HOLD and CLEAR tells of no arrival (R25). -/
theorem noArrivals_changeNotices {s : State} {f : GroupIx → Group → Group}
    (h : ∀ g, (f g (s.group g)).state = (s.group g).state ∨
      (f g (s.group g)).state ≠ .hold ∧ (f g (s.group g)).state ≠ .clear) : noArrivals (changeNotices s f) := by
  intro n hn
  obtain ⟨g, -, hg⟩ := List.mem_filterMap.mp hn
  split at hg
  · next hmoved =>
    obtain ⟨hhold, hclear⟩ := (h g).resolve_left fun he => (bne_iff_ne.mp hmoved) he.symm
    refine ⟨g, (f g (s.group g)).state, (f g (s.group g)).owner, (Option.some_inj.mp hg).symm.trans ?_⟩
    unfold Group.notice
    split
    · next hc => exact absurd hc hclear
    · next hc => exact absurd hc hhold
    · rfl
  · cases hg

/-- A request whose owner's moves tell of no arrival is the owner's effect with the answer in the slot. -/
theorem run_request_moves {s t : State} {st : Station} {code : Nat} {owner : State → State × Reply} {r : Reply} {l : List Notice}
    (h : s.ready st = true) (ho : owner (s.attended st) = (t.waiting l, r)) (ht : t.quiet = true) (hw : t.headWaits)
    (hl : noArrivals l) (hlen : l.length ≤ 10) : s.run (fun u => u.request st code owner) = .next (t.answer st code r) := by
  obtain ⟨hu, hnotices⟩ := quiet_iff.mp ht
  have hwaits : (t.answer st code r).headWaits := fun e he => (claimable_congr rfl rfl rfl rfl rfl).not.mpr (hw e he)
  have hunmarked : (t.answer st code r).unmarked = none := (unmarked_of_watched (watched_answer ..)).trans hu
  rw [run_request_settled h ho]
  exact congrArg Host.Outcome.next ((settle_headWaits hunmarked hwaits l hl settleBound (hlen.trans (by decide))).trans
    (waiting_nil hnotices))

/-! ## The piece that a request names -/

theorem mem_allPieces (pc : Piece) : pc ∈ allPieces := by cases pc <;> decide

theorem Piece.ofCode_idx (pc : Piece) : Piece.ofCode pc.idx = some pc := by cases pc <;> rfl

section
variable {s : State} {code : Nat} (f : Piece → State × Reply)

/-- While the record is BUILDING a request that names a piece goes on with it. -/
theorem withPiece_building {pc : Piece} (h : s.rbu.record.state = .building) (hc : code = pc.idx) : s.withPiece code f = f pc := by
  simp [State.withPiece, h, hc, Piece.ofCode_idx]

theorem withPiece_elsewhere (h : s.rbu.record.state ≠ .building) : s.withPiece code f = (s, .refusedState 1) := by
  simp [State.withPiece, h]

theorem withPiece_beyond (h : s.rbu.record.state = .building) (hc : 6 < code) : s.withPiece code f = (s, .refusedRange 10) := by
  have hnone : Piece.ofCode code = none := List.getElem?_eq_none hc
  simp [State.withPiece, h, hnone]

end

end Sys2Proof.Machine
end

section
/-! CLAIM PIECE: the conditions of Tables 4-5 and 4-6 in their order, the queue, and the grant. -/

namespace Sys2Proof.Machine

theorem exec_claimPiece (code : Payload) (s : State) :
    exec (.claimPiece code) s = s.run fun t => t.request .erector 16 fun u => u.requestClaim code.toNat := rfl

/-! ## The order of the claims (Table 4-5) -/

theorem orderHolds_iff {s : State} {pc : Piece} :
    s.orderHolds pc = true ↔
      (∀ q, q ≠ .k → (s.piece q).state = .pending) ∨ ∃ q ∈ pc.neighbours, (s.piece q).state ≠ .pending := by
  simp only [State.orderHolds, Bool.or_eq_true, List.all_eq_true, List.any_eq_true, beq_iff_eq, bne_iff_ne, mem_allPieces,
    forall_const, ← or_iff_not_imp_left, ne_eq]

theorem regularSet_iff {s : State} : s.regularSet = true ↔ ∀ q, q ≠ .k → (s.piece q).state = .set := by
  simp only [State.regularSet, Bool.or_eq_true, List.all_eq_true, beq_iff_eq, mem_allPieces, forall_const,
    ← or_iff_not_imp_left, ne_eq]

section
variable {s : State} {pc : Piece}

/-- The claim of a PENDING piece is taken where the order rule, and for K the key rule, allows it (R76). -/
theorem claimChecks_pass (h : (s.piece pc).state = .pending)
    (horder : pc ≠ .k → (∀ q, q ≠ .k → (s.piece q).state = .pending) ∨ ∃ q ∈ pc.neighbours, (s.piece q).state ≠ .pending)
    (hkey : pc = .k → ∀ q, q ≠ .k → (s.piece q).state = .set) : firstFailing (s.claimChecks pc) = none := by
  by_cases hk : pc = .k
  · have hset : s.regularSet = true := regularSet_iff.mpr (hkey hk)
    subst hk
    simp [State.claimChecks, firstFailing, h, hset]
  · have hholds : s.orderHolds pc = true := orderHolds_iff.mpr (horder hk)
    simp [State.claimChecks, firstFailing, h, hk, hholds]

theorem claimChecks_not_pending (h : (s.piece pc).state ≠ .pending) : firstFailing (s.claimChecks pc) = some (.refusedState 2) := by
  simp [State.claimChecks, firstFailing, h]

theorem claimChecks_out_of_order (h : (s.piece pc).state = .pending) (hk : pc ≠ .k)
    (hother : ∃ q, q ≠ .k ∧ (s.piece q).state ≠ .pending) (hnear : ∀ q ∈ pc.neighbours, (s.piece q).state = .pending) :
    firstFailing (s.claimChecks pc) = some (.refusedState 3) := by
  have hbreaks : s.orderHolds pc = false := by
    rw [Bool.eq_false_iff, ne_eq, orderHolds_iff]
    push Not
    exact ⟨hother, hnear⟩
  simp [State.claimChecks, firstFailing, h, hk, hbreaks]

theorem claimChecks_key_early (h : (s.piece pc).state = .pending) (hk : pc = .k)
    (hother : ∃ q, q ≠ .k ∧ (s.piece q).state ≠ .set) : firstFailing (s.claimChecks pc) = some (.refusedState 4) := by
  have hunset : s.regularSet = false := by
    rw [Bool.eq_false_iff, ne_eq, regularSet_iff]
    push Not
    exact hother
  subst hk
  simp [State.claimChecks, firstFailing, h, hunset]

end

/-! ## The grant conditions (Table 4-6) -/

/-- A reason of Table 4-6, none for 0. -/
def reasonOf (n : Nat) : Option Nat := if n = 0 then none else some n

/-- A grant condition gives its reason where it fails; the conditions behind it give theirs otherwise. -/
theorem firstReason_cons_via {ok : Bool} {p : Prop} [Decidable p] (h : ok = false ↔ p) {n m : Nat} (hn : n ≠ 0)
    {rest : List (Bool × Nat)} (hrest : firstReason rest = reasonOf m) :
    firstReason ((ok, n) :: rest) = reasonOf (if p then n else m) := by
  cases ok with
  | false => rw [if_pos (h.mp rfl), reasonOf, if_neg hn]; rfl
  | true => rw [if_neg fun hp => nomatch h.mpr hp]; exact hrest

/-- Conditions with one more behind them all hold exactly where they do and the last one does. -/
theorem firstReason_append_one {l : List (Bool × Nat)} {ok : Bool} {n : Nat} :
    firstReason (l ++ [(ok, n)]) = none ↔ firstReason l = none ∧ ok = true := by
  induction l with
  | nil => cases ok <;> simp [firstReason]
  | cons c l ih =>
    obtain ⟨pass, m⟩ := c
    cases pass with
    | true => exact ih
    | false => simp [firstReason]

/-- The reason of the first grant condition that fails for a piece, 0 where none does (R77). -/
def State.claimReason (s : State) (pc : Piece) : Nat :=
  let lent (g : GroupIx) : Bool := [GroupState.retract, .clear, .returning].contains (s.group g).state
  if ∃ g ∈ (s.piece pc).groups, lent g = true then 21
  else if 10 < (allGroups.filter lent).length + ((s.piece pc).groups.filter fun g => (s.group g).state == .hold).length
      + s.item .minContact then 22
  else if s.inForce .claimFreeze = true then 23
  else if s.estop = true then 24
  else if s.rbu.queue ≠ [] then 25
  else 0

theorem claimReason_eq (s : State) (pc : Piece) :
    firstReason (s.grantChecks pc ++ [(s.rbu.queue.isEmpty, 25)]) = reasonOf (s.claimReason pc) := by
  have hlent : ((s.piece pc).groups.all fun g => !(s.group g).lent) = false ↔
      ∃ g ∈ (s.piece pc).groups, [GroupState.retract, .clear, .returning].contains (s.group g).state = true := by
    simp only [List.all_eq_false, Group.lent_eq, Bool.not_eq_true', Bool.not_eq_false]
  have hcontact : decide (s.lentCount + ((s.piece pc).groups.filter fun g => (s.group g).state == .hold).length
      + s.item .minContact ≤ 10) = false ↔
      10 < (allGroups.filter fun g => [GroupState.retract, .clear, .returning].contains (s.group g).state).length
        + ((s.piece pc).groups.filter fun g => (s.group g).state == .hold).length + s.item .minContact := by
    simp only [decide_eq_false_iff_not, not_le, State.lentCount, Group.lent_eq]
  have hfreeze : (!s.inForce .claimFreeze) = false ↔ s.inForce .claimFreeze = true := by simp
  have hstop : (!s.estop) = false ↔ s.estop = true := by simp
  have hqueue : s.rbu.queue.isEmpty = false ↔ s.rbu.queue ≠ [] := by simp
  have hqueues := firstReason_cons_via hqueue (n := 25) (m := 0) (by decide) (rest := []) rfl
  have hstops := firstReason_cons_via hstop (n := 24) (by decide) hqueues
  have hfreezes := firstReason_cons_via hfreeze (n := 23) (by decide) hstops
  have hcontacts := firstReason_cons_via hcontact (n := 22) (by decide) hfreezes
  exact firstReason_cons_via hlent (n := 21) (by decide) hcontacts

/-- No grant condition fails exactly for a claimable piece with nothing queued before it (R77, R81). -/
theorem claimReason_eq_zero_iff {s : State} {pc : Piece} : s.claimReason pc = 0 ↔ s.claimable pc ∧ s.rbu.queue = [] := by
  have hzero : s.claimReason pc = 0 ↔ reasonOf (s.claimReason pc) = none := by simp [reasonOf]
  rw [hzero, ← claimReason_eq, firstReason_append_one, grantChecks_pass_iff, List.isEmpty_iff]

/-! ## A claim that is taken -/

section
variable {s : State} {pc : Piece}

theorem takeClaim_granted (h : s.claimReason pc = 0) : s.takeClaim pc = (s.grant pc, .accepted) := by
  rw [State.takeClaim, claimReason_eq, h]
  rfl

/-- The part with a PENDING piece's claim at the tail of the queue (R79, R80). -/
def State.claimQueued (s : State) (pc : Piece) : State :=
  (s.modPiece pc fun r => { r with state := .queued, claimTime := some s.seconds }).modRbu fun b =>
    { b with queue := b.queue ++ [{ piece := pc, wait := 1000 * s.item .claimWait }] }

theorem takeClaim_queued (h : s.claimReason pc ≠ 0) (hroom : s.rbu.queue.length < 3) :
    s.takeClaim pc = (s.claimQueued pc, { outcome := .queued, reason := s.claimReason pc, skip := 0 }) := by
  rw [State.takeClaim, claimReason_eq, reasonOf, if_neg h]
  exact if_pos hroom

theorem takeClaim_full (h : s.claimReason pc ≠ 0) (hfull : 3 ≤ s.rbu.queue.length) :
    s.takeClaim pc = (s, { outcome := .queueFull, reason := s.claimReason pc, skip := 0 }) := by
  rw [State.takeClaim, claimReason_eq, reasonOf, if_neg h]
  exact if_neg (Nat.not_lt.mpr hfull)

end

/-! ## The groups of a granted piece -/

/-- The granted part with its groups moved, before their notices are taken (R16, R78). -/
def State.claimMoved (s : State) (pc : Piece) : State :=
  { (s.modPiece pc fun r =>
      { r with state := .retracting, claimTime := some (r.claimTime.getD s.seconds), awaited := r.groups
               timer := s.startedTimer .retract (1000 * s.item .retractTime) }).setEvent .claimGranted with
    groups := mapIx s.groups (s.retractMove pc) }

theorem grant_moves (s : State) (pc : Piece) :
    s.grant pc = (s.claimMoved pc).waiting (s.notices ++ changeNotices s (s.retractMove pc)) := changeGroups_eq _ _

/-- Where every group of the piece is in HOLD or PUSH above CLEAR_STROKE, each is on its way to RETRACT (R16). -/
theorem retractMove_above {s : State} {pc : Piece}
    (h : ∀ g ∈ (s.piece pc).groups, (s.group g).state ∈ [GroupState.hold, .push] ∧ s.item .clearStroke < (s.group g).stroke)
    (g : GroupIx) :
    s.retractMove pc g (s.group g) =
      if g ∈ (s.piece pc).groups then { s.group g with state := .retract, owner := some pc, contact := false }
      else s.group g := by
  unfold State.retractMove
  by_cases hm : g ∈ (s.piece pc).groups
  · obtain ⟨hstate, habove⟩ := h g hm
    have hbears : (s.group g).state = .hold ∨ (s.group g).state = .push := by simpa using hstate
    simp [hm, Group.retractFor_eq_lend hbears, Group.lend, habove]
  · simp [hm]

/-- The part of a granted piece whose groups are all above CLEAR_STROKE (R16, R78). -/
theorem claimMoved_above {s : State} {pc : Piece} (hfrozen : s.frozen = false) (hclaim : (s.piece pc).claimTime = none)
    (h : ∀ g ∈ (s.piece pc).groups, (s.group g).state ∈ [GroupState.hold, .push] ∧ s.item .clearStroke < (s.group g).stroke) :
    s.claimMoved pc =
      ({ s with groups := mapIx s.groups fun g q =>
          if g ∈ (s.piece pc).groups then { q with state := .retract, owner := some pc, contact := false } else q }.modPiece pc
        fun r =>
          { r with
            state := .retracting, claimTime := some s.seconds, awaited := r.groups
            timer := { state := .running, kind := .retract, left := 1000 * s.item .retractTime } }).setEvent .claimGranted := by
  have hrecord : s.modPiece pc (fun r =>
      { r with state := .retracting, claimTime := some (r.claimTime.getD s.seconds), awaited := r.groups
               timer := s.startedTimer .retract (1000 * s.item .retractTime) }) = s.modPiece pc fun r =>
      { r with state := .retracting, claimTime := some s.seconds, awaited := r.groups
               timer := { state := .running, kind := .retract, left := 1000 * s.item .retractTime } } :=
    modPiece_congr (by simp [State.startedTimer, hfrozen, hclaim])
  rw [State.claimMoved, mapIx_congr (retractMove_above h), hrecord]
  rfl

/-! ## In a part at rest -/

/-- A claim that a condition of Table 4-5 refuses. -/
theorem exec_claimPiece_refused {s : State} {pc : Piece} {code : Payload} {r : Reply} (h : s.ready .erector = true)
    (hc : code.toNat = pc.idx.val) (hb : (s.attended .erector).rbu.record.state = .building)
    (hr : firstFailing ((s.attended .erector).claimChecks pc) = some r) :
    exec (.claimPiece code) s = .next ((s.attended .erector).answer .erector 16 r) := by
  rw [exec_claimPiece]
  refine run_refused h ?_
  rw [State.requestClaim, withPiece_building _ hb hc, hr]

theorem requestClaim_taken {s : State} {pc : Piece} {code : Nat} (hb : s.rbu.record.state = .building)
    (hp : firstFailing (s.claimChecks pc) = none) (hc : code = pc.idx) : s.requestClaim code = s.takeClaim pc := by
  rw [State.requestClaim, withPiece_building _ hb hc, hp]

section
variable {s : State} {pc : Piece} {code : Payload} (h : s.ready .erector = true) (hc : code.toNat = pc.idx.val)
  (hb : (s.attended .erector).rbu.record.state = .building) (hp : firstFailing ((s.attended .erector).claimChecks pc) = none)
include h hc hb hp

theorem exec_claimPiece_queued (hreason : (s.attended .erector).claimReason pc ≠ 0)
    (hroom : (s.attended .erector).rbu.queue.length < 3) :
    exec (.claimPiece code) s =
      .next (((s.attended .erector).claimQueued pc).answer .erector 16
        { outcome := .queued, reason := (s.attended .erector).claimReason pc, skip := 0 }) := by
  rw [exec_claimPiece]
  refine run_request h ?_ ((quiet_of_watched rfl rfl).trans (ready_iff.mp h).2)
  rw [requestClaim_taken hb hp hc, takeClaim_queued hreason hroom]

theorem exec_claimPiece_full (hreason : (s.attended .erector).claimReason pc ≠ 0)
    (hfull : 3 ≤ (s.attended .erector).rbu.queue.length) :
    exec (.claimPiece code) s =
      .next ((s.attended .erector).answer .erector 16
        { outcome := .queueFull, reason := (s.attended .erector).claimReason pc, skip := 0 }) := by
  rw [exec_claimPiece]
  refine run_refused h ?_
  rw [requestClaim_taken hb hp hc, takeClaim_full hreason hfull]

/-- A granted piece with all its groups above CLEAR_STROKE awaits them all. -/
theorem exec_claimPiece_retracts (hreason : (s.attended .erector).claimReason pc = 0)
    (habove : ∀ g ∈ ((s.attended .erector).piece pc).groups, ((s.attended .erector).group g).state ∈ [GroupState.hold, .push] ∧
      (s.attended .erector).item .clearStroke < ((s.attended .erector).group g).stroke) :
    exec (.claimPiece code) s = .next (((s.attended .erector).claimMoved pc).answer .erector 16 .accepted) := by
  obtain ⟨-, hqueue⟩ := claimReason_eq_zero_iff.mp hreason
  have hquiet : ((s.attended .erector).claimMoved pc).quiet = true :=
    (quiet_of_watched ((watched_setEvent ((s.attended .erector).modPiece pc _) .claimGranted)) rfl).trans (ready_iff.mp h).2
  have hnotices : (s.attended .erector).notices = [] := (quiet_iff.mp (ready_iff.mp h).2).2
  rw [exec_claimPiece]
  refine run_request_moves (l := changeNotices (s.attended .erector) ((s.attended .erector).retractMove pc)) h ?_ hquiet
    (headWaits_of_empty hqueue) (noArrivals_changeNotices (s := s.attended .erector) fun g => ?_) (changeNotices_length _ _)
  · rw [requestClaim_taken hb hp hc, takeClaim_granted hreason, grant_moves, hnotices, List.nil_append]
  · rw [retractMove_above habove]
    split
    · exact .inr ⟨by simp, by simp⟩
    · exact .inl rfl

/-- A granted bearing piece, its groups at or below CLEAR_STROKE arriving at once (R84; log entry 10). -/
theorem exec_claimPiece_granted (hreason : (s.attended .erector).claimReason pc = 0)
    (hbear : (s.attended .erector).bearing pc) :
    exec (.claimPiece code) s = .next (((s.attended .erector).granted pc).answer .erector 16 .accepted) := by
  obtain ⟨hclaim, hqueue⟩ := claimReason_eq_zero_iff.mp hreason
  have hfrozen : (s.attended .erector).frozen = false := Bool.or_eq_false_iff.mpr hclaim.2.2
  have hquiet : ((s.attended .erector).answer .erector 16 .accepted).quiet = true := (quiet_answer ..).trans (ready_iff.mp h).2
  have howner : (s.attended .erector).requestClaim code.toNat = ((s.attended .erector).grant pc, .accepted) :=
    (requestClaim_taken hb hp hc).trans (takeClaim_granted hreason)
  rw [exec_claimPiece, run_request_settled h howner, grant_answer, granted_answer]
  refine congrArg _ (settle_grant hquiet hbear hfrozen (fun e he => ?_) (by decide))
  have hnone : (none : Option QueueEntry) = some e := (congrArg List.head? hqueue).symm.trans he
  cases hnone

end

/-- A granted piece whose groups are all at or below CLEAR_STROKE is CLEAR at once (R84; log entry 10). -/
theorem granted_clear {s : State} {pc : Piece}
    (h : ∀ g ∈ (s.piece pc).groups, (s.group g).stroke ≤ s.item .clearStroke) (hclaim : (s.piece pc).claimTime = none) :
    s.granted pc =
      (({ s with groups := mapIx s.groups fun g q =>
            if g ∈ (s.piece pc).groups then { q with state := .clear, owner := some pc, contact := false } else q }.modPiece pc
          fun r =>
            { r with
              state := .clear, claimTime := some s.seconds, awaited := []
              timer := { state := .stopped, kind := .none, left := 0 } }).setEvent .claimGranted).setEvent .pieceClear := by
  have hleft : s.leftToRetract pc = [] := List.filter_eq_nil_iff.mpr fun g hg => by
    simpa [State.toRetract] using h g hg
  have hgroups : s.lendGroups pc = mapIx s.groups fun g q =>
      if g ∈ (s.piece pc).groups then { q with state := .clear, owner := some pc, contact := false } else q :=
    mapIx_congr fun g => by
      by_cases hg : g ∈ (s.piece pc).groups
      · have hlow : ¬s.item .clearStroke < s.groups[g].stroke := Nat.not_lt.mpr (h g hg)
        rw [if_pos hg, if_pos hg, Group.lend, if_neg hlow]
      · rw [if_neg hg, if_neg hg]
  rw [granted_eq, if_pos hleft, State.lending, hgroups]
  refine congrArg (fun u : State => (u.setEvent .claimGranted).setEvent .pieceClear) (modPiece_congr ?_)
  have hpiece (gs : Vector Group 10) : ({ s with groups := gs } : State).piece pc = s.piece pc := rfl
  simp [hpiece, State.grantedRecord, PieceRecord.arrived, PieceTimer.idle, hclaim]

/-- Settles O26: the checks of Table 4-5 answer or the claim is taken, and Table 4-6 decides between the grant and the queue. -/
theorem claimsAreRefusedGrantedOrQueued : Obligations.ClaimsAreRefusedGrantedOrQueued := by
  refine ⟨⟨?taken, ?refused⟩, ?granted⟩
  case taken =>
    intro s pc code hready hcode u r lent reason hbuilding hpending horder hkey
    have hpass : firstFailing (u.claimChecks pc) = none := claimChecks_pass hpending horder hkey
    refine ⟨fun hreason hroom => exec_claimPiece_queued hready hcode hbuilding hpass hreason hroom,
      fun hreason hfull => exec_claimPiece_full hready hcode hbuilding hpass hreason hfull, fun hreason hclaim habove => ?_⟩
    obtain ⟨hclaimable, -⟩ := claimReason_eq_zero_iff.mp hreason
    rw [exec_claimPiece_retracts hready hcode hbuilding hpass hreason habove,
      claimMoved_above (Bool.or_eq_false_iff.mpr hclaimable.2.2) hclaim habove]
    rfl
  case refused =>
    intro s code hready u refuses
    refine ⟨fun h => run_refused hready (withPiece_elsewhere _ h), fun h hc => run_refused hready (withPiece_beyond _ h hc),
      fun pc hbuilding hcode => ?_⟩
    have hanswers {r : Reply} (hr : firstFailing (u.claimChecks pc) = some r) : refuses r :=
      exec_claimPiece_refused hready hcode hbuilding hr
    exact ⟨fun hstate => hanswers (claimChecks_not_pending hstate),
      fun hstate hk hother hnear => hanswers (claimChecks_out_of_order hstate hk hother hnear),
      fun hstate hk hother => hanswers (claimChecks_key_early hstate hk hother)⟩
  case granted =>
    intro s pc code hready hcode u r hbuilding hpending horder hkey hclaimable hqueue hbear
    have hpass : firstFailing (u.claimChecks pc) = none := claimChecks_pass hpending horder hkey
    have hgranted := exec_claimPiece_granted hready hcode hbuilding hpass (claimReason_eq_zero_iff.mpr ⟨hclaimable, hqueue⟩) hbear
    refine ⟨hgranted, fun hclear hclaim => ?_⟩
    rw [hgranted, granted_clear hclear hclaim]
    rfl

end Sys2Proof.Machine
end

section
/-! PIECE PLACED and WITHDRAW PIECE: the return of a piece's groups, and the withdrawal of a queued claim. -/

namespace Sys2Proof.Machine

theorem exec_withdrawPiece (code : Payload) (s : State) :
    exec (.withdrawPiece code) s = s.run fun t => t.request .erector 17 fun u => u.requestWithdraw code.toNat := rfl

theorem exec_piecePlaced (code : Payload) (s : State) :
    exec (.piecePlaced code) s = s.run fun t => t.request .erector 18 fun u => u.requestPlaced code.toNat := rfl

/-! ## The return of a piece's groups -/

/-- What the return request does to a group that is in RETRACT or CLEAR (R19, R22). -/
def Group.sentBack (forced : Bool) (full : Nat) (r : Group) : Group :=
  { r with state := .returning, dwellRef := r.stroke, dwell := if forced then none else some full }

/-- The part with a piece's groups sent back, before their notices are taken (R19, R85, R88, R89). -/
def State.sentBack (s : State) (pc : Piece) (st : PieceState) : State :=
  { s with groups := mapIx s.groups fun g q =>
    if g ∈ (s.piece pc).groups ∧ q.state ∈ [GroupState.retract, .clear] then q.sentBack s.frozen (s.item .contactDwell) else q }.modPiece
      pc fun r => { r with state := st, awaited := r.groups, timer := s.startedTimer .returning (1000 * s.item .returnTime) }

/-- The return request as a move of the group table (R19). -/
def State.returnMove (s : State) (pc : Piece) (g : GroupIx) (r : Group) : Group :=
  if (s.piece pc).groups.contains g then r.returnFor s.frozen (s.item .contactDwell) else r

theorem returnMove_eq (s : State) (pc : Piece) (g : GroupIx) (r : Group) :
    s.returnMove pc g r =
      if g ∈ (s.piece pc).groups ∧ r.state ∈ [GroupState.retract, .clear] then r.sentBack s.frozen (s.item .contactDwell) else r := by
  unfold State.returnMove Group.returnFor
  by_cases hg : g ∈ (s.piece pc).groups
  · cases hs : r.state <;> simp [hg, Group.sentBack]
  · simp [hg]

theorem sendBack_eq (s : State) (pc : Piece) (st : PieceState) :
    s.sendBack pc st = (s.sentBack pc st).waiting (s.notices ++ changeNotices s (s.returnMove pc)) := by
  have hmoved : mapIx s.groups (s.returnMove pc) = mapIx s.groups fun g q =>
      if g ∈ (s.piece pc).groups ∧ q.state ∈ [GroupState.retract, .clear] then q.sentBack s.frozen (s.item .contactDwell) else q :=
    mapIx_congr fun g => returnMove_eq s pc g _
  have hsent : s.sendBack pc st =
      { s.modPiece pc fun r =>
          { r with state := st, awaited := r.groups, timer := s.startedTimer .returning (1000 * s.item .returnTime) } with
        groups := mapIx s.groups (s.returnMove pc), notices := s.notices ++ changeNotices s (s.returnMove pc) } :=
    changeGroups_eq _ _
  rw [hsent, hmoved]
  rfl

/-- The groups that are sent back arrive nowhere yet (R25). -/
theorem noArrivals_returnMove (s : State) (pc : Piece) : noArrivals (changeNotices s (s.returnMove pc)) :=
  noArrivals_changeNotices fun g => by
    rw [returnMove_eq]
    split
    · exact .inr ⟨by simp [Group.sentBack], by simp [Group.sentBack]⟩
    · exact .inl rfl

/-- In a part at rest a request that sends a piece back is the return alone: the claim queue is empty, or the forcing keeps its head
waiting (R81, R88). -/
theorem run_sendBack {s : State} {pc : Piece} {st : PieceState} {c : Nat} {owner : State → State × Reply} (h : s.ready .erector = true)
    (ho : owner (s.attended .erector) = ((s.attended .erector).sendBack pc st, .accepted))
    (hw : (s.attended .erector).rbu.queue = [] ∨ (s.attended .erector).frozen = true) :
    s.run (fun u => u.request .erector c owner) = .next (((s.attended .erector).sentBack pc st).answer .erector c .accepted) := by
  have hnotices : (s.attended .erector).notices = [] := (quiet_iff.mp (ready_iff.mp h).2).2
  have hwaits : ((s.attended .erector).sentBack pc st).headWaits := by
    rcases hw with hqueue | hfrozen
    · exact headWaits_of_empty hqueue
    · exact headWaits_of_frozen hfrozen
  refine run_request_moves h ?_ ((quiet_of_watched rfl rfl).trans (ready_iff.mp h).2) hwaits
    (noArrivals_returnMove (s.attended .erector) pc) (changeNotices_length _ _)
  rw [ho, sendBack_eq, hnotices, List.nil_append]

/-! ## The answers by the piece's state -/

theorem isHead_iff {s : State} {pc : Piece} : s.isHead pc = true ↔ s.rbu.queue.head?.map QueueEntry.piece = some pc := by
  unfold State.isHead
  cases s.rbu.queue.head? <;> simp

section
variable {s : State} {pc : Piece} {code : Nat} (hb : s.rbu.record.state = .building) (hc : code = pc.idx)
include hb hc

theorem requestPlaced_clear (h : (s.piece pc).state = .clear) : s.requestPlaced code = (s.sendBack pc .placed, .accepted) := by
  rw [State.requestPlaced, withPiece_building _ hb hc, h]

theorem requestPlaced_refused (h : (s.piece pc).state ≠ .clear) : s.requestPlaced code = (s, .refusedState 2) := by
  rw [State.requestPlaced, withPiece_building _ hb hc]
  split
  · next hclear => exact absurd hclear h
  · rfl

theorem requestWithdraw_sends (h : (s.piece pc).state = .retracting ∨ (s.piece pc).state = .clear) :
    s.requestWithdraw code = (s.sendBack pc .releasing, .accepted) := by
  rw [State.requestWithdraw, withPiece_building _ hb hc]
  rcases h with h | h <;> rw [h]

theorem requestWithdraw_queued (h : (s.piece pc).state = .queued) :
    s.requestWithdraw code = (if s.isHead pc then (s.dequeue pc).examineHead else s.dequeue pc, .accepted) := by
  rw [State.requestWithdraw, withPiece_building _ hb hc, h]

/-- The states in which WITHDRAW PIECE is refused, each with its reason (R89). -/
def withdrawRefusals : List (PieceState × Nat) := [(.pending, 2), (.placed, 3), (.set, 3), (.releasing, 4)]

theorem requestWithdraw_refused {n : Nat} (h : ((s.piece pc).state, n) ∈ withdrawRefusals) :
    s.requestWithdraw code = (s, .refusedState n) := by
  simp only [withdrawRefusals, List.mem_cons, Prod.mk.injEq, List.not_mem_nil, or_false] at h
  rw [State.requestWithdraw, withPiece_building _ hb hc]
  rcases h with ⟨h, rfl⟩ | ⟨h, rfl⟩ | ⟨h, rfl⟩ | ⟨h, rfl⟩ <;> rw [h]

end

/-- The withdrawn claim's entry goes, and the new head of the queue is examined (R81, R89). -/
theorem exec_withdrawPiece_head {s : State} {pc : Piece} {code : Payload} (h : s.ready .erector = true)
    (hc : code.toNat = pc.idx.val) (hb : (s.attended .erector).rbu.record.state = .building)
    (hq : ((s.attended .erector).piece pc).state = .queued) (hhead : (s.attended .erector).isHead pc = true) :
    ∃ v, exec (.withdrawPiece code) s = .next v ∧
      (((s.attended .erector).dequeue pc).answer .erector 17 .accepted).examinesTo v := by
  have hquiet : (((s.attended .erector).dequeue pc).answer .erector 17 .accepted).quiet = true :=
    (quiet_answer ..).trans ((quiet_of_watched rfl rfl).trans (ready_iff.mp h).2)
  refine ⟨_, ?_, examinesTo_settle hquiet (n := settleBound) (by decide)⟩
  have howner := requestWithdraw_queued hb hc hq
  rw [if_pos hhead] at howner
  rw [exec_withdrawPiece, run_request_settled h howner, examineHead_answer]
  rfl

/-- Settles O27: each state of the piece has its answer, and a return and a withdrawal are followed to their ends. -/
theorem piecesAreSentBack : Obligations.PiecesAreSentBack := by
  refine ⟨?free, ?refused, ?forced⟩
  case free =>
    intro s pc code hready hcode u sent refuses hbuilding
    refine ⟨fun hqueue hstop hfreeze => ?_, fun hqueued hhead => ?_, fun hstate => ?_, fun hstate => ?_, fun hstate => ?_,
      fun hstate => ?_⟩
    · have hsent (st : PieceState) : u.sentBack pc st = sent st := by
        have hfrozen : u.frozen = false := Bool.or_eq_false_iff.mpr ⟨hfreeze, hstop⟩
        unfold State.sentBack State.startedTimer
        rw [hfrozen]
        rfl
      rw [← hsent, ← hsent]
      exact ⟨fun hclear => run_sendBack hready (requestPlaced_clear hbuilding hcode hclear) (.inl hqueue),
        fun hstate => run_sendBack hready (requestWithdraw_sends hbuilding hcode hstate) (.inl hqueue)⟩
    · refine run_request hready ?_ ((quiet_of_watched rfl rfl).trans (ready_iff.mp hready).2)
      rw [requestWithdraw_queued hbuilding hcode hqueued, if_neg fun h => hhead (isHead_iff.mp h)]
      rfl
    · exact run_refused hready (requestPlaced_refused hbuilding hcode hstate)
    · exact run_refused hready (requestWithdraw_refused hbuilding hcode (by rw [hstate]; decide))
    · refine run_refused hready (requestWithdraw_refused hbuilding hcode ?_)
      rcases hstate with hstate | hstate <;> rw [hstate] <;> decide
    · exact run_refused hready (requestWithdraw_refused hbuilding hcode (by rw [hstate]; decide))
  case refused =>
    intro s code hready u refused
    exact ⟨fun h => ⟨run_refused hready (withPiece_elsewhere _ h), run_refused hready (withPiece_elsewhere _ h)⟩,
      fun h hc => ⟨run_refused hready (withPiece_beyond _ h hc), run_refused hready (withPiece_beyond _ h hc)⟩⟩
  case forced =>
    intro s pc code hready hcode u forced taken hbuilding
    refine ⟨fun hforced => ?_, fun hqueued hhead => ?_⟩
    · have hfrozen : u.frozen = true := by
        rcases hforced with h | h <;> simp [State.frozen, h]
      have hsent (st : PieceState) : u.sentBack pc st = forced st := by
        unfold State.sentBack State.startedTimer
        rw [hfrozen]
        rfl
      rw [← hsent, ← hsent]
      exact ⟨fun hclear => run_sendBack hready (requestPlaced_clear hbuilding hcode hclear) (.inr hfrozen),
        fun hstate => run_sendBack hready (requestWithdraw_sends hbuilding hcode hstate) (.inr hfrozen)⟩
    · exact exec_withdrawPiece_head hready hcode hbuilding hqueued (isHead_iff.mpr hhead)

end Sys2Proof.Machine
end

section
/-! The completion of the ring: what the last arrival in HOLD leaves of the record, the history and the cycle, and which faults it can
move. -/

namespace Sys2Proof.Machine

/-! ## What the FSV makes known -/

theorem foldl_sends {α : Type} (l : List α) (c : α → Bool) (n : α → Notice) (s : State) :
    l.foldl (fun t a => if c a then t.send (n a) else t) s = s.waiting (s.notices ++ (l.filter c).map n) := by
  induction l generalizing s with
  | nil => simp [State.waiting]
  | cons a l ih =>
    rw [List.foldl_cons, ih]
    cases hc : c a
    · simp [hc]
    · simp [hc, State.send, State.waiting]

/-- The actions that are in the action set of one fault list and not of another. -/
def enteringSince (before now : Faults) : List Action := allActions.filter fun a => !before.inForce a && now.inForce a

/-- The actions that enter are made known first, then those that leave (R152). -/
theorem announce_eq (s : State) (before : Faults) :
    s.announce before =
      s.waiting (s.notices ++ (enteringSince before s.fsv).map .actionEnters
        ++ (allActions.filter fun a => before.inForce a && !s.fsv.inForce a).map .actionLeaves) := by
  have hentering : s.announceEntering before = s.waiting (s.notices ++ (enteringSince before s.fsv).map .actionEnters) :=
    foldl_sends _ _ _ _
  rw [State.announce, hentering]
  exact foldl_sends _ _ _ _

/-- The clearance of a condition changes no other (R144). -/
theorem clearCondition_condition (s : State) (key other : FaultKey) : (s.clearCondition key).condition other = s.condition other := by
  rw [State.clearCondition, announce_eq]
  exact condition_of_watched (s := s.modFsv fun f => { f with marks := s.fsv.marks }) rfl other

/-! ## The record and the cycle -/

/-- The ring record once its last piece is SET (R91). -/
def RingRecord.completed (r : RingRecord) (now : Nat) (counters : Vector Nat 12) : RingRecord :=
  { r with state := .complete, buildDuration := r.buildStart.map fun t => secondsSince t now, faultCounts := counters }

/-- What the RBU holds once its open record is COMPLETE (R91, R92). -/
def RingBuild.completed (b : RingBuild) (now : Nat) (counters : Vector Nat 12) : RingBuild :=
  { b with
    record := b.record.completed now counters, lastCompleted := b.record.number
    history := ((b.record.completed now counters).historyEntry :: b.history).take historyRoom }

def State.recordCompleted (s : State) : State := { s with rbu := s.rbu.completed s.seconds s.fsv.counters }

/-- The part in STANDSTILL with a ring start pending (R44). -/
def State.ringClosed (s : State) : State :=
  s.modAdu fun a => { a with ringStartPending := true, cycle := .standstill, permitKept := false, rateLevel := 0 }

theorem FaultWork.modAdu {s t : State} (h : FaultWork s t) (f : Advance → Advance) : FaultWork (s.modAdu f) (t.modAdu f) :=
  ⟨by rw [h.eq]; rfl, h.inForce, h.events⟩

/-- The record as its completion leaves it and ERECTOR's silence judged at once (R165). -/
def State.completionJudged (s : State) : State := s.recordCompleted.judgeKeys [.stationSilent .erector]

theorem completionJudged_work (s : State) : FaultWork s.recordCompleted s.completionJudged := FaultWork.judgeKeys _ _

section
variable {s : State} (hc : s.adu.cycle = .ringBuild) (ha : s.adu.a ≤ s.act.aAcc)
include hc ha

theorem takeCompletion_closes : s.takeCompletion = s.ringClosed.judgeKeys cycleKeys := by
  have hentered : (s.modAdu fun a => { a with ringStartPending := true }).enterCycle .standstill = s.ringClosed.judgeKeys cycleKeys := by
    rw [State.enterCycle, judgeRate_cycledTo _ (by decide)]
    rfl
  have hwork := FaultWork.judgeKeys s.ringClosed cycleKeys
  have hleft : (s.ringClosed.judgeKeys cycleKeys).adu.a ≤ (s.ringClosed.judgeKeys cycleKeys).act.aAcc := by
    rw [hwork.eq]; exact ha
  unfold State.takeCompletion State.enterStandstill
  dsimp only
  rw [if_pos (by simp [hc]), hentered, flush_of_accrued hleft]

/-- The completion as one operation between two judgments of conditions (R44, R91, R92). -/
theorem completeRing_eq :
    s.completeRing = (s.completionJudged.setEvent .ringComplete).ringClosed.judgeKeys cycleKeys := by
  have hwork := (completionJudged_work s).trans (.setEvent _ .ringComplete)
  exact takeCompletion_closes (s := s.completionJudged.setEvent .ringComplete) (by rw [hwork.eq]; exact hc) (by rw [hwork.eq]; exact ha)

theorem completeRing_work : FaultWork s.recordCompleted.ringClosed s.completeRing := by
  rw [completeRing_eq hc ha]
  exact (((completionJudged_work s).trans (.setEvent _ .ringComplete)).modAdu _).trans (.judgeKeys _ _)

theorem completeRing_ringComplete : s.completeRing.eventSet .ringComplete = true := by
  rw [completeRing_eq hc ha]
  exact (FaultWork.judgeKeys _ _).events .ringComplete (setEvent_eventSet _ _ _ (.inl rfl))

end

/-! ## The conditions at the completion -/

/-- Only ERECTOR's silence depends on the ring record (R165). -/
theorem condition_rbu (s : State) (b : RingBuild) {key : FaultKey} (h : key ≠ .stationSilent .erector) :
    ({ s with rbu := b } : State).condition key = s.condition key := by
  cases key with
  | stationSilent st =>
    cases st with
    | erector => exact absurd rfl h
    | cabin | grout | muck => rfl
  | _ => rfl

/-- A COMPLETE record obliges ERECTOR no longer, so at most its silence is reported cleared (R165). -/
theorem completionJudged_cases (s : State) :
    s.completionJudged = s.recordCompleted ∨
    s.completionJudged = s.recordCompleted.clearCondition (.stationSilent .erector) := by
  by_cases hagrees : s.recordCompleted.agrees (.stationSilent .erector)
  · exact .inl (judgeKeys_of_agrees (by simpa using hagrees))
  · have habsent : s.recordCompleted.condition (.stationSilent .erector) = false := Bool.and_false _
    have hjudged : s.completionJudged = s.recordCompleted.report (.stationSilent .erector) := if_pos (bne_iff_ne.mpr hagrees)
    rw [hjudged, State.report, if_neg (by simp [habsent])]
    exact .inr rfl

theorem completionJudged_condition (s : State) (key : FaultKey) :
    s.completionJudged.condition key = s.recordCompleted.condition key := by
  rcases completionJudged_cases s with h | h
  · rw [h]
  · rw [h, clearCondition_condition]

theorem completionJudged_counters (s : State) : s.completionJudged.fsv.counters = s.fsv.counters := by
  rcases completionJudged_cases s with h | h
  · rw [h]; rfl
  · rw [h, clearCondition_counters]; rfl

theorem completionJudged_present {s : State} (h : s.unmarked = none) (hp : (s.port .erector).present = true) :
    s.completionJudged.fsv = s.fsv := by
  have hpresent : s.recordCompleted.agrees (.stationSilent .erector) := by
    have hmarked : s.condition (.stationSilent .erector) = s.fsv.marked (.stationSilent .erector) :=
      agrees_of_unmarked h rfl
    have hbefore : s.condition (.stationSilent .erector) = false := by simp [State.condition, hp]
    exact (Bool.and_false _).trans (hbefore.symm.trans hmarked)
  have hsame : s.completionJudged = s.recordCompleted := judgeKeys_of_agrees (by simpa using hpresent)
  rw [hsame]
  rfl

/-- Where every condition was judged, the end of RING_BUILD moves none (R134 to R136, R165). -/
theorem completeRing_fsv {s : State} (hc : s.adu.cycle = .ringBuild) (ha : s.adu.a ≤ s.act.aAcc) (h : s.unmarked = none) :
    s.completeRing.fsv = s.completionJudged.fsv := by
  have hne {key : FaultKey} (hkey : key ∈ cycleKeys) : key ≠ .stationSilent .erector ∧ key.idx ≠ (FaultKey.stationSilent .erector).idx := by
    revert key; decide
  have hcycle : (s.completionJudged.setEvent .ringComplete).adu.cycle = .ringBuild := by
    rw [setEvent_adu, (completionJudged_work s).eq]
    exact hc
  have hagree : ∀ key ∈ cycleKeys, (s.completionJudged.setEvent .ringComplete).ringClosed.agrees key := fun key hkey => by
    obtain ⟨hkeyne, hidx⟩ := hne hkey
    have hcondition : (s.completionJudged.setEvent .ringComplete).ringClosed.condition key = s.condition key :=
      calc (s.completionJudged.setEvent .ringComplete).ringClosed.condition key
        _ = (s.completionJudged.setEvent .ringComplete).condition key :=
          condition_modAdu (by rw [hcycle]; rfl) (by rw [hcycle]; rfl) key
        _ = s.completionJudged.condition key := condition_of_watched (watched_setEvent ..) key
        _ = s.recordCompleted.condition key := completionJudged_condition s key
        _ = s.condition key := condition_rbu s _ hkeyne
    have hmarked : (s.completionJudged.setEvent .ringComplete).ringClosed.fsv.marked key = s.fsv.marked key :=
      judgeKeys_marked s.recordCompleted (by simpa using hidx.symm)
    rw [State.agrees, hcondition, hmarked]
    exact agrees_of_unmarked h (measured_of_mem_cycleKeys hkey)
  rw [completeRing_eq hc ha, judgeKeys_of_agrees hagree]
  rfl

/-! ## The last arrival -/

/-- The part with its last piece SET. -/
def State.lastSet (s : State) (pc : Piece) : State := (s.modPiece pc fun r => r.arrived .set).setEvent .pieceSet

theorem lastSet_piece (s : State) (pc q : Piece) :
    (s.lastSet pc).piece q = if pc = q then (s.piece q).arrived .set else s.piece q := modPiece_piece s pc q _

/-- With every other piece SET the last arrival of a PLACED piece completes the ring (R86, R91). -/
theorem arriveHold_completes {s : State} {g : GroupIx} {pc : Piece} (hs : (s.piece pc).state = .placed)
    (hlast : (s.piece pc).awaited.filter (fun k => k != g) = []) (hothers : ∀ q, q ≠ pc → (s.piece q).state = .set) :
    s.arriveHold g pc = (s.lastSet pc).completeRing := by
  have hall : (s.lastSet pc).allSet = true := List.all_eq_true.mpr fun q _ => by
    rw [lastSet_piece]
    split
    · rfl
    · next hne => simpa using hothers q (Ne.symm hne)
  unfold State.arriveHold
  simp only [hs, hlast, List.isEmpty_nil, if_true]
  exact if_pos hall

theorem secondsSince_eq {start now : Nat} (hs : start < 2 ^ 30) (hn : now < 2 ^ 30) :
    secondsSince start now = if start ≤ now then now - start else now + 2 ^ 30 - start := by
  unfold secondsSince
  split <;> omega

/-- Settles O28: the arrival is the completion of the ring, and the judgments about it change only the FSV's records and the ports. -/
theorem lastArrivalCompletesTheRing : Obligations.LastArrivalCompletesTheRing := by
  intro s g pc began hqueue hplaced hawaited hothers hcycle ha hbegan hb hn t
  have hw := completeRing_work (s := s.lastSet pc) hcycle ha
  have ht : t = (s.lastSet pc).completeRing := by
    have harrives : s.arriveHold g pc = (s.lastSet pc).completeRing :=
      arriveHold_completes hplaced (by simp [hawaited]) hothers
    have hempty : (s.lastSet pc).completeRing.rbu.queue = [] := by rw [hw.eq]; exact hqueue
    exact (congrArg State.examineHead harrives).trans (examineHead_empty hempty)
  have hrbu : t.rbu = (s.lastSet pc).rbu.completed s.seconds s.fsv.counters := by rw [ht, hw.eq]; rfl
  have hpiece (q : Piece) : t.piece q = if pc = q then (s.piece q).arrived .set else s.piece q :=
    (congrArg (fun b : RingBuild => b.record.pieces[q.idx]) hrbu).trans (lastSet_piece s pc q)
  refine ⟨by rw [hrbu]; rfl, fun q => ?_, by rw [hpiece, if_pos rfl]; rfl, ?_, by rw [hrbu]; rfl, by rw [hrbu]; rfl, ?_,
    by rw [hrbu]; rfl, ?_, ?_, ?_, by rw [ht, hw.eq]; rfl, by rw [ht, hw.eq]; rfl, by rw [ht, hw.eq]; rfl, by rw [ht, hw.eq]; rfl,
    by rw [ht, hw.eq]; rfl, by rw [ht, hw.eq]; rfl, fun hu => ?_⟩
  · rw [hpiece]
    split
    · rfl
    · next hne => exact hothers q (Ne.symm hne)
  · rw [hrbu, ← secondsSince_eq hb hn]
    exact congrArg (Option.map fun start => secondsSince start s.seconds) hbegan
  · rw [hrbu]
    exact List.length_take
  · rw [hrbu, ← hbegan]
    rfl
  · rw [ht]
    exact hw.events .pieceSet (setEvent_eventSet _ _ _ (.inl rfl))
  · rw [ht]
    exact completeRing_ringComplete (s := s.lastSet pc) hcycle ha
  · have hset : (s.lastSet pc).unmarked = none := (unmarked_of_watched (watched_setEvent ..)).trans hu
    rw [ht, completeRing_fsv (s := s.lastSet pc) hcycle ha hset]
    refine ⟨completionJudged_counters (s.lastSet pc), fun hpresent => completionJudged_present hset ?_⟩
    have hseen := (seen_of_watched (watched_setEvent (s.modPiece pc fun r => r.arrived .set) .pieceSet) .erector).1
    exact hseen.trans hpresent

end Sys2Proof.Machine
end

section
/-! The ends of the RBU's times: CLAIM_TIMEOUT and the freeze of the build, a queued claim's wait, and the examination of the head of the
claim queue. -/

namespace Sys2Proof.Machine

theorem exec_pieceTimerExpiry (pc : Piece) (s : State) :
    exec (.pieceTimerExpiry pc) s = s.run fun t => (t.expirePieceTimer pc).settled := rfl

theorem exec_queueWaitExpiry (pc : Piece) (s : State) :
    exec (.queueWaitExpiry pc) s = s.run fun t => (t.expireWait pc).settled := rfl

/-! ## The raise of CLAIM_TIMEOUT -/

/-- The entry that a CLAIM_TIMEOUT makes in mode 2 (R142). -/
def State.timeoutEntry (s : State) (pc : Piece) : FaultEntry :=
  { key := .claimTimeout pc, mode := 2, state := .latched, retryLeft := none, ring := s.rbu.record.number.getD 0
    aAcc := s.act.aAcc, time := s.seconds }

/-- The first-fault record after a CLAIM_TIMEOUT has been offered to it (R150). -/
def State.timeoutFirst (s : State) (pc : Piece) : FirstFault :=
  match s.fsv.first with
  | none =>
    { key := .claimTimeout pc, ring := s.rbu.record.number.getD 0, a := s.adu.a, cycle := s.adu.cycle, time := s.seconds, later := 0 }
  | some r => { r with later := min 32767 (r.later + 1) }

/-- What the FSV holds after a CLAIM_TIMEOUT that latches a new entry (R142, R150). -/
def State.timeoutFaults (s : State) (pc : Piece) : Faults :=
  { s.fsv with
    entries := s.fsv.entries ++ [s.timeoutEntry pc], first := some (s.timeoutFirst pc)
    counters := modAt s.fsv.counters 4 fun n => min 32767 (n + 1) }

/-- The part after a CLAIM_TIMEOUT that latches a new entry, before the action set is judged again (R142). -/
def State.timeoutRaised (s : State) (pc : Piece) : State :=
  let t := (({ s with fsv := s.timeoutFaults pc } : State).setEvent .faultRaised).setEvent .erectorFault
  if s.fsv.first = none then t.setEvent .firstFault else t

theorem offerFirst_none {s : State} (h : s.fsv.first = none) (key : FaultKey) :
    s.offerFirst key =
      (s.modFsv fun f =>
        { f with first := some ({ key, ring := s.ringNumber, a := s.adu.a, cycle := s.adu.cycle, time := s.seconds, later := 0 } :
            FirstFault) }).setEvent .firstFault := by
  rw [State.offerFirst, h]

theorem offerFirst_some {s : State} {r : FirstFault} (h : s.fsv.first = some r) (key : FaultKey) :
    s.offerFirst key = s.modFsv fun f => { f with first := some { r with later := addUpTo 32767 r.later 1 } } := by
  rw [State.offerFirst, h]

section
variable {s : State} {pc : Piece} (hfind : s.fsv.find (.claimTimeout pc) = none) (hroom : s.fsv.entries.length < 16)
include hfind hroom

theorem raisedList_timeout :
    (s.countRaise (.claimTimeout pc)).raisedList (.claimTimeout pc) 2 =
      { (s.countRaise (.claimTimeout pc)).fsv with entries := s.fsv.entries ++ [s.timeoutEntry pc] } := by
  have hnone : (s.countRaise (.claimTimeout pc)).fsv.find (.claimTimeout pc) = none := hfind
  unfold State.raisedList
  dsimp only
  rw [hnone]
  exact if_pos hroom

theorem raiseUnder_timeout : s.raiseUnder (.claimTimeout pc) 2 = s.timeoutRaised pc := by
  have hraised : s.raiseUnder (.claimTimeout pc) 2 =
      (((({ s with fsv := (s.countRaise (.claimTimeout pc)).raisedList (.claimTimeout pc) 2 } : State).offerFirst
        (.claimTimeout pc)).setEvent .faultRaised).setEvent .erectorFault) := if_pos (Bool.or_true _)
  rw [hraised, raisedList_timeout hfind hroom]
  unfold State.timeoutRaised State.timeoutFaults State.timeoutFirst
  cases hfirst : s.fsv.first with
  | none =>
    rw [offerFirst_none (by exact hfirst), setEvent_comm _ .firstFault .faultRaised, setEvent_comm _ .firstFault .erectorFault]
    rfl
  | some r =>
    rw [offerFirst_some (by exact hfirst)]
    rfl

end

/-- A latched CLAIM_TIMEOUT brings CLAIM_FREEZE and no other action (Table 8-1). -/
theorem timeoutFaults_inForce (s : State) (pc : Piece) (a : Action) :
    (s.timeoutFaults pc).inForce a = (s.inForce a || a == .claimFreeze) := by
  have hbrings : ((s.timeoutEntry pc).stops && (actionsOf (s.timeoutEntry pc).key).contains a) = (a == .claimFreeze) := by
    cases a <;> rfl
  have hentries : (s.timeoutFaults pc).entries.any (fun e => e.stops && (actionsOf e.key).contains a) =
      (s.fsv.entries.any (fun e => e.stops && (actionsOf e.key).contains a) || a == .claimFreeze) := by
    rw [← hbrings]
    exact List.any_append.trans (congrArg _ (Bool.or_false _))
  unfold State.inForce Faults.inForce
  rw [hentries, Bool.or_right_comm]
  rfl

theorem timeoutRaised_fsv (s : State) (pc : Piece) : (s.timeoutRaised pc).fsv = s.timeoutFaults pc := by
  unfold State.timeoutRaised
  dsimp only
  split <;> rfl

/-- Where the build is not frozen yet, a latched CLAIM_TIMEOUT lets CLAIM_FREEZE enter and nothing else (R152). -/
theorem announce_timeout {s : State} (pc : Piece) (hfree : s.inForce .claimFreeze = false) :
    (s.timeoutRaised pc).announce s.fsv =
      (s.timeoutRaised pc).waiting ((s.timeoutRaised pc).notices ++ [.actionEnters .claimFreeze]) := by
  have henters : enteringSince s.fsv (s.timeoutFaults pc) = [.claimFreeze] := by
    have hnew (a : Action) : (!s.fsv.inForce a && (s.timeoutFaults pc).inForce a) = (a == .claimFreeze) := by
      rw [timeoutFaults_inForce]
      by_cases ha : a = .claimFreeze
      · have hbefore : s.fsv.inForce .claimFreeze = false := hfree
        simp [ha, hbefore]
      · have hother : (a == .claimFreeze) = false := beq_false_of_ne ha
        rw [hother, Bool.or_false]
        exact Bool.not_and_self _
    unfold enteringSince
    rw [funext hnew]
    rfl
  have hleaves : (allActions.filter fun a => s.fsv.inForce a && !(s.timeoutFaults pc).inForce a) = [] :=
    List.filter_eq_nil_iff.mpr fun a _ => by
      rw [timeoutFaults_inForce]
      simp only [State.inForce]
      cases s.fsv.inForce a <;> simp
  rw [announce_eq, timeoutRaised_fsv, henters, hleaves]
  simp

/-- A CLAIM_TIMEOUT that latches a new entry where the build is not frozen yet (R142, R152). -/
theorem raise_timeout {s : State} {pc : Piece} (hmode : s.item (.faultMode 4) = 2) (hfind : s.fsv.find (.claimTimeout pc) = none)
    (hroom : s.fsv.entries.length < 16) (hfree : s.inForce .claimFreeze = false) :
    s.raise (.claimTimeout pc) =
      (s.timeoutRaised pc).waiting ((s.timeoutRaised pc).notices ++ [.actionEnters .claimFreeze]) := by
  have hconfigured : s.faultMode (.claimTimeout pc) = 2 := hmode
  unfold State.raise
  rw [hconfigured, raiseUnder_timeout hfind hroom, announce_timeout pc hfree]
  rfl

/-! ## The freeze of the build -/

/-- A group under a forcing: its dwell time does not run (R22). -/
def Group.forced (r : Group) : Group := if r.state = GroupState.returning then { r with dwell := none } else r

/-- A piece under a forcing: its timer does not run (R88). -/
def PieceRecord.forced (q : PieceRecord) : PieceRecord :=
  if q.timer.state = TimerState.running then { q with timer := { q.timer with state := .suspended } } else q

/-- The part with another group table and other piece records. -/
def State.withBuild (s : State) (groups : Vector Group 10) (pieces : Vector PieceRecord 7) : State :=
  { s with groups := groups, rbu := { s.rbu with record := { s.rbu.record with pieces := pieces } } }

/-- The part once CLAIM_FREEZE has entered (R22, R88). -/
def State.buildFrozen (s : State) : State :=
  s.withBuild (mapIx s.groups fun _ r => r.forced) (mapIx s.rbu.record.pieces fun _ q => q.forced)

theorem take_freeze (s : State) : s.take (.actionEnters .claimFreeze) = s.buildFrozen := by
  show s.stopDwells.suspendTimers = _
  rw [stopDwells_eq, suspendTimers_eq]
  rfl

/-- The part once the last forcing has ended: the RETURN groups dwell anew and the suspended timers run (R22, R88). -/
def State.buildResumed (s : State) : State :=
  { s with groups := mapIx s.groups fun _ (r : Group) =>
    if r.state = GroupState.returning then { r with dwellRef := r.stroke, dwell := some (s.item .contactDwell) } else r
    }.modRecord fun r =>
  { r with pieces := mapIx r.pieces fun _ (q : PieceRecord) =>
    if q.timer.state = TimerState.suspended then { q with timer := { q.timer with state := .running } } else q }

theorem take_unfreeze (s : State) :
    s.take (.actionLeaves .claimFreeze) = (if s.inForce .claimFreeze = true ∨ s.estop = true then s else s.buildResumed).examineHead := by
  have hforced : s.frozen = true ↔ s.inForce .claimFreeze = true ∨ s.estop = true := Bool.or_eq_true_iff
  refine congrArg State.examineHead (a₁ := s.restartDwells.resumeTimers) ?_
  by_cases h : s.frozen = true
  · have hrestart : s.restartDwells = s := if_pos h
    rw [if_pos (hforced.mp h), hrestart]
    exact if_pos h
  · have hfree : s.frozen = false := by simpa using h
    rw [if_neg fun hf => h (hforced.mpr hf), restartDwells_of_not_frozen hfree]
    exact resumeTimers_of_not_frozen hfree

/-! ## The end of a piece timer -/

/-- The record of a piece whose timer has run out, its kind kept (R87). -/
def PieceRecord.timedOut (q : PieceRecord) : PieceRecord := { q with timer := { q.timer with state := .expired, left := 0 } }

theorem mapIx_modAt {α β : Type} {n : Nat} (t : Vector α n) (i : Fin n) (f : α → α) (g : Fin n → α → β) :
    mapIx (modAt t i f) g = mapIx t fun j a => g j (if j = i then f a else a) := by
  ext j hj : 1
  have hmod := modAt_getElem t i ⟨j, hj⟩ f
  have hl := mapIx_getElem (modAt t i f) g ⟨j, hj⟩
  have hr := mapIx_getElem t (fun j a => g j (if j = i then f a else a)) ⟨j, hj⟩
  simp only [Fin.getElem_fin] at hmod hl hr
  rw [hl, hr, hmod]
  simp only [eq_comm]

theorem expirePieceTimer_idle {s : State} {pc : Piece} (h : (s.piece pc).timer.state ≠ .running) : s.expirePieceTimer pc = s := by
  simp [State.expirePieceTimer, h]

theorem expirePieceTimer_running {s : State} {pc : Piece} (h : (s.piece pc).timer.state = .running) :
    s.expirePieceTimer pc = (s.modPiece pc PieceRecord.timedOut).raise (.claimTimeout pc) := by
  rw [State.expirePieceTimer, h]
  rfl

/-- The part with a piece's timer run out and the rest of the build frozen (R22, R87, R88). -/
def State.buildTimedOut (s : State) (pc : Piece) : State :=
  s.withBuild (mapIx s.groups fun _ r => r.forced)
    (mapIx s.rbu.record.pieces fun i q => if i = pc.idx then q.timedOut else q.forced)

theorem buildFrozen_timedOut (s : State) (pc : Piece) : (s.modPiece pc PieceRecord.timedOut).buildFrozen = s.buildTimedOut pc := by
  have hpieces : mapIx (modAt s.rbu.record.pieces pc.idx PieceRecord.timedOut) (fun _ q => q.forced) =
      mapIx s.rbu.record.pieces fun i q => if i = pc.idx then q.timedOut else q.forced := by
    rw [mapIx_modAt]
    refine mapIx_congr fun i => ?_
    split <;> rfl
  exact congrArg (s.withBuild (mapIx s.groups fun _ r => r.forced)) hpieces

theorem buildFrozen_timeoutRaised (s : State) (pc : Piece) : (s.timeoutRaised pc).buildFrozen = s.buildFrozen.timeoutRaised pc := by
  unfold State.timeoutRaised
  dsimp only
  split
  · next h => exact (if_pos (c := s.buildFrozen.fsv.first = none) h).symm
  · next h => exact (if_neg (c := s.buildFrozen.fsv.first = none) h).symm

theorem timeoutRaised_watched (s : State) (pc : Piece) : (s.timeoutRaised pc).watched = s.watched := by
  unfold State.timeoutRaised
  dsimp only
  split <;> simp only [watched_setEvent] <;> rfl

theorem timeoutRaised_notices (s : State) (pc : Piece) : (s.timeoutRaised pc).notices = s.notices := by
  unfold State.timeoutRaised
  dsimp only
  split <;> rfl

/-- In a part at rest the end of a running piece timer latches CLAIM_TIMEOUT, and the freeze that it brings is all it sets going. -/
theorem exec_pieceTimerExpiry_running {s : State} {pc : Piece} (hc : s.calm = true) (hrun : (s.piece pc).timer.state = .running)
    (hmode : s.item (.faultMode 4) = 2) (hfind : s.fsv.find (.claimTimeout pc) = none) (hroom : s.fsv.entries.length < 16)
    (hfree : s.inForce .claimFreeze = false) :
    exec (.pieceTimerExpiry pc) s = .next ((s.modPiece pc PieceRecord.timedOut).timeoutRaised pc).buildFrozen := by
  obtain ⟨hawake, hquiet⟩ := calm_iff.mp hc
  obtain ⟨hu, hnotices⟩ := quiet_iff.mp hquiet
  have hraise := raise_timeout (s := s.modPiece pc PieceRecord.timedOut) hmode hfind hroom hfree
  have hwaits : ((s.modPiece pc PieceRecord.timedOut).timeoutRaised pc).notices = [] :=
    (timeoutRaised_notices _ pc).trans hnotices
  have hunmarked : ((s.modPiece pc PieceRecord.timedOut).timeoutRaised pc).unmarked = none :=
    (unmarked_of_watched ((timeoutRaised_watched _ pc).trans rfl)).trans hu
  have hfrozen : ((s.modPiece pc PieceRecord.timedOut).timeoutRaised pc).buildFrozen.quiet = true :=
    (quiet_of_watched rfl rfl).trans (quiet_iff.mpr ⟨hunmarked, hwaits⟩)
  rw [exec_pieceTimerExpiry, run_awake hawake, expirePieceTimer_running hrun, hraise, hwaits, List.nil_append, State.settled,
    settleBound, settle_waiting hunmarked, take_freeze, waiting_nil hwaits, settle_of_quiet _ hfrozen]

/-! ## The wait of a queued claim -/

/-- The part once a queued claim's wait has run out: its entry gone, its piece PENDING, the expiry counted and told (R82). -/
def State.waitExpired (s : State) (pc : Piece) : State :=
  (((s.modRbu fun b => { b with queue := b.queue.filter fun e => e.piece != pc }).modPiece pc PieceRecord.toPending).modRecord fun r =>
    { r with claimsExpired := min 32767 (r.claimsExpired + 1) }).setEvent .claimExpired

theorem expireWait_absent {s : State} {pc : Piece} (h : ∀ e ∈ s.rbu.queue, e.piece ≠ pc) : s.expireWait pc = s := by
  have hnone : (s.rbu.queue.any fun e => e.piece == pc) = false := by simpa using h
  rw [State.expireWait, hnone]
  rfl

theorem expireWait_queued {s : State} {pc : Piece} (h : ∃ e ∈ s.rbu.queue, e.piece = pc) :
    s.expireWait pc = if s.isHead pc then (s.waitExpired pc).examineHead else s.waitExpired pc := by
  have hqueued : (s.rbu.queue.any fun e => e.piece == pc) = true := by simpa using h
  rw [State.expireWait, hqueued]
  rfl

theorem waitExpired_quiet {s : State} (pc : Piece) (h : s.quiet = true) : (s.waitExpired pc).quiet = true :=
  (quiet_setEvent _ _).trans ((quiet_of_watched rfl rfl).trans h)

/-! ## The examination of the head -/

/-- The groups of a granted piece go to RETRACT above CLEAR_STROKE, else to CLEAR at once (R16). -/
theorem lendGroups_eq (s : State) (pc : Piece) :
    s.lendGroups pc = mapIx s.groups fun g r =>
      if g ∈ (s.piece pc).groups then
        { r with state := if s.toRetract g = true then .retract else .clear, owner := some pc, contact := false }
      else r :=
  mapIx_congr fun g => by
    have habove : s.toRetract g = true ↔ s.item .clearStroke < s.groups[g].stroke := decide_eq_true_iff
    simp only [Group.lend, habove]

/-- The part with the head of the claim queue granted and the notices of its groups waiting (R16, R25, R78, R81). -/
def State.headGranted (s : State) (pc : Piece) (rest : List QueueEntry) : State :=
  ({ s with
      groups := mapIx s.groups fun g r =>
        if g ∈ (s.piece pc).groups then
          { r with state := if s.toRetract g = true then .retract else .clear, owner := some pc, contact := false }
        else r
      rbu := { s.rbu with queue := rest }
      notices := s.notices ++ (allGroups.filter fun g => decide (g ∈ (s.piece pc).groups)).map (s.lendNotice pc) }.modPiece pc fun r =>
    { r with
      state := .retracting, claimTime := some (r.claimTime.getD s.seconds), awaited := r.groups
      timer := { state := .running, kind := .retract, left := 1000 * s.item .retractTime } }).setEvent .claimGranted

/-- A head that may be granted and bears is granted, the notices of its groups waiting (R16, R78, R81). -/
theorem examineHead_granted {s : State} {e : QueueEntry} {rest : List QueueEntry} (hq : s.rbu.queue = e :: rest)
    (hclaim : s.claimable e.piece) (hb : s.bearing e.piece) : s.examineHead = s.headGranted e.piece rest := by
  have hfrozen : s.frozen = false := Bool.or_eq_false_iff.mpr hclaim.2.2
  have hmoved : (allGroups.filter fun g => decide (g ∈ (s.piece e.piece).groups)) = allGroups.filter (s.piece e.piece).groups.contains :=
    List.filter_congr fun g _ => (List.contains_eq_mem g _).symm
  have hgrant := grant_eq (s := s.modRbu fun b => { b with queue := rest }) hb hfrozen
  rw [examineHead_of_claimable hq hclaim, hgrant, State.headGranted, hmoved, ← lendGroups_eq]
  rfl

/-- Settles O46: each end of a time is one operation, followed by the freeze or by the examination of the head that it sets going. -/
theorem buildTimersRunOut : Obligations.BuildTimersRunOut := by
  refine ⟨⟨?timer, ?wait⟩, ?freeze, ?head, fun s h => examineHead_empty h, ?newHead⟩
  case timer =>
    intro s pc hcalm key entry first built t
    refine ⟨fun hidle => run_calm hcalm (expirePieceTimer_idle hidle) (calm_iff.mp hcalm).2, fun hrun hmode hfind hroom hfree => ?_⟩
    rw [exec_pieceTimerExpiry_running hcalm hrun hmode hfind hroom hfree, buildFrozen_timeoutRaised, buildFrozen_timedOut]
    rfl
  case wait =>
    intro s pc hcalm rest t
    have hquiet := (calm_iff.mp hcalm).2
    refine ⟨fun habsent => run_calm hcalm (expireWait_absent habsent) hquiet, fun hqueued halone => ?_⟩
    refine run_calm hcalm ((expireWait_queued hqueued).trans ?_) (waitExpired_quiet pc hquiet)
    split
    · next hhead =>
      have hempty : rest = [] := halone.resolve_left (not_not_intro (isHead_iff.mp hhead))
      exact examineHead_empty (s := s.waitExpired pc) hempty
    · rfl
  case freeze => exact fun s => ⟨take_freeze s, take_unfreeze s⟩
  case head =>
    intro s e rest hq pc above
    refine ⟨fun hnot => examineHead_of_not_claimable (by rw [hq]; simpa using hnot), fun hclaim hb => ?_⟩
    exact examineHead_granted hq hclaim hb
  case newHead =>
    intro s pc hcalm hhead t
    obtain ⟨hawake, hquiet⟩ := calm_iff.mp hcalm
    have hqueued : ∃ e ∈ s.rbu.queue, e.piece = pc := by
      obtain ⟨e, he, hpiece⟩ := Option.map_eq_some_iff.mp hhead
      exact ⟨e, List.mem_of_mem_head? he, hpiece⟩
    refine ⟨_, ?_, examinesTo_settle (s := t) (waitExpired_quiet pc hquiet) (n := settleBound) (by decide)⟩
    rw [exec_queueWaitExpiry, run_awake hawake, expireWait_queued hqueued, if_pos (isHead_iff.mpr hhead)]
    rfl

end Sys2Proof.Machine
end

section
/-! What the blocks other than the ACT and the GRU do: the relation `Elsewhere`, one lemma per operation. -/

namespace Sys2Proof.Machine

/-- `t` is `s` after work of blocks other than the ACT and the GRU: the accounts, the tail lines with L_grout, the configuration set
and the levels of the inputs are as they were. -/
structure Elsewhere (s t : State) : Prop where
  eq : t = { s with
    pending := t.pending, seconds := t.seconds, ms := t.ms, groups := t.groups, adu := t.adu, rbu := t.rbu, mku := t.mku
    mst := t.mst, fsv := t.fsv, ports := t.ports, notices := t.notices }

namespace Elsewhere

theorem of_aside {s t : State} (h : Aside s t) : Elsewhere s t := ⟨by rw [h.eq]⟩

theorem of_faultWork {s t : State} (h : FaultWork s t) : Elsewhere s t := of_aside h.aside

theorem refl (s : State) : Elsewhere s s := ⟨rfl⟩

theorem trans {s t u : State} (h : Elsewhere s t) (k : Elsewhere t u) : Elsewhere s u := ⟨by rw [k.eq, h.eq]⟩

theorem foldl {α : Type} {f : State → α → State} (h : ∀ t a, Elsewhere t (f t a)) (l : List α) (s : State) :
    Elsewhere s (l.foldl f s) := foldl_along refl trans h l s

section
variable (s : State)

theorem modGroup (g : GroupIx) (f : Group → Group) : Elsewhere s (s.modGroup g f) := ⟨rfl⟩

theorem modAdu (f : Advance → Advance) : Elsewhere s (s.modAdu f) := ⟨rfl⟩

theorem modRbu (f : RingBuild → RingBuild) : Elsewhere s (s.modRbu f) := ⟨rfl⟩

theorem modRecord (f : RingRecord → RingRecord) : Elsewhere s (s.modRecord f) := ⟨rfl⟩

theorem modPiece (pc : Piece) (f : PieceRecord → PieceRecord) : Elsewhere s (s.modPiece pc f) := ⟨rfl⟩

theorem modMku (f : Muck → Muck) : Elsewhere s (s.modMku f) := ⟨rfl⟩

theorem modMeas (m : MeasIx) (f : MeasRecord → MeasRecord) : Elsewhere s (s.modMeas m f) := ⟨rfl⟩

theorem setEvent (e : Event) : Elsewhere s (s.setEvent e) := ⟨rfl⟩

theorem send (n : Notice) : Elsewhere s (s.send n) := ⟨rfl⟩

theorem raise (key : FaultKey) : Elsewhere s (s.raise key) := of_faultWork (FaultWork.raise s key)

theorem judgeKeys (keys : List FaultKey) : Elsewhere s (s.judgeKeys keys) := of_faultWork (FaultWork.judgeKeys s keys)

theorem judgeRate : Elsewhere s s.judgeRate := ⟨rfl⟩

theorem passMs : Elsewhere s s.passMs := ⟨rfl⟩

/-! ## The JGU -/

theorem changeGroups (f : GroupIx → Group → Group) : Elsewhere s (s.changeGroups f) := ⟨by rw [changeGroups_eq]⟩

theorem jguPush : Elsewhere s s.jguPush := (changeGroups s _).trans (foldl (fun t _ => ite_along (send t _) (refl t)) _ _)

theorem holdIfBoring : Elsewhere s s.holdIfBoring := ite_along (changeGroups s _) (refl s)

theorem restartDwells : Elsewhere s s.restartDwells := ite_along (refl s) ⟨rfl⟩

theorem expireDwell (g : GroupIx) : Elsewhere s (s.expireDwell g) := ite_along (changeGroups s _) (refl s)

theorem comparePulse (g : GroupIx) : Elsewhere s (s.comparePulse g) := by
  unfold State.comparePulse
  dsimp only
  split
  case h_1 => exact ite_along (changeGroups s _) (refl s)
  case h_2 => exact ite_along (modGroup s g _) (refl s)
  case h_3 => exact ite_along ((modGroup s g _).trans (raise _ _)) (refl s)
  case h_4 => exact ite_along ((modGroup s g (fun r => { r with strokeEndReported := true })).trans (send _ _)) (refl s)
  all_goals exact refl s

theorem pulse (g : GroupIx) (extending : Bool) : Elsewhere s (s.pulse g extending) :=
  ite_along (modGroup s g _) ((modGroup s g _).trans ((comparePulse _ g).trans (send _ _)))

theorem requestReference (v : GroupIx → Nat) : Elsewhere s (s.requestReference v).1 := by
  unfold State.requestReference
  split
  · exact refl s
  · exact (changeGroups s _).trans (send _ _)

/-! ## The RBU -/

theorem resumeTimers : Elsewhere s s.resumeTimers := ite_along (refl s) (modRecord s _)

theorem grant (pc : Piece) : Elsewhere s (s.grant pc) := (modPiece s pc _).trans ((setEvent _ _).trans (changeGroups _ _))

theorem examineHead : Elsewhere s s.examineHead := by
  unfold State.examineHead
  split
  · exact refl s
  · split
    · exact refl s
    · exact (modRbu s _).trans (grant _ _)

theorem arriveClear (g : GroupIx) (pc : Piece) : Elsewhere s (s.arriveClear g pc) :=
  ite_along (refl s) (ite_along ((modPiece s pc _).trans (setEvent _ _)) (modPiece s pc _))

theorem expirePieceTimer (pc : Piece) : Elsewhere s (s.expirePieceTimer pc) :=
  ite_along ((modPiece s pc _).trans (raise _ _)) (refl s)

theorem dequeue (pc : Piece) : Elsewhere s (s.dequeue pc) := (modRbu s _).trans (modPiece _ pc _)

theorem expireWait (pc : Piece) : Elsewhere s (s.expireWait pc) := by
  have hgone := (dequeue s pc).trans ((setEvent _ .claimExpired).trans
    (modRecord _ fun r => { r with claimsExpired := addUpTo 32767 r.claimsExpired 1 }))
  exact ite_along (ite_along (hgone.trans (examineHead _)) hgone) (refl s)

theorem withPiece (code : Nat) (f : Piece → State × Reply) (h : ∀ pc, Elsewhere s (f pc).1) :
    Elsewhere s (s.withPiece code f).1 := by
  unfold State.withPiece
  split
  · exact refl s
  · split
    · exact refl s
    · exact h _

theorem requestClaim (code : Nat) : Elsewhere s (s.requestClaim code).1 := by
  refine withPiece s code _ fun pc => ?_
  split
  · exact refl s
  · unfold State.takeClaim
    split
    · exact grant s pc
    · split <;> dsimp only
      · exact (modPiece s pc _).trans (modRbu _ _)
      · exact refl s

theorem sendBack (pc : Piece) (st : PieceState) : Elsewhere s (s.sendBack pc st) := (modPiece s pc _).trans (changeGroups _ _)

theorem requestPlaced (code : Nat) : Elsewhere s (s.requestPlaced code).1 := by
  refine withPiece s code _ fun pc => ?_
  split
  · exact sendBack s pc _
  · exact refl s

theorem requestWithdraw (code : Nat) : Elsewhere s (s.requestWithdraw code).1 := by
  refine withPiece s code _ fun pc => ?_
  split
  case h_2 => exact ite_along ((dequeue s pc).trans (examineHead _)) (dequeue s pc)
  case h_3 | h_4 => exact sendBack s pc _
  all_goals exact refl s

/-! ## The MKU -/

theorem judgePermit : Elsewhere s s.judgePermit := ((modMku s _).trans (judgeRate _)).trans (of_faultWork (judgePermit_work s))

theorem testCarDue : Elsewhere s s.testCarDue := ite_along ((modMku s _).trans (setEvent _ _)) (refl s)

theorem muckTick : Elsewhere s s.muckTick := by
  have hjudged (t : State) : Elsewhere t t.judgeExcavation := by
    unfold State.judgeExcavation
    split
    · exact ite_along (refl t) (ite_along ((modMku t _).trans (raise _ _)) (ite_along ((modMku t _).trans (raise _ _)) (refl t)))
    · exact refl t
  exact ite_along ((modMku s _).trans (hjudged _)) (refl s)

theorem takeBeltCounter (v : Nat) : Elsewhere s (s.takeBeltCounter v) := by
  have hnoted := modMku s fun k => { k with lastCounter := v, counterValid := true }
  have hcounted (t : State) (n : Nat) : Elsewhere t (t.countMuck n) :=
    (modMku t _).trans (ite_along ((modMku _ _).trans ((testCarDue _).trans (judgePermit _))) (modMku _ _))
  exact ite_along hnoted (ite_along hnoted (ite_along (hnoted.trans (raise _ _)) (hnoted.trans (hcounted _ _))))

theorem requestTrainIn (n capacity : Nat) : Elsewhere s (s.requestTrainIn n capacity).1 := by
  unfold State.requestTrainIn
  split
  · exact refl s
  · exact (modMku s _).trans ((testCarDue _).trans (judgePermit _))

theorem requestCarShift : Elsewhere s s.requestCarShift.1 := by
  unfold State.requestCarShift
  split
  · exact refl s
  · exact (modMku s _).trans ((ite_along (testCarDue _) (setEvent _ _)).trans (judgePermit _))

theorem requestTrainOut : Elsewhere s s.requestTrainOut.1 := (modMku s _).trans (judgePermit _)

/-! ## The ADU -/

theorem enterCycle (c : Cycle) : Elsewhere s (s.enterCycle c) := (modAdu s _).trans ((judgeRate _).trans (judgeKeys _ _))

theorem enterPaused (kept : Bool) : Elsewhere s (s.enterPaused kept) :=
  (holdIfBoring s).trans ((modAdu _ fun a =>
    { a with thrustPermit := false, cutterPermit := kept && a.cutterPermit, spinup := none }).trans
      ((enterCycle _ .paused).trans (modAdu _ fun a => { a with permitKept := kept })))

theorem enterSpinup : Elsewhere s s.enterSpinup := (modAdu s _).trans ((enterCycle _ _).trans ((modAdu _ _).trans (judgeRate _)))

theorem takeHalt : Elsewhere s s.takeHalt := by
  unfold State.takeHalt
  dsimp only
  split
  · exact enterPaused s _
  · exact ite_along (enterPaused s _) (refl s)
  · exact ite_along (modAdu s _) (refl s)
  · exact refl s

theorem requestStart : Elsewhere s s.requestStart.1 := by
  unfold State.requestStart
  split
  · exact refl s
  · exact enterSpinup s

theorem requestLevel (n : Nat) : Elsewhere s (s.requestLevel n).1 := by
  unfold State.requestLevel
  split
  · exact refl s
  · exact (modAdu s _).trans (judgeRate _)

end

end Elsewhere

end Sys2Proof.Machine
end

section
/-! The valves, setpoints and deficits of the tail lines: what the GRU's operations keep while no window moves (`LinesKept`). -/

namespace Sys2Proof.Machine

/-! ## What is kept -/

/-- The valve is open exactly in PRIME, FLOW and LIMIT; these and SATISFIED want the window OPEN and the stop released; S is at most 8,
and 0 outside them (R98, R99, Table 5-3). -/
def Line.within (l : Line) (window estop : Bool) : Prop :=
  l.valve = l.phase.injecting ∧ (l.phase.idles = true → window = true ∧ estop = false) ∧ l.setpoint ≤ 8 ∧
    (l.phase.injecting = false → l.setpoint = 0)

/-- A published deficit lies within its bounds, and N and Z do not stand against it (R65, R66). -/
def Deficit.sound (d : Deficit) : Prop :=
  -16383 ≤ d.d ∧ d.d ≤ 16383 ∧ (d.n = true ↔ d.d < 0) ∧ (d.z = true → d.d = 0)

/-- A carry lies within the bounds of a deficit (R97). -/
def carryBounded (carry : Int) : Prop := -16383 ≤ carry ∧ carry ≤ 16383

theorem deficitsSound_iff (s : State) :
    s.deficitsSound ↔ ∀ p, (s.deficit p).sound ∧ carryBounded (s.line p).carry := by
  refine forall_congr' fun p => ?_
  unfold Deficit.sound carryBounded
  tauto

/-- What the invariants of the tail lines say with RESET released. -/
def State.linesSafe (s : State) : Prop := s.linesSound ∧ s.deficitsSound

theorem linesSound_iff {s : State} (hr : s.resetActive = false) :
    s.linesSound ↔ ∀ p, (s.line p).within (s.account p).window s.estop :=
  ⟨fun h => h.1, fun h => ⟨h, fun hreset => absurd (hreset.symm.trans hr) (by decide)⟩⟩

/-- What a line that wants no more than this window has, it has with a window that is OPEN where this one is. -/
theorem Line.within.mono {l : Line} {w w' e : Bool} (h : l.within w e) (hw : w = true → w' = true) : l.within w' e := by
  obtain ⟨hvalve, hidles, hset⟩ := h
  exact ⟨hvalve, fun hi => ⟨hw (hidles hi).1, (hidles hi).2⟩, hset⟩

/-- A line that neither injects nor is SATISFIED wants neither the window nor the stop's release. -/
theorem Line.within.resting {l : Line} {w e : Bool} (h : l.within w e) (hl : l.phase.idles = false) (w' e' : Bool) : l.within w' e' := by
  obtain ⟨hvalve, -, hset⟩ := h
  exact ⟨hvalve, fun hi => by simp [hl] at hi, hset⟩

theorem deficitOf_sound (rounding target : Nat) (sum : Int) : (deficitOf rounding target sum).sound := by
  obtain ⟨hz, hn, -, -⟩ := deficitOf_flags rounding target sum
  have hd := deficitOf_d rounding target sum
  exact ⟨by omega, by omega, hn, hz.mp⟩

theorem flowSetpoint_le (d : Deficit) (span : Nat) : flowSetpoint d span ≤ 8 := by
  unfold flowSetpoint
  split
  · exact Nat.zero_le 8
  · exact Nat.min_le_left 8 _

/-- The record of a line that enters a phase (R98, Table 5-3); `flow` is the setpoint of FLOW. -/
def Line.entered (l : Line) (ph : Phase) (estop : Bool) (flow : Nat) : Line :=
  { l with
    phase := ph
    valve := ph.injecting && !estop
    setpoint :=
      match ph with
      | .prime => 1
      | .limit => l.setpoint
      | .flow => flow
      | _ => 0 }

theorem enterPhase_eq (s : State) (p : LineIx) (ph : Phase) :
    s.enterPhase p ph =
      (s.modLine p fun l => l.entered ph s.estop (flowSetpoint (s.deficit p) (s.item .flowSpan))).judgeKeys (lineKeys p) := rfl

theorem Line.entered_within {l : Line} {ph : Phase} {w e : Bool} {flow : Nat} (hfree : ph.idles = true → w = true ∧ e = false)
    (hset : l.setpoint ≤ 8) (hflow : flow ≤ 8) : (l.entered ph e flow).within w e := by
  cases ph with
  | prime | flow | limit =>
    obtain ⟨hw, he⟩ := hfree rfl
    simp [Line.entered, Line.within, Phase.injecting, hw, he, hset, hflow]
  | satisfied =>
    obtain ⟨hw, he⟩ := hfree rfl
    simp [Line.entered, Line.within, Phase.injecting, hw, he]
  | idle | blocked | held | out => simp [Line.entered, Line.within, Phase.injecting, Phase.idles]

/-- What the soundness of the lines reads of a line. -/
structure Duty where
  phase : Phase
  valve : Bool
  setpoint : Nat
  carry : Int

def Line.duty (l : Line) : Duty := { phase := l.phase, valve := l.valve, setpoint := l.setpoint, carry := l.carry }

theorem within_of_duty {l l' : Line} (h : l'.duty = l.duty) {w e : Bool} (hl : l.within w e) : l'.within w e := by
  simp only [Line.duty, Duty.mk.injEq] at h
  obtain ⟨hphase, hvalve, hsetpoint, -⟩ := h
  unfold Line.within
  rw [hphase, hvalve, hsetpoint]
  exact hl

/-! ## Work that moves no window -/

/-- `t` is `s` after work that moves no window nor an input's level: each line keeps what it has with this window or one OPEN where
this is, and the deficits stay sound. -/
structure LinesKept (s t : State) : Prop where
  window : ∀ p, (t.account p).window = (s.account p).window
  estop : t.estop = s.estop
  resetActive : t.resetActive = s.resetActive
  within : ∀ p w, ((s.account p).window = true → w = true) → (s.line p).within w s.estop → (t.line p).within w s.estop
  deficits : s.deficitsSound → t.deficitsSound

namespace LinesKept

theorem of_elsewhere {s t : State} (h : Elsewhere s t) : LinesKept s t where
  window p := (congrArg (fun u : State => (u.account p).window) h.eq :)
  estop := (congrArg State.estop h.eq :)
  resetActive := (congrArg State.resetActive h.eq :)
  within p w _ hs := by rwa [show t.line p = s.line p from (congrArg (State.line · p) h.eq :)]
  deficits hs := by rw [h.eq]; exact hs

theorem refl (s : State) : LinesKept s s := of_elsewhere (.refl s)

theorem trans {s t u : State} (h : LinesKept s t) (k : LinesKept t u) : LinesKept s u where
  window p := (k.window p).trans (h.window p)
  estop := k.estop.trans h.estop
  resetActive := k.resetActive.trans h.resetActive
  within p w hw hs := by
    have ht := k.within p w (by rwa [h.window]) (by rw [h.estop]; exact h.within p w hw hs)
    rwa [h.estop] at ht
  deficits hs := k.deficits (h.deficits hs)

theorem foldl {α : Type} {f : State → α → State} (h : ∀ t a, LinesKept t (f t a)) (l : List α) (s : State) :
    LinesKept s (l.foldl f s) := foldl_along refl trans h l s

theorem setEvent (s : State) (e : Event) : LinesKept s (s.setEvent e) := of_elsewhere (.setEvent s e)

theorem raise (s : State) (key : FaultKey) : LinesKept s (s.raise key) := of_elsewhere (.raise s key)

theorem judgeKeys (s : State) (keys : List FaultKey) : LinesKept s (s.judgeKeys keys) := of_elsewhere (.judgeKeys s keys)

/-- The record of one line changes, in a way that keeps what the line has. -/
theorem modLine_of (s : State) (p : LineIx) (f : Line → Line) (hcarry : (f (s.line p)).carry = (s.line p).carry)
    (h : ∀ w, ((s.account p).window = true → w = true) → (s.line p).within w s.estop → (f (s.line p)).within w s.estop) :
    LinesKept s (s.modLine p f) where
  window _ := rfl
  estop := rfl
  resetActive := rfl
  within q w hw hs := by
    rw [modLine_line]
    split
    · next he => subst he; exact h w hw hs
    · exact hs
  deficits hs q := by
    have hline : ((s.modLine p f).line q).carry = (s.line q).carry := by
      rw [modLine_line]
      split
      · next he => subst he; exact hcarry
      · rfl
    rw [hline]
    exact hs q

theorem modLine (s : State) (p : LineIx) (f : Line → Line) (h : ∀ l, (f l).duty = l.duty) : LinesKept s (s.modLine p f) :=
  modLine_of s p f (congrArg Duty.carry (h _)) fun _ _ hs => within_of_duty (h _) hs

/-- Every line's record changes in what its soundness does not read. -/
theorem mapLines (s : State) (f : LineIx → Line → Line) (h : ∀ p l, (f p l).duty = l.duty) :
    LinesKept s (s.withLines (mapIx s.gru.lines f)) := by
  have hline (p : LineIx) : (s.withLines (mapIx s.gru.lines f)).line p = f p (s.line p) := mapIx_getElem s.gru.lines f p
  refine ⟨fun _ => rfl, rfl, rfl, fun p w _ hs => ?_, fun hs p => ?_⟩
  · rw [hline]
    exact within_of_duty (h p _) hs
  · rw [hline, show (f p (s.line p)).carry = (s.line p).carry from congrArg Duty.carry (h p _)]
    exact hs p

theorem judgeDeficit (s : State) (p : LineIx) : LinesKept s (s.judgeDeficit p) where
  window q := by rw [State.judgeDeficit, modAccount_account]; split <;> rfl
  estop := rfl
  resetActive := rfl
  within _ _ _ hs := hs
  deficits hs := by
    rw [deficitsSound_iff] at hs ⊢
    refine fun q => ⟨?_, (hs q).2⟩
    rw [State.deficit, State.judgeDeficit, modAccount_account]
    split
    · exact deficitOf_sound ..
    · exact (hs q).1

theorem judgeDeficits (s : State) : LinesKept s s.judgeDeficits := foldl judgeDeficit _ s

/-- The judgment of L_grout touches no line (R112). -/
theorem judgeGrout (s : State) : LinesKept s s.judgeGrout where
  window _ := rfl
  estop := rfl
  resetActive := rfl
  within _ _ _ hs := hs
  deficits hs := hs

/-! ## The phases -/

/-- A phase that wants the window OPEN and the stop released is entered from such a phase, or where they are so. -/
theorem enterPhase {s : State} {p : LineIx} {ph : Phase}
    (h : ph.idles = true → (s.line p).phase.idles = true ∨ (s.account p).window = true ∧ s.estop = false) :
    LinesKept s (s.enterPhase p ph) := by
  rw [enterPhase_eq]
  refine (modLine_of s p _ rfl fun w hw hs => ?_).trans (judgeKeys _ _)
  obtain ⟨-, hidles, hset, -⟩ := hs
  exact Line.entered_within (fun hi => (h hi).elim hidles fun hopen => ⟨hw hopen.1, hopen.2⟩) hset (flowSetpoint_le _ _)

theorem enterResting (s : State) (p : LineIx) {ph : Phase} (h : ph.idles = false) : LinesKept s (s.enterPhase p ph) :=
  enterPhase fun hi => by simp [h] at hi

section
variable {s : State} {p : LineIx}

theorem idles_of_phase {ph : Phase} (h : (s.line p).phase = ph) (hph : ph.idles = true) : (s.line p).phase.idles = true := h ▸ hph

theorem testLimit (s : State) (p : LineIx) : LinesKept s (s.testLimit p) := by
  unfold State.testLimit
  split
  · next h =>
    have hflow : (s.line p).phase = .flow := by simp_all
    exact (enterPhase fun _ => .inl (idles_of_phase hflow rfl)).trans (modLine _ p _ fun _ => rfl)
  · exact refl s

theorem testResume (s : State) (p : LineIx) : LinesKept s (s.testResume p) := by
  unfold State.testResume
  split
  · next h =>
    have hsatisfied : (s.line p).phase = .satisfied := by simp_all
    exact (enterPhase fun _ => .inl (idles_of_phase hsatisfied rfl)).trans (testLimit _ p)
  · exact refl s

theorem enterSatisfied (h : (s.line p).phase.idles = true) : LinesKept s (s.enterSatisfied p) :=
  (enterPhase fun _ => .inl h).trans ((setEvent _ _).trans (testResume _ p))

theorem testSatisfied (s : State) (p : LineIx) : LinesKept s (s.testSatisfied p) := by
  unfold State.testSatisfied
  split
  · next h =>
    have hflow : (s.line p).phase = .flow := by simp_all
    exact enterSatisfied (idles_of_phase hflow rfl)
  · exact refl s

theorem enterFlow (h : (s.line p).phase.idles = true) : LinesKept s (s.enterFlow p) :=
  (enterPhase fun _ => .inl h).trans ((testLimit _ p).trans (testSatisfied _ p))

theorem testPrimed (s : State) (p : LineIx) : LinesKept s (s.testPrimed p) := by
  unfold State.testPrimed
  split
  · next h =>
    have hprime : (s.line p).phase = .prime := by simp_all
    exact enterFlow (idles_of_phase hprime rfl)
  · exact refl s

theorem testStall (h : (s.line p).phase.idles = true) : LinesKept s (s.testStall p) :=
  ite_along (ite_along (enterSatisfied h) ((enterResting s p rfl).trans ((setEvent _ _).trans (raise _ _)))) (refl s)

end

/-- A line is started in PRIME only with its window OPEN and the stop released (R99). -/
theorem startLine (s : State) (p : LineIx) : LinesKept s (s.startLine p) := by
  unfold State.startLine
  split
  · exact enterResting s p rfl
  · split
    · exact enterResting s p rfl
    · next h =>
      have hfree : (s.account p).window = true ∧ s.estop = false := by simpa using h
      have hcleared := modLine s p (fun l => { l with sinceOpen := 0 }) fun _ => rfl
      have hprime := enterPhase (s := s.modLine p fun l => { l with sinceOpen := 0 }) (p := p) (ph := .prime) fun _ => .inr hfree
      exact hcleared.trans (hprime.trans (testPrimed _ p))

theorem judgeSetpoint (s : State) (p : LineIx) : LinesKept s (s.judgeSetpoint p) := by
  unfold State.judgeSetpoint
  split
  · next h =>
    have hflow : (s.line p).phase = .flow := beq_iff_eq.mp h
    refine modLine_of s p _ ?_ fun w _ hs => ?_
    · rfl
    · obtain ⟨hvalve, hidles, -, -⟩ := hs
      exact ⟨hvalve, hidles, flowSetpoint_le _ _, fun hi => by simp [hflow, Phase.injecting] at hi⟩
  · exact refl s

theorem noteDeficit (s : State) (p : LineIx) : LinesKept s (s.noteDeficit p) :=
  modLine s p (fun l => { l with resumeDeficit := s.item .resumeDeficit }) fun _ => rfl

theorem notePressure (s : State) (p : LineIx) : LinesKept s (s.notePressure p) :=
  modLine s p (fun l => { l with pressMax := s.item .pressMax, pressHyst := s.item .pressHyst, pressureWithheld := false })
    fun _ => rfl

theorem takeDeficit (s : State) (p : LineIx) : LinesKept s (s.takeDeficit p) :=
  (noteDeficit s p).trans ((judgeSetpoint _ p).trans ((testSatisfied _ p).trans (testResume _ p)))

theorem takeDeficits (s : State) : LinesKept s s.takeDeficits := (foldl takeDeficit _ s).trans (judgeGrout _)

theorem takeOpening (s : State) (p : LineIx) : LinesKept s (s.takeOpening p) := ite_along (startLine s p) (refl s)

theorem idleLine (s : State) (p : LineIx) : LinesKept s (s.idleLine p) := ite_along (enterResting s p rfl) (refl s)

theorem startIdleLines (s : State) : LinesKept s s.startIdleLines := foldl (fun t p => ite_along (startLine t p) (refl t)) _ s

theorem holdLine (s : State) (p : LineIx) : LinesKept s (s.holdLine p) := ite_along (enterResting s p rfl) (refl s)

theorem releaseLine (s : State) (p : LineIx) : LinesKept s (s.releaseLine p) := ite_along (startLine s p) (refl s)

theorem unblockLine (s : State) (p : LineIx) : LinesKept s (s.unblockLine p) := ite_along (startLine s p) (refl s)

theorem takePressure (s : State) (p : LineIx) : LinesKept s (s.takePressure p) := by
  have hnoted := notePressure s p
  unfold State.takePressure
  dsimp only
  split
  · exact hnoted.trans (testLimit _ p)
  · next h => exact ite_along (hnoted.trans (enterFlow (idles_of_phase h rfl))) hnoted
  · exact hnoted.trans (testResume _ p)
  · exact hnoted

theorem deliver (s : State) (p : LineIx) (n : Nat) : LinesKept s (s.deliver p n) := by
  have hcounted := modLine s p (fun l =>
    { l with
      delivered := addUpTo (2 ^ 30 - 1) l.delivered n
      sinceOpen := addUpTo 32767 l.sinceOpen n
      secondCount := if l.phase == .limit then addUpTo 32767 l.secondCount n else l.secondCount }) fun _ => rfl
  exact hcounted.trans ((judgeDeficit _ p).trans ((noteDeficit _ p).trans ((testPrimed _ p).trans ((takeDeficit _ p).trans
    (judgeGrout _)))))

theorem takeLineCounter (s : State) (p : LineIx) (v : Nat) : LinesKept s (s.takeLineCounter p v) := by
  have hnoted := modLine s p (fun l => { l with lastCounter := v, counterValid := true }) fun _ => rfl
  exact ite_along hnoted (ite_along hnoted (ite_along (hnoted.trans (raise _ _)) (hnoted.trans (deliver _ _ _))))

theorem tickLine (s : State) (p : LineIx) : LinesKept s (s.tickLine p) := by
  have hcount := modLine s p (fun l => { l with secondCount := 0 }) fun _ => rfl
  unfold State.tickLine
  dsimp only
  split
  · next h =>
    have hhistory := hcount.trans (modLine _ p
      (fun r => { r with stallHistory := lastOf (s.item .stallTime) (r.stallHistory ++ [(s.line p).secondCount]) }) fun _ => rfl)
    refine ite_along (hhistory.trans (testStall (idles_of_phase (ph := .limit) ?_ rfl))) hhistory
    rw [modLine_line, if_pos rfl, modLine_line, if_pos rfl]
    exact beq_iff_eq.mp h
  · exact hcount

theorem groutTick (s : State) : LinesKept s s.groutTick := foldl tickLine _ s

theorem windowNotice (s : State) (was now : Bool) (p : LineIx) : LinesKept s (s.windowNotice was now p) := by
  unfold State.windowNotice
  split
  · exact (takeOpening s p).trans (judgeGrout _)
  · exact (idleLine s p).trans (judgeGrout _)
  · exact refl s

/-! ## Reports, policies and requests -/

theorem takeReport (s : State) (m : MeasIx) (reported : Nat) : LinesKept s (s.takeReport m reported) := by
  have hpassed (t : State) (v : Nat) : LinesKept t (t.passValue m v) := by
    unfold State.passValue
    split_ifs
    · exact refl t
    · exact takePressure t _
    · exact takeLineCounter t _ v
    · exact of_elsewhere (.takeBeltCounter t v)
  unfold State.takeReport
  dsimp only
  refine trans ?_ (hpassed _ _)
  split <;> exact of_elsewhere ⟨rfl⟩

theorem enterStale (s : State) (m : MeasIx) : LinesKept s (s.enterStale m) := by
  have hinvalid (t : State) : LinesKept t (t.invalidateCounter m) := by
    unfold State.invalidateCounter
    split_ifs
    · exact refl t
    · exact modLine t _ _ fun _ => rfl
    · exact of_elsewhere (.modMku t _)
  exact ite_along ((of_elsewhere ((Elsewhere.modMeas s m _).trans (.modMeas _ m _))).trans (hinvalid _)) (refl s)

theorem changePolicy (s : State) (m : MeasIx) : LinesKept s (s.changePolicy m) := by
  have hjudged : LinesKept s (s.judgeDegraded m) := of_elsewhere (.modMeas s m _)
  unfold State.changePolicy
  dsimp only
  split
  · exact ite_along (hjudged.trans (modLine _ _ _ fun _ => rfl)) hjudged
  · exact hjudged

theorem emptyHistories (s : State) : LinesKept s s.emptyHistories :=
  mapLines s (fun _ l => if l.phase == .limit then { l with stallHistory := [], secondCount := 0 } else l) fun _ l => by
    split <;> rfl

theorem requestSuspend (s : State) (index : Nat) : LinesKept s (s.requestSuspend index).1 := by
  unfold State.requestSuspend
  split
  · exact refl s
  · split
    case h_3 => exact (enterResting s _ rfl).trans (judgeGrout _)
    all_goals exact refl s

theorem requestResume (s : State) (index : Nat) : LinesKept s (s.requestResume index).1 := by
  unfold State.requestResume
  split
  · exact refl s
  · next p _ =>
    split
    · have hresumed := modLine s p (fun l => { l with outThroughout := false }) fun _ => rfl
      exact hresumed.trans ((startLine _ _).trans (judgeGrout _))
    · exact refl s

end LinesKept

end Sys2Proof.Machine
end

section
/-! The operations that move windows or the stop, and every step: the soundness of the tail lines (R98, R99, R105, R110, R111). -/

namespace Sys2Proof.Machine

/-- With RESET released, `t` has the soundness of the lines where `s` has it. -/
abbrev SafeKept : State → State → Prop := Keeps State.linesSafe

/-- Each line has, in this state, what this window and this level of the stop ask of it. -/
def State.linesWithin (s : State) (w : LineIx → Bool) (e : Bool) : Prop := ∀ p, (s.line p).within (w p) e

/-- The windows of the six lines. -/
def State.windows (s : State) (p : LineIx) : Bool := (s.account p).window

theorem Keeps.of_lines {s t : State} (hr : t.resetActive = s.resetActive)
    (h : s.linesWithin s.windows s.estop → s.deficitsSound → t.linesWithin t.windows t.estop ∧ t.deficitsSound) : SafeKept s t where
  kept := by
    rintro ⟨hreleased, hlines, hdeficits⟩
    have ht := hr.trans hreleased
    obtain ⟨hlines', hdeficits'⟩ := h ((linesSound_iff hreleased).mp hlines) hdeficits
    exact ⟨ht, (linesSound_iff ht).mpr hlines', hdeficits'⟩

theorem LinesKept.linesWithin {s t : State} (h : LinesKept s t) (hs : s.linesWithin s.windows s.estop) :
    t.linesWithin t.windows t.estop := fun p => by
  rw [h.estop, State.windows, h.window]
  exact h.within p _ id (hs p)

theorem LinesKept.keeps {s t : State} (h : LinesKept s t) : SafeKept s t :=
  .of_lines h.resetActive fun hlines hdeficits => ⟨h.linesWithin hlines, h.deficits hdeficits⟩

theorem Elsewhere.keeps {s t : State} (h : Elsewhere s t) : SafeKept s t := (LinesKept.of_elsewhere h).keeps

theorem LineWork.resetActive_eq {s t : State} (h : LineWork s t) : t.resetActive = s.resetActive :=
  (congrArg State.resetActive h.eq :)

/-- The accounts and the lines' ledgers are all that the soundness of the deficits speaks of. -/
theorem LineWork.deficitsSound {s t : State} (h : LineWork s t) (hs : s.deficitsSound) : t.deficitsSound := fun p => by
  rw [show (t.line p).carry = (s.line p).carry from congrArg Ledger.carry (h.ledger p),
    show t.deficit p = s.deficit p from congrArg LineAccount.deficit (h.account_eq p)]
  exact hs p

/-! ## Lines that are sent to IDLE together -/

theorem idleLine_line (s : State) (p : LineIx) : (s.idleLine p).line p = (s.line p).idled := by
  unfold State.idleLine Line.idled
  by_cases hi : (s.line p).phase.idles = true
  · rw [if_pos hi, if_pos ((Phase.idles_iff _).mp hi), enterPhase_eq, (FaultWork.judgeKeys _ _).line_eq, modLine_line, if_pos rfl]
    rfl
  · rw [if_neg hi, if_neg fun h => hi ((Phase.idles_iff _).mpr h)]

theorem SameLine.idleLine {p q : LineIx} (h : q ≠ p) (s : State) : SameLine p s (s.idleLine q) :=
  ite_along (.enterPhase h s _) (.refl s)

/-- What a turn for each line does to one of them is what its own turn does, where the others' turns leave it. -/
theorem foldl_line {f : State → LineIx → State} {R : State → State → Prop} (hrefl : ∀ s, R s s)
    (htrans : ∀ {s t u}, R s t → R t u → R s u) (hf : ∀ t q, R t (f t q)) {p : LineIx}
    (hother : ∀ t q, q ≠ p → SameLine p t (f t q)) (s : State) :
    ∃ u, R s u ∧ u.line p = s.line p ∧ (allLines.foldl f s).line p = (f u p).line p := by
  obtain ⟨l, l', hsplit, hl, hl'⟩ := allLines_split p
  have hsame {k : List LineIx} (hk : p ∉ k) (t : State) : SameLine p t (k.foldl f t) :=
    SameLine.foldl k (fun u q hq => hother u q fun h => hk (h ▸ hq)) t
  refine ⟨l.foldl f s, foldl_along hrefl htrans hf l s, hsame hl s, ?_⟩
  rw [hsplit, List.foldl_append, List.foldl_cons]
  exact hsame hl' _

theorem idleLines_line (s : State) (p : LineIx) : s.idleLines.line p = (s.line p).idled := by
  obtain ⟨u, -, hu, hfold⟩ := foldl_line (f := State.idleLine) (R := fun _ _ => True) (fun _ => trivial) (fun _ _ => trivial)
    (fun _ _ => trivial) (p := p) (fun t _ hq => SameLine.idleLine hq t) s
  rw [State.idleLines, hfold, idleLine_line, hu]

/-- A line that has been sent to IDLE where it was in use asks for nothing (R110, R111). -/
theorem Line.within.idled {l : Line} {w e : Bool} (h : l.within w e) (w' e' : Bool) : l.idled.within w' e' := by
  unfold Line.idled
  split
  · exact ⟨rfl, nofun, Nat.zero_le 8, fun _ => rfl⟩
  · next hl => exact h.resting (by rwa [← Phase.idles_iff, Bool.not_eq_true] at hl) w' e'

/-- The windows are SHUT, or the stop is asserted, and then every line in use is sent to IDLE: `t` is the part between the two. -/
theorem Keeps.idling {s t : State} (hline : ∀ p, t.line p = s.line p) (hdeficit : ∀ p, t.deficit p = s.deficit p)
    (hr : t.resetActive = s.resetActive) : SafeKept s t.idleLines := by
  have hwork := LineWork.idleLines t
  refine .of_lines (hwork.resetActive_eq.trans hr) fun hlines hdeficits => ⟨fun p => ?_, ?_⟩
  · rw [idleLines_line, hline]
    exact (hlines p).idled _ _
  · exact hwork.deficitsSound fun p => by rw [hline, hdeficit]; exact hdeficits p

/-! ## An accrual -/

theorem SameLine.windowNotice {p q : LineIx} (h : q ≠ p) (s : State) (was now : Bool) : SameLine p s (s.windowNotice was now q) := by
  have hopened : SameLine p s (s.takeOpening q) := ite_along (.startLine h s) (.refl s)
  unfold State.windowNotice
  split
  · exact hopened
  · exact SameLine.idleLine h s
  · exact .refl s

/-- Once its notice has been taken, a line asks no more than the window that it tells of (R56, R105). -/
theorem windowNotice_within {s : State} {p : LineIx} {was now : Bool} (hnow : (s.account p).window = now)
    (hs : (s.line p).within (was || now) s.estop) : ((s.windowNotice was now p).line p).within now s.estop := by
  subst hnow
  cases was with
  | false => exact (LinesKept.windowNotice s false _ p).within p _ id hs
  | true =>
    cases hw : (s.account p).window with
    | true => rw [hw] at hs; exact hs
    | false =>
      have hline : (s.windowNotice true false p).line p = (s.line p).idled := idleLine_line s p
      rw [hline]
      exact hs.idled _ _

theorem published_kept (s : State) (new : Nat) : LinesKept (s.accrueSteps new) (s.published new) := LinesKept.takeDeficits _

/-- After the notices of an accrual each line asks no more than its window (R57, R105). -/
theorem noticed_within {s : State} {new : Nat} (hs : s.linesWithin s.windows s.estop) (p : LineIx) :
    ((s.noticed new).line p).within ((s.accrueSteps new).windows p) s.estop := by
  have hsteps := accrueSteps_state s new
  have hstep_line : (s.accrueSteps new).line p = s.line p := (congrArg (State.line · p) hsteps :)
  have hstep_estop : (s.accrueSteps new).estop = s.estop := (congrArg State.estop hsteps :)
  have hpublished : ((s.published new).line p).within (s.windows p || (s.accrueSteps new).windows p) s.estop := by
    rw [← hstep_estop]
    refine (published_kept s new).within p _ (fun hw => by simp [State.windows, hw]) ?_
    rw [hstep_line, hstep_estop]
    exact (hs p).mono fun hw => by rw [hw]; rfl
  obtain ⟨u, hu, hsame, hfold⟩ := foldl_line (R := LineWork)
    (f := fun u q => u.windowNotice (s.account q).window ((s.accrueSteps new).account q).window q) .refl .trans
    (fun t q => .windowNotice t _ _ q) (p := p) (fun t q hq => .windowNotice hq t _ _) (s.published new)
  have hestop : u.estop = s.estop := hu.estop_eq.trans ((published_work s new).estop_eq.trans hstep_estop)
  rw [State.noticed, hfold, ← hestop]
  refine windowNotice_within ?_ (by rw [hsame, hestop]; exact hpublished)
  rw [hu.account_eq, (published_work s new).account_eq]

theorem accrueSteps_deficitsSound {s : State} (new : Nat) (hs : s.deficitsSound) : (s.accrueSteps new).deficitsSound := by
  rw [deficitsSound_iff] at hs ⊢
  refine fun p => ⟨?_, ?_⟩
  · rw [State.deficit, accrueSteps_deficit]
    exact deficitOf_sound ..
  · rw [show (s.accrueSteps new).line p = s.line p from (congrArg (State.line · p) (accrueSteps_state s new) :)]
    exact (hs p).2

namespace LinesKept

/-- What follows the notices of an accrual touches no line (R57, R61). -/
theorem afterNotices (s : State) (new : Nat) : LinesKept (s.noticed new) (s.accrue new) := by
  have hskips : LinesKept (s.noticed new) (s.gapUnraised new) := foldl (fun u _ => ite_along (setEvent u _) (refl u)) _ _
  rw [accrue_eq]
  exact ite_along (hskips.trans (raise _ _)) hskips

end LinesKept

namespace SafeKept

theorem accrue (s : State) (new : Nat) : SafeKept s (s.accrue new) := by
  have hsteps := accrueSteps_state s new
  have hwork := noticed_work s new
  have hstep_estop : (s.accrueSteps new).estop = s.estop := (congrArg State.estop hsteps :)
  have hstep_reset : (s.accrueSteps new).resetActive = s.resetActive := (congrArg State.resetActive hsteps :)
  have hestop : (s.noticed new).estop = s.estop := hwork.estop_eq.trans hstep_estop
  have hreset := hwork.resetActive_eq.trans hstep_reset
  have hnoticed : SafeKept s (s.noticed new) := .of_lines hreset fun hlines hdeficits =>
    ⟨fun p => by
      rw [hestop, State.windows, hwork.account_eq]
      exact noticed_within hlines p, hwork.deficitsSound (accrueSteps_deficitsSound new hdeficits)⟩
  exact hnoticed.trans (LinesKept.afterNotices s new).keeps

theorem takeChange (s : State) : SafeKept s s.takeChange := ite_along (accrue s _) (Keeps.refl s)

theorem flush (s : State) : SafeKept s s.flush := ite_along (accrue s _) (Keeps.refl s)

/-! ## The boring start -/

/-- A line's carry becomes its published deficit, which is within its bounds (R97). -/
theorem rolled (s : State) : SafeKept s s.rolled := by
  have haccount (p : LineIx) : s.rolled.account p = s.account p := rfl
  have hestop : s.rolled.estop = s.estop := rfl
  refine .of_lines rfl fun hlines hdeficits => ⟨fun p => ?_, fun p => ?_⟩
  · rw [rolled_line, hestop, State.windows, haccount]
    exact hlines p
  · obtain ⟨hlow, hhigh, -, -, hn, hz⟩ := hdeficits p
    rw [rolled_line, State.deficit, haccount]
    exact ⟨hlow, hhigh, hlow, hhigh, hn, hz⟩

/-- At the boring start windows only open (R58). -/
theorem restartAccounts (s : State) : SafeKept s s.restartAccounts := by
  have hreset : s.restartAccounts.resetActive = s.resetActive := by rw [restartAccounts_eq, judgeDeficits_eq]; rfl
  refine .of_lines hreset fun hlines hdeficits => ⟨fun p => ?_, ?_⟩
  · rw [restartAccounts_line, restartAccounts_estop, State.windows, restartAccounts_account]
    exact (hlines p).mono fun hw => by rw [show (s.account p).window = true from hw]; rfl
  · rw [deficitsSound_iff] at hdeficits ⊢
    refine fun p => ⟨?_, ?_⟩
    · rw [State.deficit, restartAccounts_account]
      exact deficitOf_sound ..
    · rw [restartAccounts_line]
      exact (hdeficits p).2

theorem startRing (s : State) : SafeKept s s.startRing := by
  have hopened (t : State) : LinesKept t (s.rolled.openRing t) :=
    LinesKept.foldl (fun u p => ite_along ((LinesKept.takeOpening u p).trans (.judgeGrout _)) (.refl u)) _ t
  have hringReset (t : State) : Elsewhere t t.ringReset := ⟨rfl⟩
  rw [startRing_eq, startAccountRing_eq]
  exact (rolled s).trans ((restartAccounts _).trans
    (((LinesKept.takeDeficits _).trans (hopened _)).keeps.trans (hringReset _).keeps))

/-! ## The ADU -/

section
variable (s : State)

theorem enterStandstill : SafeKept s s.enterStandstill := (Elsewhere.enterCycle s _).keeps.trans (flush _)

theorem enterRundown : SafeKept s s.enterRundown := by
  have hstopped := (Elsewhere.holdIfBoring s).trans ((Elsewhere.modAdu _ fun a =>
    { a with thrustPermit := false, cutterPermit := false, spinup := none }).trans (.enterCycle _ .rundown))
  have hrun := hstopped.keeps.trans (flush _)
  exact ite_along (hrun.trans ((Elsewhere.setEvent _ _).keeps.trans (enterStandstill _))) hrun

theorem enterBoring : SafeKept s s.enterBoring := by
  have hentered := ((Elsewhere.modAdu s fun a => { a with spinup := none }).trans (.enterCycle _ .boring)).keeps
  exact (ite_along (hentered.trans (startRing _)) hentered).trans
    ((Elsewhere.jguPush _).trans ((Elsewhere.modAdu _ _).trans (.judgeRate _))).keeps

theorem testTarget : SafeKept s s.testTarget :=
  ite_along (((Elsewhere.setEvent s _).trans (.modAdu _ _)).keeps.trans (enterRundown _)) (Keeps.refl s)

theorem takeStrokeChange : SafeKept s s.takeStrokeChange := by
  have hmeasured := (Elsewhere.modAdu s fun a => { a with a := meanAdvance s.groups }).keeps
  unfold State.takeStrokeChange
  dsimp only
  split
  · exact (ite_along (hmeasured.trans (takeChange _)) hmeasured).trans (testTarget _)
  · exact hmeasured.trans (testTarget _)
  · exact Keeps.refl s

theorem takeStrokeEnd : SafeKept s s.takeStrokeEnd :=
  ite_along (((Elsewhere.setEvent s _).trans (.modAdu _ _)).keeps.trans (enterRundown _)) (Keeps.refl s)

theorem takeHaltLift : SafeKept s s.takeHaltLift :=
  ite_along (ite_along (enterBoring s) (Elsewhere.enterSpinup s).keeps) (Keeps.refl s)

theorem takeRevolution : SafeKept s s.takeRevolution := by
  have hmeasured : Elsewhere s s.measurePulse := ⟨rfl⟩
  have hconfirm (t : State) : SafeKept t t.confirmSpinup := ite_along (Elsewhere.enterPaused t _).keeps (enterBoring t)
  have hjudge (t : State) : SafeKept t t.judgeConfirmation :=
    ite_along (ite_along ((Elsewhere.modAdu t _).keeps.trans (hconfirm _)) (Elsewhere.modAdu t _).keeps) (Keeps.refl t)
  exact hmeasured.keeps.trans ((hjudge _).trans ((Elsewhere.modAdu _ _).trans (.judgeRate _)).keeps)

theorem expireStopTimer : SafeKept s s.expireStopTimer := by
  have hstopped := Elsewhere.modAdu s fun a => { a with stopTimer := none, cutter := .stopped }
  exact ite_along (ite_along ((hstopped.trans (.setEvent _ _)).keeps.trans (enterStandstill _)) hstopped.keeps) (Keeps.refl s)

theorem expireSpinup : SafeKept s s.expireSpinup :=
  ite_along (((Elsewhere.modAdu s _).trans (.setEvent _ _)).keeps.trans (enterStandstill _)) (Keeps.refl s)

theorem dropCycle : SafeKept s s.dropCycle :=
  (Elsewhere.setEvent s .estop).keeps.trans
    (ite_along (((Elsewhere.changeGroups _ _).trans (.modAdu _ _)).keeps.trans (enterStandstill _)) (Keeps.refl _))

theorem takeCompletion : SafeKept s s.takeCompletion :=
  (Elsewhere.modAdu s fun a => { a with ringStartPending := true }).keeps.trans (ite_along (enterStandstill _) (Keeps.refl _))

theorem requestStop : SafeKept s s.requestStop.1 := by
  have hstop : SafeKept s (s.setCause .stopRequest).enterRundown := (Elsewhere.modAdu s _).keeps.trans (enterRundown _)
  unfold State.requestStop
  split <;> dsimp only
  case h_4 | h_5 | h_6 => exact Keeps.refl s
  all_goals exact hstop

/-! ## Rings and emergency stop -/

theorem completeRing : SafeKept s s.completeRing :=
  ((Elsewhere.modRecord s _).trans ((Elsewhere.modRbu _ _).trans ((Elsewhere.judgeKeys _ _).trans (.setEvent _ _)))).keeps.trans
    (takeCompletion _)

theorem arriveHold (g : GroupIx) (pc : Piece) : SafeKept s (s.arriveHold g pc) := by
  unfold State.arriveHold
  dsimp only
  split
  · have hset := ((Elsewhere.modPiece s pc fun r => r.arrived .set).trans (.setEvent _ .pieceSet)).keeps
    exact ite_along (ite_along (hset.trans (completeRing _)) hset) (Elsewhere.modPiece s pc _).keeps
  · exact (ite_along ((Elsewhere.modPiece s pc _).trans (.setEvent _ _)) (.modPiece s pc _) : Elsewhere s _).keeps
  · exact Keeps.refl s

theorem takeGroupState (g : GroupIx) (st : GroupState) (arrived : Option Piece) : SafeKept s (s.takeGroupState g st arrived) := by
  refine Keeps.trans ?_ (Elsewhere.examineHead _).keeps
  split
  · exact (Elsewhere.arriveClear s g _).keeps
  · exact arriveHold s g _
  · exact Keeps.refl s

/-- RING BEGIN shuts every window and sends every line in use to IDLE (R59, R110). -/
theorem requestRing (number key : Nat) : SafeKept s (s.requestRing number key).1 := by
  unfold State.requestRing
  split
  · exact Keeps.refl s
  · have hopened (t : State) (k : GroupIx) : Elsewhere t (t.openRecord number k) :=
      (Elsewhere.modRbu t _).trans ((Elsewhere.judgeKeys _ _).trans (.setEvent _ _))
    have hshut (t : State) : SafeKept t t.shutWindows.idleLines :=
      .idling (fun _ => rfl) (fun p => by rw [State.deficit, shutWindows_account]; rfl) rfl
    have hfrozen (t : State) : Elsewhere t t.freezeAccounts := ⟨rfl⟩
    dsimp only
    exact ((Elsewhere.enterCycle s _).trans (hopened _ _)).keeps.trans ((hshut _).trans
      ((LinesKept.judgeGrout _).keeps.trans (hfrozen _).keeps))

/-- Emergency stop sends every line in use to IDLE (R111). -/
theorem assertStop : SafeKept s s.assertStop := by
  have hidled : SafeKept s ({ s with estop := true } : State).idleLines := .idling (fun _ => rfl) (fun _ => rfl) rfl
  have hforced (t : State) : Elsewhere t t.stopDwells.suspendTimers := ⟨rfl⟩
  exact hidled.trans (((Elsewhere.judgePermit _).trans (hforced _)).keeps.trans ((dropCycle _).trans
    ((LinesKept.judgeGrout _).keeps.trans (Elsewhere.judgeRate _).keeps)))

theorem releaseStop : SafeKept s s.releaseStop := by
  have hreleased : SafeKept s { s with estop := false } :=
    .of_lines rfl fun hlines hdeficits => ⟨fun p => by
      obtain ⟨hvalve, hidles, hset⟩ := hlines p
      exact ⟨hvalve, fun hi => ⟨(hidles hi).1, rfl⟩, hset⟩, hdeficits⟩
  exact hreleased.trans (((Elsewhere.restartDwells _).trans (.resumeTimers _)).keeps.trans
    (((LinesKept.startIdleLines _).trans (.judgeGrout _)).keeps.trans
      ((Elsewhere.judgePermit _).trans ((Elsewhere.judgeRate _).trans (.examineHead _))).keeps))

end

end SafeKept

/-! ## CONFIGURE -/

namespace LinesKept

theorem onChange (s : State) (old : ConfigSet) (i : Item) {f : State → State} (h : ∀ t, LinesKept t (f t)) :
    LinesKept s (s.onChange old i f) := onChange_along refl h s old i

theorem recomputeCoefficients (s : State) : LinesKept s s.recomputeCoefficients := by
  have hlines : s.recomputeCoefficients.act.lines = s.act.lines := by
    rw [recomputeCoefficients_eq]
    unfold State.withCoefficients State.modAct
    dsimp only
    split <;> rfl
  have haccount (p : LineIx) : s.recomputeCoefficients.account p = s.account p := congrArg (fun v => v[p]) hlines
  refine ⟨fun p => by rw [haccount], rfl, rfl, fun _ _ _ hs => hs, fun hs p => ?_⟩
  rw [State.deficit, haccount]
  exact hs p

theorem respondFirst (s : State) (old : ConfigSet) (pairs : List (Payload × Payload)) : LinesKept s (s.respondFirst old pairs) := by
  have hcoefficients : LinesKept s (s.onCoefficients pairs) := ite_along (recomputeCoefficients s) (refl s)
  refine trans ?_ (onChange _ old .flowSpan fun t => foldl judgeSetpoint _ t)
  refine trans ?_ (onChange _ old .rounding fun t => (judgeDeficits t).trans (takeDeficits _))
  exact hcoefficients.trans (foldl (fun t m => onChange t old _ fun u => changePolicy u m) _ _)

theorem respondLast (s : State) (old : ConfigSet) : LinesKept s (s.respondLast old) := by
  have hrevised (t : State) (c : Fin 12) : LinesKept t (t.reviseClass c) :=
    foldl (fun v k => of_elsewhere (.of_aside (.reviseReported v k))) _ t
  unfold State.respondLast
  refine trans ?_ (foldl (fun t c => onChange t old _ fun u => hrevised u c) _ _)
  refine trans ?_ (foldl (fun t m => onChange t old _ fun u => ite_along (enterStale u m) (refl u)) _ _)
  refine trans ?_ (onChange _ old .muckLag fun t => of_elsewhere (.modMku t _))
  refine trans ?_ (onChange _ old .carOverfill fun t => of_elsewhere (.judgePermit t))
  refine trans ?_ (onChange _ old .carReserve fun t => of_elsewhere (.testCarDue t))
  refine trans ?_ (onChange _ old .stallTime emptyHistories)
  exact onChange _ old .primeVolume fun t => foldl testPrimed _ t

theorem requestConfigure (s : State) (pairs : List (Payload × Payload)) : LinesKept s (s.requestConfigure pairs).1 := by
  have hset : LinesKept s { s with config := resultingSet s.config pairs } :=
    ⟨fun _ => rfl, rfl, rfl, fun _ _ _ hs => hs, fun hs => hs⟩
  have hrespond (t : State) (old : ConfigSet) : LinesKept t (t.respond old pairs) := by
    rw [respond_eq]
    refine trans ?_ (respondLast _ old)
    refine trans ?_ (onChange _ old .deficitHigh judgeGrout)
    exact (respondFirst t old pairs).trans (onChange _ old .deficitLow judgeGrout)
  unfold State.requestConfigure
  split
  · exact refl s
  · exact hset.trans (hrespond _ _)

end LinesKept

/-! ## Every step -/

namespace SafeKept

theorem takeEntering (s : State) (a : Action) : SafeKept s (s.takeEntering a) := by
  have hforced : Elsewhere s s.stopDwells.suspendTimers := ⟨rfl⟩
  unfold State.takeEntering
  split
  · exact (Elsewhere.takeHalt s).keeps
  · exact (Elsewhere.takeHalt s).keeps
  · exact (Elsewhere.judgePermit s).keeps
  · exact hforced.keeps
  · exact ((LinesKept.holdLine s _).trans (.judgeGrout _)).keeps

theorem takeLeaving (s : State) (a : Action) : SafeKept s (s.takeLeaving a) := by
  refine Keeps.trans ?_ (Elsewhere.examineHead _).keeps
  split
  · exact takeHaltLift s
  · exact takeHaltLift s
  · exact (Elsewhere.judgePermit s).keeps
  · exact ((Elsewhere.restartDwells s).trans (.resumeTimers _)).keeps
  · exact ((LinesKept.releaseLine s _).trans (.judgeGrout _)).keeps

theorem take (s : State) (n : Notice) : SafeKept s (s.take n) := by
  cases n with
  | strokeChange => exact takeStrokeChange s
  | strokeEnd g => exact takeStrokeEnd s
  | groupState g st owner arrived => exact takeGroupState s g st arrived
  | actionEnters a => exact takeEntering s a
  | actionLeaves a => exact takeLeaving s a
  | blockedRemoved p => exact ((LinesKept.unblockLine s p).trans (.judgeGrout _)).keeps

end SafeKept

/-- With RESET released, every operation keeps the lines sound. -/
theorem linesSafe_upheld : Upheld State.linesSafe where
  aside h := (Elsewhere.of_aside h).keeps
  passMs s := (Elsewhere.passMs s).keeps
  take := SafeKept.take
  pulse s g e := (Elsewhere.pulse s g e).keeps
  expireDwell s g := (Elsewhere.expireDwell s g).keeps
  takeRevolution := SafeKept.takeRevolution
  expireStopTimer := SafeKept.expireStopTimer
  expireSpinup := SafeKept.expireSpinup
  expirePieceTimer s pc := (Elsewhere.expirePieceTimer s pc).keeps
  expireWait s pc := (Elsewhere.expireWait s pc).keeps
  enterStale s m := (LinesKept.enterStale s m).keeps
  groutTick s := (LinesKept.groutTick s).keeps
  muckTick s := (Elsewhere.muckTick s).keeps
  assertStop := SafeKept.assertStop
  releaseStop := SafeKept.releaseStop
  takeReport s m v := (LinesKept.takeReport s m v).keeps
  requestConfigure s pairs := (LinesKept.requestConfigure s pairs).keeps
  requestReference s v := (Elsewhere.requestReference s v).keeps
  requestStart s := (Elsewhere.requestStart s).keeps
  requestStop := SafeKept.requestStop
  requestLevel s n := (Elsewhere.requestLevel s n).keeps
  requestRing := SafeKept.requestRing
  requestClaim s c := (Elsewhere.requestClaim s c).keeps
  requestWithdraw s c := (Elsewhere.requestWithdraw s c).keeps
  requestPlaced s c := (Elsewhere.requestPlaced s c).keeps
  requestSuspend s p := (LinesKept.requestSuspend s p).keeps
  requestResume s p := (LinesKept.requestResume s p).keeps
  requestTrainIn s n c := (Elsewhere.requestTrainIn s n c).keeps
  requestCarShift s := (Elsewhere.requestCarShift s).keeps
  requestTrainOut s := (Elsewhere.requestTrainOut s).keeps

/-- Device reset leaves every line IDLE with a closed valve and no deficit (R98, R65). -/
theorem deviceReset_linesSafe (s : State) : s.deviceReset.linesSafe := by
  have hline (p : LineIx) : s.deviceReset.line p = State.reset.line 0 := reset_line p
  have hidle : (State.reset.line 0).phase = .idle := by decide
  refine ⟨⟨fun p => ?_, fun _ p => by rw [hline, hidle]⟩, reset_deficitsSound⟩
  rw [hline]
  have hwithin : (State.reset.line 0).within false false := by unfold Line.within; decide
  exact hwithin.resting (by rw [hidle]; rfl) _ _

/-- While RESET is held every line is IDLE, and no level of an input matters to it. -/
theorem linesSafe_held (s : State) (l : List Instr) (r e : Bool) (hr : s.resetActive = true) (hs : s.linesSafe) :
    ({ s with pending := l, resetActive := r, estop := e } : State).linesSafe := by
  obtain ⟨⟨hlines, hidle⟩, hdeficits⟩ := hs
  refine ⟨⟨fun p => ?_, fun _ => hidle hr⟩, hdeficits⟩
  have hwithin : (s.line p).within (s.account p).window s.estop := hlines p
  exact hwithin.resting (by rw [hidle hr p]; rfl) _ _

/-- Settles O57: only the windows and the stop decide what a line may be in; where they are withdrawn the lines in use are sent to
IDLE, by the closing notices of an accrual, at RING BEGIN and at emergency stop, and no other operation moves them. -/
theorem linesStaySafe : Obligations.LinesStaySafe := fun _ _ hs h =>
  linesSafe_upheld.step deviceReset_linesSafe linesSafe_held hs h

end Sys2Proof.Machine
end

section
/-! The judgment of L_grout (R112). -/

namespace Sys2Proof.Machine

/-- The deficits of the lines that are OPEN and not OUT. -/
theorem mem_dmaxList {s : State} {d : Int} :
    d ∈ (allLines.filter fun p => (s.account p).window && (s.line p).phase != .out).map (fun p => (s.deficit p).d) ↔
      ∃ p, ((s.account p).window = true ∧ (s.line p).phase ≠ .out) ∧ (s.deficit p).d = d := by
  simp [mem_allLines]

theorem dmax_none {s : State} (h : ∀ p, ¬((s.account p).window = true ∧ (s.line p).phase ≠ .out)) : s.dmax = none :=
  List.max?_eq_none_iff.mpr (List.eq_nil_iff_forall_not_mem.mpr fun d hd => by
    obtain ⟨p, hp, -⟩ := mem_dmaxList.mp hd
    exact h p hp)

theorem dmax_some {s : State} {p : LineIx} (hp : (s.account p).window = true ∧ (s.line p).phase ≠ .out)
    (h : ∀ q, (s.account q).window = true ∧ (s.line q).phase ≠ .out → (s.deficit q).d ≤ (s.deficit p).d) :
    s.dmax = some (s.deficit p).d := by
  refine List.max?_eq_some_iff.mpr ⟨mem_dmaxList.mpr ⟨p, hp, rfl⟩, fun d hd => ?_⟩
  obtain ⟨q, hq, rfl⟩ := mem_dmaxList.mp hd
  exact h q hq

theorem groutLevel_full {low high : Nat} {d : Int} (h : d ≤ low) : groutLevel low high (some d) = 8 := if_pos h

theorem groutLevel_zero {low high : Nat} {d : Int} (hlow : (low : Int) < d) (h : (high : Int) ≤ d) :
    groutLevel low high (some d) = 0 := by
  simp [groutLevel, not_le.mpr hlow, h]

/-- Between the two limits the level is the floor of the proportion. -/
theorem groutLevel_between {low high : Nat} {d : Int} (hlow : (low : Int) < d) (hhigh : d < high) :
    (groutLevel low high (some d) : Int) = 8 * ((high : Int) - d) / ((high : Int) - low) := by
  have hfloor : 0 ≤ 8 * ((high : Int) - d) / ((high : Int) - low) := Int.ediv_nonneg (by omega) (by omega)
  simp [groutLevel, not_le.mpr hlow, not_le.mpr hhigh, Int.toNat_of_nonneg hfloor]

/-- Settles O36: the largest deficit is the maximum of those that count, and the level follows it by the three ranges. -/
theorem groutLevelFollowsTheLargestDeficit : Obligations.GroutLevelFollowsTheLargestDeficit := by
  intro s hlimits level counts span
  have hlevel : level = groutLevel (s.item .deficitLow) (s.item .deficitHigh) s.dmax := rfl
  refine ⟨fun h => ?_, ?_, rfl⟩
  · rw [hlevel, dmax_none h]
    rfl
  · intro p hp hmax d
    rw [dmax_some hp hmax] at hlevel
    have hspan : 0 < span := by omega
    refine ⟨fun hlow => hlevel.trans (groutLevel_full hlow), fun hhigh => hlevel.trans (groutLevel_zero (by omega) hhigh),
      fun hlow hhigh => ?_⟩
    rw [hlevel, groutLevel_between hlow hhigh]
    exact ⟨Int.ediv_mul_le _ hspan.ne', Int.lt_ediv_add_one_mul_self _ hspan⟩

end Sys2Proof.Machine
end

section
/-! A tail line's moves where no measured condition comes or goes with them: the states they lead to, and one equation for each test of
Chapter 5 on each side of what it tests (R98 to R104, R113). -/

namespace Sys2Proof.Machine

/-! ## The record of one line -/

section
variable {s : State} {p : LineIx} {f g : Line → Line}

theorem modLine_self (s : State) (p : LineIx) (f : Line → Line) : (s.modLine p f).line p = f (s.line p) := by
  rw [modLine_line, if_pos rfl]

theorem modLine_modLine (s : State) (p : LineIx) (f g : Line → Line) :
    (s.modLine p f).modLine p g = s.modLine p fun l => g (f l) := by
  simp only [State.modLine, modAt_modAt]

theorem modLine_congr (h : f (s.line p) = g (s.line p)) : s.modLine p f = s.modLine p g := congrArg s.withLines (modAt_congr h)

theorem modLine_fixed (h : f (s.line p) = s.line p) : s.modLine p f = s := congrArg s.withLines (modAt_fixed h)

/-! ## Entering a phase -/

/-- The conditions of a line read of its phase whether it injects and whether it obliges the grout station (Tables 7-3 and 9-5). -/
theorem agrees_modLine (hinject : (g (s.line p)).phase.injecting = (f (s.line p)).phase.injecting)
    (hoblige : (g (s.line p)).phase.obliges = (f (s.line p)).phase.obliges) {key : FaultKey} (hkey : key ∈ lineKeys p)
    (h : (s.modLine p f).agrees key) : (s.modLine p g).agrees key := by
  have hobliges (q : LineIx) : ((s.modLine p g).line q).phase.obliges = ((s.modLine p f).line q).phase.obliges := by
    rw [modLine_line, modLine_line]
    split
    · next he => subst he; exact hoblige
    · rfl
  unfold State.agrees at h ⊢
  simp only [lineKeys, List.mem_cons, List.not_mem_nil, or_false] at hkey
  rcases hkey with rfl | rfl | rfl
  · rw [condition_pressure, modLine_self] at h ⊢
    rw [hinject]
    exact h
  · rw [condition_counter, modLine_self] at h ⊢
    rw [hinject]
    exact h
  · rw [condition_grout] at h ⊢
    simp only [hobliges]
    exact h

/-- A phase is entered, and no condition comes or goes with it: none does in a state whose line is in a phase of the same kind. -/
theorem enterPhase_still {ph : Phase} (h : (s.modLine p f).unmarked = none)
    (hinject : ph.injecting = (f (s.line p)).phase.injecting) (hoblige : ph.obliges = (f (s.line p)).phase.obliges) :
    s.enterPhase p ph = s.modLine p fun l => l.entered ph s.estop (flowSetpoint (s.deficit p) (s.item .flowSpan)) :=
  judgeKeys_of_agrees fun _ hkey =>
    agrees_modLine hinject hoblige hkey (agrees_of_unmarked h (measured_of_mem_lineKeys hkey))

end

/-- The line is in a phase with its valve closed. -/
def State.lineShut (s : State) (p : LineIx) (ph : Phase) : State :=
  s.modLine p fun l => { l with phase := ph, valve := false, setpoint := 0 }

/-- The line is in FLOW (R101). -/
def State.lineFlowing (s : State) (p : LineIx) : State :=
  s.modLine p fun l => { l with phase := .flow, valve := !s.estop, setpoint := flowSetpoint (s.deficit p) (s.item .flowSpan) }

/-- The line is in LIMIT with an empty history (R102). -/
def State.lineLimited (s : State) (p : LineIx) : State :=
  s.modLine p fun l => { l with phase := .limit, valve := !s.estop, stallHistory := [], secondCount := 0 }

/-- The line is in PRIME with nothing delivered since its window opened (R99). -/
def State.linePrimed (s : State) (p : LineIx) : State :=
  s.modLine p fun l => { l with phase := .prime, valve := true, setpoint := 1, sinceOpen := 0 }

section
variable {s : State} {p : LineIx}

theorem Line.entered_shut {ph : Phase} (h : ph.injecting = false) (l : Line) (e : Bool) (flow : Nat) :
    l.entered ph e flow = { l with phase := ph, valve := false, setpoint := 0 } := by
  cases ph with
  | idle | satisfied | blocked | held | out => rfl
  | prime | flow | limit => cases h

theorem enterPhase_shut {ph : Phase} (hph : ph.injecting = false) (h : (s.lineShut p ph).unmarked = none) :
    s.enterPhase p ph = s.lineShut p ph :=
  (enterPhase_still h rfl rfl).trans (modLine_congr (Line.entered_shut hph _ _ _))

theorem enterPhase_flow (h : (s.lineFlowing p).unmarked = none) : s.enterPhase p .flow = s.lineFlowing p :=
  enterPhase_still h rfl rfl

theorem enterLimit_eq (h : s.enterPhase p .limit = s.modLine p fun l => l.entered .limit s.estop
    (flowSetpoint (s.deficit p) (s.item .flowSpan))) : s.enterLimit p = s.lineLimited p := by
  rw [State.enterLimit, h, modLine_modLine]
  rfl

theorem enterLimit_still (h : (s.lineLimited p).unmarked = none) : s.enterLimit p = s.lineLimited p :=
  enterLimit_eq (enterPhase_still h rfl rfl)

/-- A line that injects already brings no condition with it when it enters LIMIT. -/
theorem enterLimit_of_injecting (hinject : (s.line p).phase.injecting = true) (h : s.unmarked = none) :
    s.enterLimit p = s.lineLimited p := by
  have hsame : s.modLine p id = s := modLine_fixed rfl
  have hobliges : (s.line p).phase.obliges = true := by rw [Phase.obliges, hinject]; rfl
  exact enterLimit_eq (enterPhase_still (f := id) (by rw [hsame]; exact h) hinject.symm hobliges.symm)

/-! ## The pressure tests -/

/-- What the pressure tests of a line read of its record (R101, R102, R104). -/
structure Gauge where
  pressMax : Nat
  pressHyst : Nat
  withheld : Bool

def Line.gauge (l : Line) : Gauge :=
  { pressMax := l.pressMax, pressHyst := l.pressHyst, withheld := l.pressureWithheld }

theorem atLimit_iff (s : State) (p : LineIx) :
    s.atLimit p = true ↔
      (s.line p).pressureWithheld = false ∧ ∃ v ∈ s.supply (pressureMeas p), (s.line p).pressMax ≤ v := by
  unfold State.atLimit State.pressure
  cases (s.line p).pressureWithheld <;> cases s.supply (pressureMeas p) <;> simp

theorem fellBack_iff (s : State) (p : LineIx) :
    s.fellBack p = true ↔
      (s.line p).pressureWithheld = false ∧ ∃ v ∈ s.supply (pressureMeas p),
        (s.line p).pressHyst < (s.line p).pressMax ∧ v + (s.line p).pressHyst ≤ (s.line p).pressMax := by
  unfold State.fellBack State.pressure
  cases (s.line p).pressureWithheld <;> cases s.supply (pressureMeas p) <;> simp

/-- A pressure that has fallen back is not at the limit, with PRESS_HYST above 0. -/
theorem not_atLimit_of_fellBack (hhyst : 0 < (s.line p).pressHyst) (h : s.fellBack p = true) : s.atLimit p = false := by
  obtain ⟨-, v, hv, -, hlow⟩ := (fellBack_iff s p).mp h
  rw [Bool.eq_false_iff]
  intro hlimit
  obtain ⟨-, v', hv', hhigh⟩ := (atLimit_iff s p).mp hlimit
  obtain rfl : v = v' := Option.mem_unique hv hv'
  omega

/-- The satisfaction test of R101 is met: N, and no more than −RESUME_DEFICIT, as in use. -/
def State.owes (s : State) (p : LineIx) : Prop := (s.deficit p).n = true ∧ (s.deficit p).d ≤ -((s.line p).resumeDeficit : Int)

/-- The resumption test of R104 is met. -/
def State.resumable (s : State) (p : LineIx) : Prop :=
  ((s.line p).resumeDeficit : Int) ≤ (s.deficit p).d ∧ (s.account p).window = true ∧ s.fellBack p = true

/-- A line that owes has a deficit below 0, where N stands exactly with one. -/
theorem not_resumable_of_owes (hn : (s.deficit p).n = true → (s.deficit p).d < 0) (h : s.owes p) : ¬s.resumable p := by
  rintro ⟨hresume, -, -⟩
  have hneg := hn h.1
  omega

section
variable {f : Line → Line} (hf : (f (s.line p)).gauge = (s.line p).gauge)
include hf

theorem line_modLine_gauge : ((s.modLine p f).line p).gauge = (s.line p).gauge := by rw [modLine_self, hf]

theorem atLimit_modLine : (s.modLine p f).atLimit p = s.atLimit p := by
  have hgauge := line_modLine_gauge hf
  simp only [Line.gauge, Gauge.mk.injEq] at hgauge
  obtain ⟨hmax, -, hwithheld⟩ := hgauge
  unfold State.atLimit State.pressure
  rw [hmax, hwithheld]
  rfl

theorem fellBack_modLine : (s.modLine p f).fellBack p = s.fellBack p := by
  have hgauge := line_modLine_gauge hf
  simp only [Line.gauge, Gauge.mk.injEq] at hgauge
  obtain ⟨hmax, hhyst, hwithheld⟩ := hgauge
  unfold State.fellBack State.pressure
  dsimp only
  rw [hmax, hhyst, hwithheld]
  rfl

end

theorem owes_modLine {f : Line → Line} (hdeficit : (f (s.line p)).resumeDeficit = (s.line p).resumeDeficit) :
    (s.modLine p f).owes p ↔ s.owes p := by
  unfold State.owes
  rw [modLine_self, hdeficit]
  rfl

theorem resumable_modLine {f : Line → Line} (hgauge : (f (s.line p)).gauge = (s.line p).gauge)
    (hdeficit : (f (s.line p)).resumeDeficit = (s.line p).resumeDeficit) : (s.modLine p f).resumable p ↔ s.resumable p := by
  unfold State.resumable
  rw [fellBack_modLine hgauge, modLine_self, hdeficit]
  rfl

/-! ## The tests, on each side -/

theorem testLimit_below (h : s.atLimit p = false) : s.testLimit p = s := if_neg (by simp [h])

theorem testLimit_at (hphase : (s.line p).phase = .flow) (h : s.atLimit p = true) : s.testLimit p = s.enterLimit p :=
  if_pos (by simp [hphase, h])

theorem testResume_other (h : (s.line p).phase ≠ .satisfied) : s.testResume p = s := if_neg (by simp [h])

theorem testResume_stays (h : ¬s.resumable p) : s.testResume p = s := by
  refine if_neg fun hmet => h ?_
  simp only [Bool.and_eq_true, decide_eq_true_eq] at hmet
  obtain ⟨⟨⟨-, hresume⟩, hfell⟩, hopen⟩ := hmet
  exact ⟨hresume, hopen, hfell⟩

theorem testSatisfied_other (h : (s.line p).phase ≠ .flow) : s.testSatisfied p = s := if_neg (by simp [h])

theorem testSatisfied_stays (h : ¬s.owes p) : s.testSatisfied p = s := by
  refine if_neg fun hmet => h ?_
  simp only [Bool.and_eq_true, decide_eq_true_eq] at hmet
  exact ⟨hmet.1.2, hmet.2⟩

theorem testSatisfied_owing (hphase : (s.line p).phase = .flow) (h : s.owes p) : s.testSatisfied p = s.enterSatisfied p :=
  if_pos (by simp [hphase, h.1, h.2])

theorem testPrimed_other (h : (s.line p).phase ≠ .prime) : s.testPrimed p = s := if_neg (by simp [h])

theorem testPrimed_filling (h : (s.line p).sinceOpen < s.item .primeVolume) : s.testPrimed p = s :=
  if_neg (by simp [not_le.mpr h])

theorem testPrimed_full (hphase : (s.line p).phase = .prime) (h : s.item .primeVolume ≤ (s.line p).sinceOpen) :
    s.testPrimed p = s.enterFlow p := if_pos (by simp [hphase, h])

theorem judgeSetpoint_other (h : (s.line p).phase ≠ .flow) : s.judgeSetpoint p = s := if_neg (by simp [h])

theorem judgeSetpoint_flow (h : (s.line p).phase = .flow) :
    s.judgeSetpoint p = s.modLine p fun l => { l with setpoint := flowSetpoint (s.deficit p) (s.item .flowSpan) } :=
  if_pos (by simp [h])

/-! ## The moves -/

/-- A SATISFIED line resumes FLOW with its setpoint judged, and the pressure test of that entry is not met (R104). -/
theorem testResume_flows (hphase : (s.line p).phase = .satisfied) (hhyst : 0 < (s.line p).pressHyst) (h : s.resumable p)
    (hstill : (s.lineFlowing p).unmarked = none) : s.testResume p = s.lineFlowing p := by
  obtain ⟨hresume, hopen, hfell⟩ := h
  have hlimit : (s.lineFlowing p).atLimit p = false := (atLimit_modLine rfl).trans (not_atLimit_of_fellBack hhyst hfell)
  rw [State.testResume, if_pos (by simp [hphase, hresume, hopen, hfell]), enterPhase_flow hstill, testLimit_below hlimit]

/-- A line that enters SATISFIED and does not resume at once stays there (R101, R103). -/
theorem enterSatisfied_stays (h : ¬s.resumable p) (hstill : (s.lineShut p .satisfied).unmarked = none) :
    s.enterSatisfied p = (s.lineShut p .satisfied).setEvent .lineSatisfied := by
  rw [State.enterSatisfied, enterPhase_shut rfl hstill]
  exact testResume_stays fun hmet => h ((resumable_modLine rfl rfl).mp hmet)

/-- A line enters FLOW, and neither test of that entry is met (R101). -/
theorem enterFlow_flows (hstill : (s.lineFlowing p).unmarked = none) (hlimit : s.atLimit p = false) (howes : ¬s.owes p) :
    s.enterFlow p = s.lineFlowing p := by
  have hbelow : (s.lineFlowing p).atLimit p = false := (atLimit_modLine rfl).trans hlimit
  rw [State.enterFlow, enterPhase_flow hstill, testLimit_below hbelow]
  exact testSatisfied_stays fun h => howes ((owes_modLine rfl).mp h)

/-- A line enters FLOW with a high pressure and goes on to LIMIT, whatever it owes (R101; log entry 9). -/
theorem enterFlow_limits (hstill : (s.lineFlowing p).unmarked = none) (hlimit : s.atLimit p = true) :
    s.enterFlow p = (s.lineFlowing p).lineLimited p := by
  have hat : (s.lineFlowing p).atLimit p = true := (atLimit_modLine rfl).trans hlimit
  have hflow : ((s.lineFlowing p).line p).phase = .flow := by rw [State.lineFlowing, modLine_self]
  have hgone : (((s.lineFlowing p).lineLimited p).line p).phase = .limit := by rw [State.lineLimited, modLine_self]
  rw [State.enterFlow, enterPhase_flow hstill, testLimit_at hflow hat, enterLimit_of_injecting (by rw [hflow]; rfl) hstill]
  exact testSatisfied_other (by rw [hgone]; decide)

/-- A line enters FLOW owing, and goes on to SATISFIED (R101). -/
theorem enterFlow_satisfied (hstill : (s.lineFlowing p).unmarked = none) (hlimit : s.atLimit p = false) (howes : s.owes p)
    (hstay : ¬s.resumable p) (hshut : (s.lineShut p .satisfied).unmarked = none) :
    s.enterFlow p = (s.lineShut p .satisfied).setEvent .lineSatisfied := by
  have hbelow : (s.lineFlowing p).atLimit p = false := (atLimit_modLine rfl).trans hlimit
  have hflow : ((s.lineFlowing p).line p).phase = .flow := by rw [State.lineFlowing, modLine_self]
  have hcollapse : (s.lineFlowing p).lineShut p .satisfied = s.lineShut p .satisfied := modLine_modLine ..
  have hstay' : ¬(s.lineFlowing p).resumable p := fun h => hstay ((resumable_modLine rfl rfl).mp h)
  rw [State.enterFlow, enterPhase_flow hstill, testLimit_below hbelow, testSatisfied_owing hflow ((owes_modLine rfl).mpr howes),
    enterSatisfied_stays hstay' (by rw [hcollapse]; exact hshut), hcollapse]

/-! ## A publication of the deficit -/

/-- Once RESUME_DEFICIT is in use, a publication takes it into use again to no effect. -/
theorem noteDeficit_noted (h : (s.line p).resumeDeficit = s.item .resumeDeficit) : s.noteDeficit p = s :=
  modLine_fixed (by rw [← h])

theorem takeDeficit_noted (s : State) (p : LineIx) : (s.noteDeficit p).takeDeficit p = s.takeDeficit p := by
  have hagain : (s.noteDeficit p).noteDeficit p = s.noteDeficit p := modLine_modLine ..
  rw [State.takeDeficit, hagain]
  rfl

section
variable (hnoted : (s.line p).resumeDeficit = s.item .resumeDeficit)
include hnoted

theorem takeDeficit_other (hflow : (s.line p).phase ≠ .flow) (hsatisfied : (s.line p).phase ≠ .satisfied) :
    s.takeDeficit p = s := by
  rw [State.takeDeficit, noteDeficit_noted hnoted, judgeSetpoint_other hflow, testSatisfied_other hflow, testResume_other hsatisfied]

theorem takeDeficit_flow (hphase : (s.line p).phase = .flow) (howes : ¬s.owes p) :
    s.takeDeficit p = s.modLine p fun l => { l with setpoint := flowSetpoint (s.deficit p) (s.item .flowSpan) } := by
  rw [State.takeDeficit, noteDeficit_noted hnoted, judgeSetpoint_flow hphase,
    testSatisfied_stays fun h => howes ((owes_modLine rfl).mp h)]
  exact testResume_other (by rw [modLine_self]; simp [hphase])

theorem takeDeficit_owing (hphase : (s.line p).phase = .flow) (howes : s.owes p) (hstay : ¬s.resumable p)
    (hstill : (s.lineShut p .satisfied).unmarked = none) :
    s.takeDeficit p = (s.lineShut p .satisfied).setEvent .lineSatisfied := by
  have hflow : ((s.modLine p fun l => { l with setpoint := flowSetpoint (s.deficit p) (s.item .flowSpan) }).line p).phase = .flow := by
    rw [modLine_self]; exact hphase
  have hcollapse : (s.modLine p fun l => { l with setpoint := flowSetpoint (s.deficit p) (s.item .flowSpan) }).lineShut p .satisfied =
      s.lineShut p .satisfied := modLine_modLine ..
  rw [State.takeDeficit, noteDeficit_noted hnoted, judgeSetpoint_flow hphase, testSatisfied_owing hflow ((owes_modLine rfl).mpr howes),
    enterSatisfied_stays (fun h => hstay ((resumable_modLine rfl rfl).mp h)) (by rw [hcollapse]; exact hstill), hcollapse]
  exact testResume_stays fun h => hstay ((resumable_modLine rfl rfl).mp h)

theorem takeDeficit_satisfied (hphase : (s.line p).phase = .satisfied) : s.takeDeficit p = s.testResume p := by
  have hflow : (s.line p).phase ≠ .flow := by rw [hphase]; decide
  rw [State.takeDeficit, noteDeficit_noted hnoted, judgeSetpoint_other hflow, testSatisfied_other hflow]

end

/-! ## The start of a line -/

theorem startLine_primed (hhold : s.inForce (.portHold p) = false) (hopen : (s.account p).window = true) (he : s.estop = false)
    (hprime : 0 < s.item .primeVolume) (hstill : (s.linePrimed p).unmarked = none) : s.startLine p = s.linePrimed p := by
  have hprimed : (s.modLine p fun l => { l with phase := .prime, valve := !s.estop, setpoint := 1, sinceOpen := 0 }) =
      s.linePrimed p := modLine_congr (by rw [he]; rfl)
  have hempty : ((s.linePrimed p).line p).sinceOpen = 0 := by rw [State.linePrimed, modLine_self]
  rw [startLine_prime hhold hopen he, hprimed, judgeKeys_of_agrees fun _ hkey =>
    agrees_of_unmarked hstill (measured_of_mem_lineKeys hkey)]
  exact testPrimed_of_empty hprime hempty

theorem startLine_shut (hhold : s.inForce (.portHold p) = false) (hshut : (s.account p).window = false ∨ s.estop = true)
    (hstill : (s.lineShut p .idle).unmarked = none) : s.startLine p = s.lineShut p .idle := by
  rw [State.startLine, if_neg (by simp [hhold]), if_pos (by simpa using hshut), enterPhase_shut rfl hstill]

end

end Sys2Proof.Machine
end

section
/-! LINE SUSPEND and LINE RESUME (R108, R109). -/

namespace Sys2Proof.Machine

/-- The judgment of L_grout watches nothing: a state that waits for nothing after it waited for no condition before. -/
theorem unmarked_of_judged {s : State} (h : s.judgeGrout.quiet = true) : s.unmarked = none :=
  (unmarked_of_watched rfl).trans (quiet_iff.mp h).1

theorem lineOf_above {n : Nat} (h : 5 < n) : lineOf n = none := dif_neg (by omega)

theorem lineOf_val (p : LineIx) : lineOf p.val = some p := dif_pos p.isLt

/-! ## What the owner answers -/

section
variable {s : State} {p : LineIx}

theorem requestSuspend_unknown {n : Nat} (h : 5 < n) : s.requestSuspend n = (s, .refusedRange 10) := by
  rw [State.requestSuspend, lineOf_above h]

theorem requestSuspend_blocked (h : (s.line p).phase = .blocked) : s.requestSuspend p.val = (s, .refusedState 1) := by
  simp only [State.requestSuspend, lineOf_val, h]

theorem requestSuspend_out (h : (s.line p).phase = .out) : s.requestSuspend p.val = (s, .refusedState 3) := by
  simp only [State.requestSuspend, lineOf_val, h]

theorem requestSuspend_accepted (hblocked : (s.line p).phase ≠ .blocked) (hout : (s.line p).phase ≠ .out) :
    s.requestSuspend p.val = ((s.enterPhase p .out).judgeGrout, .accepted) := by
  simp only [State.requestSuspend, lineOf_val]

theorem requestResume_unknown {n : Nat} (h : 5 < n) : s.requestResume n = (s, .refusedRange 10) := by
  rw [State.requestResume, lineOf_above h]

theorem requestResume_refused (h : (s.line p).phase ≠ .out) : s.requestResume p.val = (s, .refusedState 2) := by
  simp only [State.requestResume, lineOf_val]

theorem requestResume_accepted (h : (s.line p).phase = .out) :
    s.requestResume p.val = (((s.modLine p fun l => { l with outThroughout := false }).startLine p).judgeGrout, .accepted) := by
  simp only [State.requestResume, lineOf_val, h]

end

/-! ## The commands -/

theorem exec_lineSuspend (line : Payload) (s : State) :
    exec (.lineSuspend line) s = s.run fun u => u.request .grout 24 fun v => v.requestSuspend line.toNat := rfl

theorem exec_lineResume (line : Payload) (s : State) :
    exec (.lineResume line) s = s.run fun u => u.request .grout 25 fun v => v.requestResume line.toNat := rfl

/-- The answer of LINE RESUME where the start of the line leads to a known state. -/
theorem exec_lineResume_started {s t : State} {line : Payload} {p : LineIx} (h : s.ready .grout = true) (hline : line.toNat = p.val)
    (hout : ((s.attended .grout).line p).phase = .out)
    (hstart : ((s.attended .grout).modLine p fun l => { l with outThroughout := false }).startLine p = t)
    (ht : t.judgeGrout.quiet = true) : exec (.lineResume line) s = .next (t.judgeGrout.answer .grout 25 .accepted) := by
  rw [exec_lineResume, hline]
  exact run_request h ((requestResume_accepted hout).trans (by rw [hstart])) ht

/-- Settles O29: both owners look at the line's index and then at its phase, and an accepted request moves the line as `enterPhase` or
`startLine` does where no condition comes or goes. -/
theorem linesAreSuspendedAndResumed : Obligations.LinesAreSuspendedAndResumed := by
  refine ⟨?suspend, ?resume⟩
  case suspend =>
    intro s line hready u
    refine ⟨fun hrange => ?_, ?_⟩
    · rw [exec_lineSuspend]
      exact run_refused hready (requestSuspend_unknown hrange)
    · intro p hline t
      rw [exec_lineSuspend, hline]
      refine ⟨fun h => run_refused hready (requestSuspend_blocked h), fun h => run_refused hready (requestSuspend_out h),
        fun hblocked hout hquiet => run_request hready ?_ hquiet⟩
      rw [requestSuspend_accepted hblocked hout, enterPhase_shut rfl (unmarked_of_judged hquiet)]
      rfl
  case resume =>
    intro s line hready u
    refine ⟨fun hrange => ?_, ?_⟩
    · rw [exec_lineResume]
      exact run_refused hready (requestResume_unknown hrange)
    · intro p hline started shut accepts
      have hresumed (f : Line → Line) :
          (u.modLine p fun l => { l with outThroughout := false }).modLine p f = u.modLine p fun l => f { l with outThroughout := false } :=
        modLine_modLine ..
      refine ⟨fun h => ?_, fun hout => ⟨fun hhold hquiet => ?_, fun hhold hshut hquiet => ?_, fun hhold hopen he hprime hquiet => ?_⟩⟩
      · rw [exec_lineResume, hline]
        exact run_refused hready (requestResume_refused h)
      · refine exec_lineResume_started hready hline hout ?_ hquiet
        rw [startLine_held (by exact hhold), enterPhase_shut rfl (by rw [State.lineShut, hresumed]; exact unmarked_of_judged hquiet)]
        exact hresumed _
      · refine exec_lineResume_started hready hline hout ?_ hquiet
        rw [startLine_shut (by exact hhold) (by exact hshut)
          (by rw [State.lineShut, hresumed]; exact unmarked_of_judged hquiet)]
        exact hresumed _
      · refine exec_lineResume_started hready hline hout ?_ hquiet
        rw [startLine_primed (by exact hhold) (by exact hopen) (by exact he) (by exact hprime)
          (by rw [State.linePrimed, hresumed]; exact unmarked_of_judged hquiet)]
        exact hresumed _

end Sys2Proof.Machine
end

section
/-! What a tail line does at a publication of its deficit, at a new pressure, at a window notice and as PORT_HOLD enters and leaves, by
its phase (R99 to R107, R113, R133). -/

namespace Sys2Proof.Machine

section
variable {s : State} {p : LineIx}

/-! ## A publication -/

theorem noteDeficit_line (s : State) (p : LineIx) :
    (s.noteDeficit p).line p = { s.line p with resumeDeficit := s.item .resumeDeficit } := modLine_self ..

theorem noteDeficit_phase (s : State) (p : LineIx) : ((s.noteDeficit p).line p).phase = (s.line p).phase := by rw [noteDeficit_line]

theorem noteDeficit_inUse (s : State) (p : LineIx) :
    ((s.noteDeficit p).line p).resumeDeficit = (s.noteDeficit p).item .resumeDeficit := by rw [noteDeficit_line]; rfl

/-- After a publication the satisfaction test uses the present RESUME_DEFICIT (R113). -/
theorem noteDeficit_owes (s : State) (p : LineIx) :
    (s.noteDeficit p).owes p ↔ (s.deficit p).n = true ∧ (s.deficit p).d ≤ -(s.item .resumeDeficit : Int) := by
  unfold State.owes
  rw [noteDeficit_line]
  rfl

/-- After a publication the resumption test uses the present RESUME_DEFICIT and the pressure limits in use (R104, R113). -/
theorem noteDeficit_resumable (s : State) (p : LineIx) :
    (s.noteDeficit p).resumable p ↔
      (s.item .resumeDeficit : Int) ≤ (s.deficit p).d ∧ (s.account p).window = true ∧ s.fellBack p = true := by
  have hfell : (s.noteDeficit p).fellBack p = s.fellBack p := fellBack_modLine rfl
  unfold State.resumable
  rw [noteDeficit_line, hfell]
  rfl

/-- Beside FLOW and SATISFIED a publication only brings RESUME_DEFICIT into use (log entry 26). -/
theorem publication_other (hflow : (s.line p).phase ≠ .flow) (hsatisfied : (s.line p).phase ≠ .satisfied) :
    s.takeDeficit p = s.noteDeficit p := by
  rw [← noteDeficit_phase] at hflow hsatisfied
  rw [← takeDeficit_noted]
  exact takeDeficit_other (noteDeficit_inUse s p) hflow hsatisfied

theorem publication_flow (hflow : (s.line p).phase = .flow) (howes : ¬(s.noteDeficit p).owes p) :
    s.takeDeficit p =
      (s.noteDeficit p).modLine p fun l => { l with setpoint := flowSetpoint (s.deficit p) (s.item .flowSpan) } := by
  rw [← noteDeficit_phase] at hflow
  rw [← takeDeficit_noted]
  exact takeDeficit_flow (noteDeficit_inUse s p) hflow howes

theorem publication_owing (hflow : (s.line p).phase = .flow) (howes : (s.noteDeficit p).owes p) (hstay : ¬(s.noteDeficit p).resumable p)
    (hstill : ((s.noteDeficit p).lineShut p .satisfied).unmarked = none) :
    s.takeDeficit p = ((s.noteDeficit p).lineShut p .satisfied).setEvent .lineSatisfied := by
  rw [← noteDeficit_phase] at hflow
  rw [← takeDeficit_noted]
  exact takeDeficit_owing (noteDeficit_inUse s p) hflow howes hstay hstill

theorem publication_satisfied (h : (s.line p).phase = .satisfied) : s.takeDeficit p = (s.noteDeficit p).testResume p := by
  rw [← noteDeficit_phase] at h
  rw [← takeDeficit_noted]
  exact takeDeficit_satisfied (noteDeficit_inUse s p) h

theorem publication_resumes (hphase : (s.line p).phase = .satisfied) (hhyst : 0 < (s.line p).pressHyst)
    (h : (s.noteDeficit p).resumable p) (hstill : ((s.noteDeficit p).lineFlowing p).unmarked = none) :
    s.takeDeficit p = (s.noteDeficit p).lineFlowing p := by
  rw [publication_satisfied hphase]
  exact testResume_flows ((noteDeficit_phase s p).trans hphase) (by rw [noteDeficit_line]; exact hhyst) h hstill

/-! ## A pressure value -/

theorem notePressure_line (s : State) (p : LineIx) :
    (s.notePressure p).line p =
      { s.line p with pressMax := s.item .pressMax, pressHyst := s.item .pressHyst, pressureWithheld := false } := modLine_self ..

theorem notePressure_phase (s : State) (p : LineIx) : ((s.notePressure p).line p).phase = (s.line p).phase := by
  rw [notePressure_line]

/-- At a pressure value the limit test uses the present PRESS_MAX (R113). -/
theorem notePressure_atLimit (s : State) (p : LineIx) :
    (s.notePressure p).atLimit p = true ↔ ∃ v ∈ s.supply (pressureMeas p), s.item .pressMax ≤ v := by
  rw [atLimit_iff, notePressure_line]
  exact and_iff_right rfl

/-- At a pressure value the return test uses the present PRESS_MAX and PRESS_HYST (R113). -/
theorem notePressure_fellBack (s : State) (p : LineIx) :
    (s.notePressure p).fellBack p = true ↔
      ∃ v ∈ s.supply (pressureMeas p), s.item .pressHyst < s.item .pressMax ∧ v + s.item .pressHyst ≤ s.item .pressMax := by
  rw [fellBack_iff, notePressure_line]
  exact and_iff_right rfl

theorem notePressure_owes (s : State) (p : LineIx) : (s.notePressure p).owes p ↔ s.owes p := owes_modLine rfl

theorem notePressure_resumable (s : State) (p : LineIx) :
    (s.notePressure p).resumable p ↔
      ((s.line p).resumeDeficit : Int) ≤ (s.deficit p).d ∧ (s.account p).window = true ∧ (s.notePressure p).fellBack p = true := by
  unfold State.resumable
  rw [notePressure_line]
  rfl

theorem takePressure_other (hflow : (s.line p).phase ≠ .flow) (hlimit : (s.line p).phase ≠ .limit)
    (hsatisfied : (s.line p).phase ≠ .satisfied) : s.takePressure p = s.notePressure p := by
  rw [← notePressure_phase] at hflow hlimit hsatisfied
  unfold State.takePressure
  dsimp only
  split
  · next h => exact absurd h hflow
  · next h => exact absurd h hlimit
  · next h => exact absurd h hsatisfied
  · rfl

theorem takePressure_flow (h : (s.line p).phase = .flow) : s.takePressure p = (s.notePressure p).testLimit p := by
  rw [← notePressure_phase] at h
  simp only [State.takePressure, h]

theorem takePressure_limit (h : (s.line p).phase = .limit) :
    s.takePressure p = if (s.notePressure p).fellBack p then (s.notePressure p).enterFlow p else s.notePressure p := by
  rw [← notePressure_phase] at h
  simp only [State.takePressure, h]

theorem takePressure_satisfied (h : (s.line p).phase = .satisfied) : s.takePressure p = (s.notePressure p).testResume p := by
  rw [← notePressure_phase] at h
  simp only [State.takePressure, h]

theorem pressure_limits (hphase : (s.line p).phase = .flow) (hhigh : ∃ v ∈ s.supply (pressureMeas p), s.item .pressMax ≤ v)
    (hstill : ((s.notePressure p).lineLimited p).unmarked = none) : s.takePressure p = (s.notePressure p).lineLimited p := by
  rw [takePressure_flow hphase, testLimit_at ((notePressure_phase s p).trans hphase) ((notePressure_atLimit s p).mpr hhigh),
    enterLimit_still hstill]

theorem pressure_below (hphase : (s.line p).phase = .flow) (hlow : ∀ v ∈ s.supply (pressureMeas p), v < s.item .pressMax) :
    s.takePressure p = s.notePressure p := by
  rw [takePressure_flow hphase]
  refine testLimit_below (Bool.eq_false_iff.mpr fun hat => ?_)
  obtain ⟨v, hv, hhigh⟩ := (notePressure_atLimit s p).mp hat
  exact absurd hhigh (not_le.mpr (hlow v hv))

/-- With PRESS_HYST above 0 the return from LIMIT does not lead back to it (R102). -/
theorem pressure_returns (hphase : (s.line p).phase = .limit) (hfell : (s.notePressure p).fellBack p = true)
    (hhyst : 0 < s.item .pressHyst) (howes : ¬s.owes p) (hstill : ((s.notePressure p).lineFlowing p).unmarked = none) :
    s.takePressure p = (s.notePressure p).lineFlowing p := by
  have hhyst' : 0 < ((s.notePressure p).line p).pressHyst := by rw [notePressure_line]; exact hhyst
  rw [takePressure_limit hphase, if_pos hfell]
  exact enterFlow_flows hstill (not_atLimit_of_fellBack hhyst' hfell) fun h => howes ((notePressure_owes s p).mp h)

theorem pressure_stays (hphase : (s.line p).phase = .limit) (hfell : ¬(s.notePressure p).fellBack p = true) :
    s.takePressure p = s.notePressure p := by rw [takePressure_limit hphase, if_neg hfell]

theorem pressure_resumes (hphase : (s.line p).phase = .satisfied) (hhyst : 0 < s.item .pressHyst) (h : (s.notePressure p).resumable p)
    (hstill : ((s.notePressure p).lineFlowing p).unmarked = none) : s.takePressure p = (s.notePressure p).lineFlowing p := by
  rw [takePressure_satisfied hphase]
  exact testResume_flows ((notePressure_phase s p).trans hphase) (by rw [notePressure_line]; exact hhyst) h hstill

/-! ## Window notices and PORT_HOLD -/

theorem takeOpening_idle (h : (s.line p).phase = .idle) : s.takeOpening p = s.startLine p := if_pos (by simp [h])

theorem takeOpening_other (h : (s.line p).phase ≠ .idle) : s.takeOpening p = s := if_neg (by simp [h])

theorem idleLine_used (h : (s.line p).phase ∈ [Phase.prime, .flow, .limit, .satisfied])
    (hstill : (s.lineShut p .idle).unmarked = none) : s.idleLine p = s.lineShut p .idle :=
  (if_pos ((Phase.idles_iff _).mpr h)).trans (enterPhase_shut rfl hstill)

theorem idleLine_other (h : (s.line p).phase ∉ [Phase.prime, .flow, .limit, .satisfied]) : s.idleLine p = s :=
  if_neg fun hidles => h ((Phase.idles_iff _).mp hidles)

theorem holdLine_held (h : (s.line p).phase ≠ .out) (hstill : (s.lineShut p .held).unmarked = none) :
    s.holdLine p = s.lineShut p .held := (if_pos (by simp [h])).trans (enterPhase_shut rfl hstill)

theorem holdLine_out (h : (s.line p).phase = .out) : s.holdLine p = s := if_neg (by simp [h])

theorem releaseLine_held (h : (s.line p).phase = .held) : s.releaseLine p = s.startLine p := if_pos (by simp [h])

theorem releaseLine_other (h : (s.line p).phase ≠ .held) : s.releaseLine p = s := if_neg (by simp [h])

/-- With no claim waiting, the RBU's examination of the queue behind PORT_HOLD's leaving finds nothing (R107, R81). -/
theorem take_portHoldLeaves (hqueue : s.rbu.queue = []) :
    s.take (.actionLeaves (.portHold p)) = (s.releaseLine p).judgeGrout := by
  have hwork := LineWork.trans (LineWork.releaseLine s p) (.judgeGrout _)
  have hrbu : (s.releaseLine p).judgeGrout.rbu = s.rbu := (congrArg State.rbu hwork.eq :)
  have htake : s.take (.actionLeaves (.portHold p)) = (s.releaseLine p).judgeGrout.examineHead := rfl
  rw [htake, examineHead_empty (by rw [hrbu, hqueue])]

end

/-! ## The statement -/

/-- Settles O37: each notice by the phase that the line is in, with the limits that it brings into use. -/
theorem tailLinesFollowDeficitPressureAndHolds : Obligations.TailLinesFollowDeficitPressureAndHolds := by
  intro s p l d level shut flowing primed limited published pressed supplied fallen owed
  have hlevel (span : Nat) : level span = flowSetpoint d span := by simp [level, flowSetpoint]
  have hflowing (t : State) (ht : t.estop = s.estop ∧ t.deficit p = d ∧ t.item .flowSpan = s.item .flowSpan) :
      flowing t = t.lineFlowing p := by
    obtain ⟨hestop, hdeficit, hspan⟩ := ht
    simp only [flowing, hlevel, State.lineFlowing, hestop, hdeficit, hspan]
  have hpublished : flowing published = (s.noteDeficit p).lineFlowing p := hflowing _ ⟨rfl, rfl, rfl⟩
  have hpressed : flowing pressed = (s.notePressure p).lineFlowing p := hflowing _ ⟨rfl, rfl, rfl⟩
  have hfell := notePressure_fellBack s p
  refine ⟨publication_other, ?publishedFlow, ?publishedOwing, ?publishedSatisfied, takePressure_other, ?pressedFlow, ?pressedLimit,
    ?pressedSatisfied, ?openedIdle, ?openedOther, ?closedUsed, ?closedOther, ?heldIn, ?heldOut, ?released, ?primed⟩
  case publishedFlow =>
    intro hflow howed
    rw [hlevel]
    exact publication_flow hflow fun h => howed ((noteDeficit_owes s p).mp h)
  case publishedOwing =>
    intro hflow howed hsound hstill
    have howes := (noteDeficit_owes s p).mpr howed
    obtain ⟨⟨-, -, hnegative, -⟩, -⟩ := (deficitsSound_iff s).mp hsound p
    exact publication_owing hflow howes (not_resumable_of_owes hnegative.mp howes) hstill
  case publishedSatisfied =>
    intro hphase hhyst hstill resumes
    have hresumes : resumes ↔ (s.noteDeficit p).resumable p := by rw [noteDeficit_resumable, fellBack_iff]; rfl
    rw [hpublished] at hstill ⊢
    refine ⟨fun h => publication_resumes hphase hhyst (hresumes.mp h) hstill, fun h => ?_⟩
    rw [publication_satisfied hphase, testResume_stays fun hmet => h (hresumes.mpr hmet)]
    rfl
  case pressedFlow => exact fun hflow => ⟨pressure_limits hflow, pressure_below hflow⟩
  case pressedLimit =>
    intro hlimit
    rw [hpressed]
    exact ⟨fun hback hhyst howed hstill => pressure_returns hlimit (hfell.mpr hback) hhyst howed hstill,
      fun hback => pressure_stays hlimit fun h => hback (hfell.mp h)⟩
  case pressedSatisfied =>
    intro hphase hhyst hstill resumes
    have hresumes : resumes ↔ (s.notePressure p).resumable p := by rw [notePressure_resumable, hfell]; rfl
    rw [hpressed] at hstill ⊢
    refine ⟨fun h => pressure_resumes hphase hhyst (hresumes.mp h) hstill, fun h => ?_⟩
    rw [takePressure_satisfied hphase, testResume_stays fun hmet => h (hresumes.mpr hmet)]
    rfl
  case openedIdle =>
    intro hidle hhold hopen he hprime hstill
    exact congrArg State.judgeGrout ((takeOpening_idle hidle).trans (startLine_primed hhold hopen he hprime hstill))
  case openedOther => exact fun h => congrArg State.judgeGrout (takeOpening_other h)
  case closedUsed => exact fun h hstill => congrArg State.judgeGrout (idleLine_used h hstill)
  case closedOther => exact fun h => congrArg State.judgeGrout (idleLine_other h)
  case heldIn => exact fun h hstill => congrArg State.judgeGrout (holdLine_held h hstill)
  case heldOut => exact fun h => congrArg State.judgeGrout (holdLine_out h)
  case released =>
    intro hqueue
    rw [take_portHoldLeaves hqueue]
    refine ⟨fun h => congrArg State.judgeGrout (releaseLine_other h), fun hheld hhold => ?_⟩
    rw [releaseLine_held hheld]
    exact ⟨fun hopen he hprime hstill => congrArg State.judgeGrout (startLine_primed hhold hopen he hprime hstill),
      fun hshut hstill => congrArg State.judgeGrout (startLine_shut hhold hshut hstill)⟩
  case primed =>
    intro hprime hstill
    refine ⟨testPrimed_filling, fun hfull howed hlow => ?_⟩
    rw [hflowing s ⟨rfl, rfl, rfl⟩] at hstill ⊢
    rw [testPrimed_full hprime hfull]
    refine enterFlow_flows hstill (Bool.eq_false_iff.mpr fun hat => ?_) howed
    obtain ⟨-, v, hv, hhigh⟩ := (atLimit_iff s p).mp hat
    exact absurd hhigh (not_le.mpr (hlow v hv))

end Sys2Proof.Machine
end

section
/-! The line counters: the increment of a report, what a delivery makes of the line, and MEASURE of one counter (R95, R96, R131). -/

namespace Sys2Proof.Machine

section
variable {s : State} {p : LineIx}

/-! ## The increment -/

/-- The increment of a counter that counts modulo 32,768. -/
theorem counterIncrement_eq {last v : Nat} (hv : v ≤ 32767) (hlast : last ≤ 32767) :
    counterIncrement last v = if last ≤ v then v - last else v + 32768 - last := by
  unfold counterIncrement
  split <;> omega

theorem counterIncrement_eq_zero {last v : Nat} (hv : v ≤ 32767) (hlast : last ≤ 32767) : counterIncrement last v = 0 ↔ v = last := by
  unfold counterIncrement
  omega

/-- The counter value is noted (R95). -/
def State.noteCounter (s : State) (p : LineIx) (v : Nat) : State :=
  s.modLine p fun l => { l with lastCounter := v, counterValid := true }

theorem takeLineCounter_rebases (h : (s.line p).counterValid = false) (v : Nat) : s.takeLineCounter p v = s.noteCounter p v :=
  if_pos (by simp [h])

theorem takeLineCounter_valid (h : (s.line p).counterValid = true) (v : Nat) :
    s.takeLineCounter p v =
      if counterIncrement (s.line p).lastCounter v = 0 then s.noteCounter p v
      else if s.item .jumpGrout < counterIncrement (s.line p).lastCounter v then (s.noteCounter p v).raise (.measJump ⟨p.val, by omega⟩)
      else (s.noteCounter p v).deliver p (counterIncrement (s.line p).lastCounter v) := if_neg (by simp [h])

/-! ## A delivery -/

/-- The line's record after a delivery of `n`, with RESUME_DEFICIT in use as this publication brings it (R93, R96, R113). -/
def Line.delivering (l : Line) (n resume : Nat) : Line :=
  { l with
    delivered := min (2 ^ 30 - 1) (l.delivered + n), sinceOpen := min 32767 (l.sinceOpen + n)
    secondCount := if l.phase = .limit then min 32767 (l.secondCount + n) else l.secondCount
    resumeDeficit := resume }

/-- The part once a delivery has been counted and the line's deficit judged. -/
def State.delivered (s : State) (p : LineIx) (n : Nat) : State :=
  (s.modLine p fun l => l.delivering n (s.item .resumeDeficit)).judgeDeficit p

/-- The ACT's judgment does not read what a publication brings into use. -/
theorem judgeDeficit_noteDeficit (s : State) (p : LineIx) : (s.judgeDeficit p).noteDeficit p = (s.noteDeficit p).judgeDeficit p := by
  have hsum : (s.noteDeficit p).deficitSum p = s.deficitSum p := by
    unfold State.deficitSum
    rw [noteDeficit_line]
    rfl
  rw [State.judgeDeficit, State.judgeDeficit, hsum]
  rfl

theorem deliver_eq (s : State) (p : LineIx) (n : Nat) :
    s.deliver p n = (((s.delivered p n).testPrimed p).takeDeficit p).judgeGrout := by
  have hcounted (t : State) (f : Line → Line) (hf : { f (t.line p) with resumeDeficit := t.item .resumeDeficit } =
      (t.line p).delivering n (t.item .resumeDeficit)) :
      ((t.modLine p f).judgeDeficit p).noteDeficit p = t.delivered p n := by
    have hnoted : (t.modLine p f).noteDeficit p = t.modLine p fun l => l.delivering n (t.item .resumeDeficit) :=
      (modLine_modLine t p f _).trans (modLine_congr hf)
    rw [judgeDeficit_noteDeficit, hnoted]
    rfl
  unfold State.deliver
  dsimp only
  rw [hcounted s _ (by simp [Line.delivering, addUpTo])]

theorem delivered_line (s : State) (p : LineIx) (n : Nat) :
    (s.delivered p n).line p = (s.line p).delivering n (s.item .resumeDeficit) := modLine_self ..

theorem delivered_phase (s : State) (p : LineIx) (n : Nat) : ((s.delivered p n).line p).phase = (s.line p).phase := by
  rw [delivered_line]; rfl

theorem delivered_inUse (s : State) (p : LineIx) (n : Nat) :
    ((s.delivered p n).line p).resumeDeficit = (s.delivered p n).item .resumeDeficit := by
  rw [delivered_line]; rfl

theorem delivered_window (s : State) (p : LineIx) (n : Nat) : ((s.delivered p n).account p).window = (s.account p).window := by
  rw [State.delivered, State.judgeDeficit, modAccount_account, if_pos rfl]
  rfl

theorem delivered_negative (s : State) (p : LineIx) (n : Nat) :
    ((s.delivered p n).deficit p).n = true → ((s.delivered p n).deficit p).d < 0 := by
  rw [State.deficit, State.delivered, judgeDeficit_deficit]
  exact (deficitOf_flags ..).2.1.mp

theorem delivered_atLimit (s : State) (p : LineIx) (n : Nat) :
    (s.delivered p n).atLimit p = true ↔
      (s.line p).pressureWithheld = false ∧ ∃ v ∈ s.supply (pressureMeas p), (s.line p).pressMax ≤ v := by
  rw [atLimit_iff, delivered_line]
  rfl

theorem delivered_owes (s : State) (p : LineIx) (n : Nat) :
    (s.delivered p n).owes p ↔
      ((s.delivered p n).deficit p).n = true ∧ ((s.delivered p n).deficit p).d ≤ -(s.item .resumeDeficit : Int) := by
  unfold State.owes
  rw [delivered_line]
  rfl

theorem delivered_resumable (s : State) (p : LineIx) (n : Nat) :
    (s.delivered p n).resumable p ↔
      (s.item .resumeDeficit : Int) ≤ ((s.delivered p n).deficit p).d ∧ (s.account p).window = true ∧
        (s.line p).pressureWithheld = false ∧ ∃ v ∈ s.supply (pressureMeas p),
          (s.line p).pressHyst < (s.line p).pressMax ∧ v + (s.line p).pressHyst ≤ (s.line p).pressMax := by
  unfold State.resumable
  rw [fellBack_iff, delivered_window, delivered_line]
  rfl

/-! ## What a delivery leads to, by the line's phase -/

/-- Outside PRIME, FLOW and SATISFIED a delivery is counted and judged (R96). -/
theorem deliver_other (hprime : (s.line p).phase ≠ .prime) (hflow : (s.line p).phase ≠ .flow)
    (hsatisfied : (s.line p).phase ≠ .satisfied) (n : Nat) : s.deliver p n = (s.delivered p n).judgeGrout := by
  rw [← delivered_phase s p n] at hprime hflow hsatisfied
  rw [deliver_eq, testPrimed_other hprime, takeDeficit_other (delivered_inUse s p n) hflow hsatisfied]

theorem deliver_filling {n : Nat} (hphase : (s.line p).phase = .prime)
    (h : ((s.delivered p n).line p).sinceOpen < s.item .primeVolume) : s.deliver p n = (s.delivered p n).judgeGrout := by
  rw [← delivered_phase s p n] at hphase
  rw [deliver_eq, testPrimed_filling h, takeDeficit_other (delivered_inUse s p n) (by simp [hphase]) (by simp [hphase])]

theorem deliver_flow {n : Nat} (hphase : (s.line p).phase = .flow) (howes : ¬(s.delivered p n).owes p) :
    s.deliver p n =
      ((s.delivered p n).modLine p fun l =>
        { l with setpoint := flowSetpoint ((s.delivered p n).deficit p) (s.item .flowSpan) }).judgeGrout := by
  rw [← delivered_phase s p n] at hphase
  rw [deliver_eq, testPrimed_other (by simp [hphase]), takeDeficit_flow (delivered_inUse s p n) hphase howes]
  rfl

theorem deliver_owing {n : Nat} (hphase : (s.line p).phase = .flow) (howes : (s.delivered p n).owes p)
    (hstill : ((s.delivered p n).lineShut p .satisfied).unmarked = none) :
    s.deliver p n = (((s.delivered p n).lineShut p .satisfied).setEvent .lineSatisfied).judgeGrout := by
  rw [← delivered_phase s p n] at hphase
  rw [deliver_eq, testPrimed_other (by simp [hphase]), takeDeficit_owing (delivered_inUse s p n) hphase howes
    (not_resumable_of_owes (delivered_negative s p n) howes) hstill]

theorem deliver_satisfied {n : Nat} (hphase : (s.line p).phase = .satisfied) :
    s.deliver p n = ((s.delivered p n).testResume p).judgeGrout := by
  rw [← delivered_phase s p n] at hphase
  rw [deliver_eq, testPrimed_other (by simp [hphase]), takeDeficit_satisfied (delivered_inUse s p n) hphase]

/-- The publication that follows the entry into SATISFIED finds no resumption due. -/
theorem takeDeficit_settledSatisfied (hnoted : (s.line p).resumeDeficit = s.item .resumeDeficit) (hstay : ¬s.resumable p) :
    ((s.lineShut p .satisfied).setEvent .lineSatisfied).takeDeficit p = (s.lineShut p .satisfied).setEvent .lineSatisfied := by
  have hline : ((s.lineShut p .satisfied).line p).phase = .satisfied := by rw [State.lineShut, modLine_self]
  have hnoted' : ((s.lineShut p .satisfied).line p).resumeDeficit = s.item .resumeDeficit := by
    rw [State.lineShut, modLine_self]; exact hnoted
  have hstay' : ¬(s.lineShut p .satisfied).resumable p := fun h => hstay ((resumable_modLine rfl rfl).mp h)
  rw [takeDeficit_satisfied (by exact hnoted') (by exact hline)]
  exact testResume_stays hstay'

/-! ## The end of priming -/

section
variable {n : Nat} (hphase : (s.line p).phase = .prime) (hfull : s.item .primeVolume ≤ ((s.delivered p n).line p).sinceOpen)
  (hstill : ((s.delivered p n).lineFlowing p).unmarked = none)
include hphase hfull

theorem deliver_full : s.deliver p n = (((s.delivered p n).enterFlow p).takeDeficit p).judgeGrout := by
  rw [← delivered_phase s p n] at hphase
  rw [deliver_eq, testPrimed_full hphase hfull]

include hstill

/-- The publication that follows the entry into FLOW judges S again to no effect. -/
theorem deliver_full_flows (hlow : (s.delivered p n).atLimit p = false) (howes : ¬(s.delivered p n).owes p) :
    s.deliver p n = ((s.delivered p n).lineFlowing p).judgeGrout := by
  have hline : (((s.delivered p n).lineFlowing p).line p).phase = .flow := by rw [State.lineFlowing, modLine_self]
  have hnoted : (((s.delivered p n).lineFlowing p).line p).resumeDeficit = ((s.delivered p n).lineFlowing p).item .resumeDeficit := by
    rw [State.lineFlowing, modLine_self]
    exact delivered_inUse s p n
  have howes' : ¬((s.delivered p n).lineFlowing p).owes p := fun h => howes ((owes_modLine rfl).mp h)
  rw [deliver_full hphase hfull, enterFlow_flows hstill hlow howes, takeDeficit_flow hnoted hline howes']
  exact congrArg State.judgeGrout (modLine_fixed (by rw [State.lineFlowing, modLine_self]; rfl))

theorem deliver_full_satisfied (hlow : (s.delivered p n).atLimit p = false) (howes : (s.delivered p n).owes p)
    (hshut : ((s.delivered p n).lineShut p .satisfied).unmarked = none) :
    s.deliver p n = (((s.delivered p n).lineShut p .satisfied).setEvent .lineSatisfied).judgeGrout := by
  have hstay := not_resumable_of_owes (delivered_negative s p n) howes
  rw [deliver_full hphase hfull, enterFlow_satisfied hstill hlow howes hstay hshut,
    takeDeficit_settledSatisfied (delivered_inUse s p n) hstay]

theorem deliver_full_limits (hhigh : (s.delivered p n).atLimit p = true) :
    s.deliver p n = (((s.delivered p n).lineFlowing p).lineLimited p).judgeGrout := by
  have hline : ((((s.delivered p n).lineFlowing p).lineLimited p).line p).phase = .limit := by rw [State.lineLimited, modLine_self]
  have hnoted : ((((s.delivered p n).lineFlowing p).lineLimited p).line p).resumeDeficit =
      (((s.delivered p n).lineFlowing p).lineLimited p).item .resumeDeficit := by
    rw [State.lineLimited, modLine_self, State.lineFlowing, modLine_self]
    exact delivered_inUse s p n
  rw [deliver_full hphase hfull, enterFlow_limits hstill hhigh, takeDeficit_other hnoted (by simp [hline]) (by simp [hline])]

end

end

/-! ## MEASURE of one counter -/

theorem pairTarget_counter {number : Nat} {p : LineIx} (h : number = 8 + p.val) : pairTarget .grout number = .ok (counterMeas p) := by
  subst h
  fin_cases p <;> rfl

theorem passValue_counter (s : State) (p : LineIx) (v : Nat) : s.passValue (counterMeas p) v = s.takeLineCounter p v := by
  fin_cases p <;> rfl

/-- A counter's report is FRESH with the value reported, which is passed to the line (R131). -/
theorem takeReport_counter (s : State) (p : LineIx) {v : Nat} (hv : v ≤ 32767) :
    s.takeReport (counterMeas p) v =
      (s.modMeas (counterMeas p) fun _ =>
        { state := .fresh, value := some v, age := some 0, clamped := false, lastValid := some v, hasBeenValid := true
          degraded := false }).takeLineCounter p v := by
  have htop : rangeTop (counterMeas p) = 32767 := by fin_cases p <;> rfl
  have hcounter : isCounter (counterMeas p) = true := by fin_cases p <;> rfl
  have hface : ¬(counterMeas p).val = 0 := by fin_cases p <;> decide
  unfold State.takeReport
  dsimp only
  rw [if_neg hface, htop, Nat.min_eq_left hv, hcounter, passValue_counter, Bool.not_true, Bool.and_false]

theorem requestMeasure_counter (s : State) {p : LineIx} {number value : Payload} (h : number.toNat = 8 + p.val) :
    s.requestMeasure .grout [(number, value)] = ((s.takeReport (counterMeas p) value.toNat).settled, .accepted) := by
  have htarget := pairTarget_counter h
  simp [State.requestMeasure, State.takePairs, measureReply, htarget]

theorem exec_measure (st : Station) (pairs : List (Payload × Payload)) (s : State) :
    exec (.measure st pairs) s = s.run fun t => t.request st 40 fun u => u.requestMeasure st pairs := rfl

/-! ## The statement -/

/-- Settles O33: the increment by its three ranges, a delivery by the line's eight phases, and MEASURE as the report of the counter. -/
theorem lineCountersAreMetered : Obligations.LineCountersAreMetered := by
  refine ⟨⟨?counted, ?measured⟩, ?judged⟩
  case counted =>
    intro s p v n hv hlast last inc t
    have hzero := counterIncrement_eq_zero hv hlast
    have hinc : counterIncrement (s.line p).lastCounter v = inc := counterIncrement_eq hv hlast
    refine ⟨fun h => takeLineCounter_rebases h v, fun h => ?_, fun h => ?_⟩
    · rw [takeLineCounter_valid h, hinc]
      rw [hinc] at hzero
      exact ⟨fun hsame => if_pos (hzero.mpr hsame), fun hmoved hjump => by rw [if_neg fun h0 => hmoved (hzero.mp h0), if_pos hjump]; rfl,
        fun hmoved hcounts => by rw [if_neg fun h0 => hmoved (hzero.mp h0), if_neg (not_lt.mpr hcounts)]; rfl⟩
    · refine deliver_other (fun hp => ?_) (fun hp => ?_) (fun hp => ?_) n <;> simp [hp] at h
  case measured =>
    intro s p number value hready hnumber u
    have hv : value.toNat ≤ 32767 := Nat.le_of_lt_succ value.isLt
    rw [exec_measure]
    refine run_request_settled hready ?_
    rw [requestMeasure_counter _ hnumber, takeReport_counter _ _ hv]
    rfl
  case judged =>
    intro s p n l w d span level flowing satisfied limited supplied high owed resumes
    have hlevel : level = flowSetpoint d span := by simp [level, flowSetpoint]
    have hflowing : flowing = (s.delivered p n).lineFlowing p := by simp only [flowing, hlevel]; rfl
    have hlimited : limited = ((s.delivered p n).lineFlowing p).lineLimited p := by
      rw [State.lineLimited, State.lineFlowing, modLine_modLine]
      simp only [limited, hlevel]
      rfl
    have howed : owed ↔ (s.delivered p n).owes p := (delivered_owes s p n).symm
    have hhigh : high ↔ (s.delivered p n).atLimit p = true := (delivered_atLimit s p n).symm
    have hresumes : resumes ↔ (s.delivered p n).resumable p := (delivered_resumable s p n).symm
    rw [hflowing, hlimited, howed, hhigh, hresumes, hlevel]
    refine ⟨deliver_eq s p n, deliver_flow, deliver_owing, deliver_filling, fun hprime hfull hstill => ?_,
      fun hsatisfied hhyst hstill => ⟨fun h => ?_, fun h => ?_⟩⟩
    · exact ⟨fun hlow => deliver_full_flows hprime hfull hstill (by simpa using hlow),
        fun hlow => deliver_full_satisfied hprime hfull hstill (by simpa using hlow), deliver_full_limits hprime hfull hstill⟩
    · have hhyst' : 0 < ((s.delivered p n).line p).pressHyst := by rw [delivered_line]; exact hhyst
      rw [deliver_satisfied hsatisfied, testResume_flows ((delivered_phase s p n).trans hsatisfied) hhyst' h hstill]
    · exact (deliver_satisfied hsatisfied).trans (congrArg State.judgeGrout (testResume_stays h))

end Sys2Proof.Machine
end

section
/-! The second timer of the GRU and the stall test (R93, R102, R103, R106). -/

namespace Sys2Proof.Machine

/-! ## A raise touches no line -/

section
variable (s : State) (v : Vector Line 6)

theorem withLines_announce (before : Faults) : (s.withLines v).announce before = (s.announce before).withLines v := by
  rw [announce_eq, announce_eq]
  rfl

theorem withLines_offerFirst (key : FaultKey) : (s.withLines v).offerFirst key = (s.offerFirst key).withLines v := by
  have hfirst : (s.withLines v).fsv.first = s.fsv.first := rfl
  unfold State.offerFirst
  rw [hfirst]
  cases s.fsv.first <;> rfl

theorem withLines_setDomainEvent (key : FaultKey) : (s.withLines v).setDomainEvent key = (s.setDomainEvent key).withLines v := by
  unfold State.setDomainEvent
  cases key.domain <;> rfl

theorem withLines_raiseUnder (key : FaultKey) (mode : Nat) :
    (s.withLines v).raiseUnder key mode = (s.raiseUnder key mode).withLines v := by
  have hoffered (t : State) :
      (((t.withLines v).offerFirst key).setEvent .faultRaised).setDomainEvent key =
        (((t.offerFirst key).setEvent .faultRaised).setDomainEvent key).withLines v := by
    rw [withLines_offerFirst]
    exact withLines_setDomainEvent ((t.offerFirst key).setEvent .faultRaised) v key
  have hstanding : (s.withLines v).fsv.find key = s.fsv.find key := rfl
  unfold State.raiseUnder
  dsimp only
  rw [hstanding]
  split
  · exact hoffered { s.countRaise key with fsv := (s.countRaise key).raisedList key mode }
  · rfl

theorem withLines_answerBlocked (key : FaultKey) : (s.withLines v).answerBlocked key = (s.answerBlocked key).withLines v := by
  cases key with
  | groutBlocked p =>
    have hmode : (s.withLines v).faultMode (.groutBlocked p) = s.faultMode (.groutBlocked p) := rfl
    have hfind : (s.withLines v).fsv.find (.groutBlocked p) = s.fsv.find (.groutBlocked p) := rfl
    simp only [State.answerBlocked, hmode, hfind]
    split <;> rfl
  | contactLoss | claimTimeout | groutGap | overexc | underexc | torqueHigh | faceLow | faceHigh | measInvalid | measJump
  | stationSilent => rfl

theorem withLines_raise (key : FaultKey) : (s.withLines v).raise key = (s.raise key).withLines v := by
  have hunder : (s.withLines v).raiseUnder key ((s.withLines v).faultMode key) = (s.raiseUnder key (s.faultMode key)).withLines v :=
    withLines_raiseUnder s v key _
  rw [State.raise, hunder, withLines_announce, withLines_answerBlocked]
  rfl

theorem vector_ext_fin {α : Type} {n : Nat} {u w : Vector α n} (h : ∀ q : Fin n, u[q] = w[q]) : u = w :=
  Vector.ext fun i hi => h ⟨i, hi⟩

/-- What is watched of the lines is their phases. -/
theorem watched_withLines {s : State} {v w : Vector Line 6} (h : ∀ q : LineIx, v[q].phase = w[q].phase) :
    (s.withLines v).watched = (s.withLines w).watched := by
  have hphases : v.map Line.phase = w.map Line.phase := vector_ext_fin fun q => by simpa using h q
  exact congrArg (fun phases => { s.watched with phases := phases }) hphases

end

/-! ## A line's second -/

/-- The record of a line in LIMIT once its second is closed: the count is the last entry of its history (R102). -/
def Line.secondClosed (l : Line) (room : Nat) : Line :=
  { l with stallHistory := lastOf room (l.stallHistory ++ [l.secondCount]), secondCount := 0 }

/-- The record of a line after a tick that finds no stall. -/
def Line.ticked (l : Line) (room : Nat) : Line := if l.phase = .limit then l.secondClosed room else { l with secondCount := 0 }

theorem Line.ticked_phase (l : Line) (room : Nat) : (l.ticked room).phase = l.phase := by
  unfold Line.ticked
  split <;> rfl

section
variable {s : State} {p : LineIx}

theorem tickLine_other (h : (s.line p).phase ≠ .limit) : s.tickLine p = s.modLine p fun l => { l with secondCount := 0 } :=
  if_neg (by simp [h])

theorem tickLine_limit (h : (s.line p).phase = .limit) :
    s.tickLine p =
      if ((s.line p).secondClosed (s.item .stallTime)).stallHistory.length = s.item .stallTime then
        (s.modLine p fun l => l.secondClosed (s.item .stallTime)).testStall p
      else s.modLine p fun l => l.secondClosed (s.item .stallTime) := by
  have hclosed : ((s.modLine p fun l => { l with secondCount := 0 }).modLine p fun r =>
      { r with stallHistory := lastOf (s.item .stallTime) (r.stallHistory ++ [(s.line p).secondCount]) }) =
      s.modLine p fun l => l.secondClosed (s.item .stallTime) := (modLine_modLine ..).trans (modLine_congr rfl)
  unfold State.tickLine
  dsimp only
  rw [if_pos (by simp [h]), hclosed, modLine_self]

/-! ## The stall test -/

theorem testStall_flowing (h : s.item .stallTime * s.item .flowMax ≤ (s.line p).stallHistory.sum * 960) : s.testStall p = s :=
  if_neg (by simpa [State.stalled] using h)

theorem testStall_stalled (h : (s.line p).stallHistory.sum * 960 < s.item .stallTime * s.item .flowMax) :
    s.testStall p =
      if (s.deficit p).d ≤ (s.item .deficitLow : Int) then s.enterSatisfied p
      else ((s.enterPhase p .blocked).setEvent .lineBlocked).raise (.groutBlocked p) := if_pos (by simpa [State.stalled] using h)

/-- A line that owes little is SATISFIED where no resumption is due (R103). -/
theorem testStall_satisfied (h : (s.line p).stallHistory.sum * 960 < s.item .stallTime * s.item .flowMax)
    (hlow : (s.deficit p).d ≤ s.item .deficitLow) (hstay : ¬s.resumable p) (hstill : (s.lineShut p .satisfied).unmarked = none) :
    s.testStall p = (s.lineShut p .satisfied).setEvent .lineSatisfied := by
  rw [testStall_stalled h, if_pos hlow, enterSatisfied_stays hstay hstill]

theorem testStall_blocked (h : (s.line p).stallHistory.sum * 960 < s.item .stallTime * s.item .flowMax)
    (hhigh : (s.item .deficitLow : Int) < (s.deficit p).d) (hstill : (s.lineShut p .blocked).unmarked = none) :
    s.testStall p = ((s.lineShut p .blocked).setEvent .lineBlocked).raise (.groutBlocked p) := by
  rw [testStall_stalled h, if_neg (not_le.mpr hhigh), enterPhase_shut rfl hstill]

/-- No resumption is due: the deficit, the window or the pressure does not meet it (R104). -/
theorem not_resumable_iff (s : State) (p : LineIx) :
    ¬s.resumable p ↔
      (s.deficit p).d < (s.line p).resumeDeficit ∨ (s.account p).window = false ∨ (s.line p).pressureWithheld = true ∨
        ∀ v ∈ s.supply (pressureMeas p),
          ¬((s.line p).pressHyst < (s.line p).pressMax ∧ v + (s.line p).pressHyst ≤ (s.line p).pressMax) := by
  rw [State.resumable, fellBack_iff, not_and_or, not_and_or, not_and_or, not_le, Bool.not_eq_true, Bool.not_eq_false, not_exists]
  simp only [not_and]

theorem resumable_withLines {u : Vector Line 6} (h : (s.withLines u).line p = s.line p) :
    (s.withLines u).resumable p ↔ s.resumable p := by
  unfold State.resumable State.fellBack State.pressure
  dsimp only
  rw [h]
  rfl

end

/-! ## A tick without a stall -/

/-- Each line's second is closed where no history that a tick completes stalls. -/
theorem groutTick_closes {s : State}
    (h : ∀ p, (s.line p).phase = .limit → ((s.line p).secondClosed (s.item .stallTime)).stallHistory.length = s.item .stallTime →
      s.item .stallTime * s.item .flowMax ≤ ((s.line p).secondClosed (s.item .stallTime)).stallHistory.sum * 960) :
    s.groutTick = s.withLines (mapIx s.gru.lines fun _ l => l.ticked (s.item .stallTime)) := by
  refine foldl_allLines (mk := s.withLines) (v := s.gru.lines) (f := fun _ l => l.ticked (s.item .stallTime)) fun u p hp _ => ?_
  have hline : (s.withLines u).line p = s.line p := hp
  by_cases hlimit : (s.line p).phase = .limit
  · have hturn : ((s.withLines u).modLine p fun l => l.secondClosed (s.item .stallTime)) =
        s.withLines (modAt u p fun l => l.ticked (s.item .stallTime)) := by
      refine modLine_congr (s := s.withLines u) (g := fun l => l.ticked (s.item .stallTime)) ?_
      rw [hline, Line.ticked, if_pos hlimit]
    rw [tickLine_limit (by rw [hline]; exact hlimit), hline,
      show (s.withLines u).item .stallTime = s.item .stallTime from rfl, ← hturn]
    split
    · next hfull =>
      refine testStall_flowing ?_
      rw [modLine_self, hline]
      exact h p hlimit hfull
    · rfl
  · rw [tickLine_other (by rw [hline]; exact hlimit)]
    refine modLine_congr (s := s.withLines u) (g := fun l => l.ticked (s.item .stallTime)) ?_
    rw [hline, Line.ticked, if_neg hlimit]

theorem watched_ticked (s : State) (room : Nat) : (s.withLines (mapIx s.gru.lines fun _ l => l.ticked room)).watched = s.watched :=
  watched_withLines (w := s.gru.lines) fun q => by rw [mapIx_getElem, Line.ticked_phase]

/-! ## A tick at which one line stalls -/

/-- The second count of each line of a list becomes 0. -/
def zeroSeconds (k : List LineIx) (q : LineIx) (l : Line) : Line := if q ∈ k then { l with secondCount := 0 } else l

theorem zeroSeconds_phase (k : List LineIx) (q : LineIx) (l : Line) : (zeroSeconds k q l).phase = l.phase := by
  unfold zeroSeconds; split <;> rfl

theorem zeroSeconds_again {k k' : List LineIx} {q : LineIx} (h : q ∈ k ∨ q ∈ k') (l : Line) :
    zeroSeconds k' q (zeroSeconds k q l) = { l with secondCount := 0 } := by
  unfold zeroSeconds
  split_ifs with h' hk hk
  · rfl
  · rfl
  · rfl
  · exact absurd h (by simp [h', hk])

/-- The ticks of lines that are not in LIMIT only zero their second counts. -/
theorem foldl_tickLine_resting {s : State} {k : List LineIx} (hk : k.Nodup) {u : Vector Line 6} (h : ∀ q ∈ k, u[q].phase ≠ .limit) :
    k.foldl State.tickLine (s.withLines u) = s.withLines (mapIx u (zeroSeconds k)) := by
  induction k generalizing u with
  | nil => simp [mapIx, zeroSeconds]
  | cons p k ih =>
    obtain ⟨hp, hk⟩ := List.nodup_cons.mp hk
    have hturn : (s.withLines u).tickLine p = s.withLines (modAt u p fun a => { a with secondCount := 0 }) :=
      tickLine_other (h p List.mem_cons_self)
    have hrest (q : LineIx) (hq : q ∈ k) : (modAt u p fun a => { a with secondCount := 0 })[q].phase ≠ .limit := by
      rw [modAt_getElem, if_neg (show p ≠ q from fun he => hp (he ▸ hq))]
      exact h q (List.mem_cons_of_mem _ hq)
    rw [List.foldl_cons, hturn, ih hk hrest]
    exact congrArg s.withLines (mapIx_cons u hp fun _ a => { a with secondCount := 0 })

/-- The lines after a tick at which TL*p* alone may do more than close its second. -/
def tickedAround (p : LineIx) (g : Line → Line) (q : LineIx) (l : Line) : Line := if q = p then g l else { l with secondCount := 0 }

theorem modAt_tickedAround (v : Vector Line 6) (p : LineIx) (f g : Line → Line) :
    modAt (mapIx v (tickedAround p g)) p f = mapIx v (tickedAround p fun l => f (g l)) := by
  refine vector_ext_fin fun q => ?_
  rw [modAt_getElem, mapIx_getElem, mapIx_getElem, tickedAround, tickedAround]
  by_cases hq : q = p
  · rw [if_pos hq.symm, if_pos hq, if_pos hq]
  · rw [if_neg (Ne.symm hq), if_neg hq, if_neg hq]

theorem mapIx_tickedAround_congr {v : Vector Line 6} {p : LineIx} {g g' : Line → Line} (h : g v[p] = g' v[p]) :
    mapIx v (tickedAround p g) = mapIx v (tickedAround p g') := by
  refine vector_ext_fin fun q => ?_
  rw [mapIx_getElem, mapIx_getElem, tickedAround, tickedAround]
  by_cases hq : q = p
  · rw [if_pos hq, if_pos hq, hq, h]
  · rw [if_neg hq, if_neg hq]

theorem mapIx_tickedAround {p : LineIx} {k k' : List LineIx} (hall : allLines = k ++ p :: k') (hk : p ∉ k) (hk' : p ∉ k')
    (v : Vector Line 6) (g : Line → Line) :
    mapIx (modAt (mapIx v (zeroSeconds k)) p g) (zeroSeconds k') = mapIx v (tickedAround p g) := by
  refine vector_ext_fin fun q => ?_
  rw [mapIx_getElem, modAt_getElem, mapIx_getElem, mapIx_getElem, tickedAround]
  by_cases hq : q = p
  · simp [zeroSeconds, hq, hk, hk']
  · have hmem : q ∈ k ∨ q ∈ k' := by
      have hin := mem_allLines q
      rw [hall] at hin
      simpa [hq] using hin
    rw [if_neg (Ne.symm hq), if_neg hq]
    exact zeroSeconds_again hmem _

/-- Where only TL*p* is in LIMIT, a tick is its move `g` there, which may reach beyond the lines (to `s'`), and a zeroed second count
elsewhere. -/
theorem groutTick_around {s s' : State} {p : LineIx} {g : Line → Line} (hothers : ∀ q, q ≠ p → (s.line q).phase ≠ .limit)
    (hmove : ∀ u : Vector Line 6, (s.withLines u).line p = s.line p → (∀ q, ((s.withLines u).line q).phase = (s.line q).phase) →
      (s.withLines u).tickLine p = s'.withLines (modAt u p g)) :
    s.groutTick = s'.withLines (mapIx s.gru.lines (tickedAround p g)) := by
  obtain ⟨k, k', hsplit, hk, hk'⟩ := allLines_split p
  have hnodup : (k ++ p :: k').Nodup := hsplit ▸ (by decide : allLines.Nodup)
  obtain ⟨hbefore, hrest, -⟩ := List.nodup_append.mp hnodup
  have hne {j : List LineIx} (hj : p ∉ j) {q : LineIx} (hq : q ∈ j) : q ≠ p := fun he => hj (he ▸ hq)
  have hfirst : k.foldl State.tickLine s = s.withLines (mapIx s.gru.lines (zeroSeconds k)) :=
    foldl_tickLine_resting (s := s) (u := s.gru.lines) hbefore fun q hq => hothers q (hne hk hq)
  have hline (q : LineIx) : (s.withLines (mapIx s.gru.lines (zeroSeconds k))).line q = zeroSeconds k q (s.line q) :=
    mapIx_getElem s.gru.lines (zeroSeconds k) q
  have hself : (s.withLines (mapIx s.gru.lines (zeroSeconds k))).line p = s.line p := (hline p).trans (if_neg hk)
  have hturn := hmove _ hself fun q => by rw [hline, zeroSeconds_phase]
  rw [State.groutTick, hsplit, List.foldl_append, List.foldl_cons, hfirst, hturn,
    foldl_tickLine_resting (List.nodup_cons.mp hrest).2 fun q hq => ?phases, mapIx_tickedAround hsplit hk hk']
  case phases =>
    rw [modAt_getElem, if_neg (hne hk' hq).symm, mapIx_getElem, zeroSeconds_phase]
    exact hothers q (hne hk' hq)

/-- The record of a line that stalls: its second is closed, and it leaves LIMIT with a closed valve (R103). -/
def Line.stalledTo (l : Line) (room : Nat) (ph : Phase) : Line :=
  { l.secondClosed room with phase := ph, valve := false, setpoint := 0 }

section
variable {s : State} {p : LineIx} {ph : Phase}

/-- The part after the tick at which TL*p* stalls and moves to a phase, but for what that sets going. -/
def State.stallTicked (s : State) (p : LineIx) (ph : Phase) : State :=
  s.withLines (mapIx s.gru.lines (tickedAround p fun l => l.stalledTo (s.item .stallTime) ph))

/-- The same part, with the line's history and closed valve said apart from its phase. -/
theorem stallTicked_eq {history : List Nat} (h : history = ((s.line p).secondClosed (s.item .stallTime)).stallHistory) :
    (s.withLines (mapIx s.gru.lines (tickedAround p fun l =>
      { l with stallHistory := history, secondCount := 0, valve := false, setpoint := 0 }))).modLine p
        (fun l => { l with phase := ph }) = s.stallTicked p ph := by
  have hclosed := modAt_tickedAround s.gru.lines p (fun l => { l with phase := ph }) fun l =>
    { l with stallHistory := history, secondCount := 0, valve := false, setpoint := 0 }
  refine congrArg s.withLines (hclosed.trans (mapIx_tickedAround_congr ?_))
  rw [h]
  rfl

theorem lineShut_secondClosed (s : State) (p : LineIx) (room : Nat) (ph : Phase) :
    (s.modLine p fun l => l.secondClosed room).lineShut p ph = s.modLine p fun l => l.stalledTo room ph := modLine_modLine ..

/-- In the middle of a tick, too, no condition comes or goes with the move: the phases are those after the tick. -/
theorem stalledTo_still {u : Vector Line 6} (hphases : ∀ q, ((s.withLines u).line q).phase = (s.line q).phase)
    (h : (s.stallTicked p ph).unmarked = none) :
    (((s.withLines u).modLine p fun l => l.secondClosed (s.item .stallTime)).lineShut p ph).unmarked = none := by
  rw [lineShut_secondClosed]
  refine (unmarked_of_watched (watched_withLines (s := s) fun q => ?_)).trans h
  rw [modAt_getElem, mapIx_getElem, tickedAround]
  by_cases hq : q = p
  · rw [if_pos hq.symm, if_pos hq]
    rfl
  · rw [if_neg (Ne.symm hq), if_neg hq]
    exact hphases q

variable (hlimit : (s.line p).phase = .limit) (hothers : ∀ q, q ≠ p → (s.line q).phase ≠ .limit)
  (hfull : ((s.line p).secondClosed (s.item .stallTime)).stallHistory.length = s.item .stallTime)
  (hstalls : ((s.line p).secondClosed (s.item .stallTime)).stallHistory.sum * 960 < s.item .stallTime * s.item .flowMax)

include hlimit hfull in
/-- The tick of a line whose history it completes is the stall test, whatever the other lines' second counts. -/
theorem tickLine_completes {u : Vector Line 6} (hline : (s.withLines u).line p = s.line p) :
    (s.withLines u).tickLine p = ((s.withLines u).modLine p fun l => l.secondClosed (s.item .stallTime)).testStall p := by
  rw [tickLine_limit (by rw [hline]; exact hlimit), hline]
  exact if_pos hfull

include hlimit hothers hfull hstalls

theorem groutTick_satisfies (hlow : (s.deficit p).d ≤ s.item .deficitLow) (hstay : ¬s.resumable p)
    (hstill : (s.stallTicked p .satisfied).unmarked = none) : s.groutTick = (s.stallTicked p .satisfied).setEvent .lineSatisfied := by
  refine groutTick_around (s' := s.setEvent .lineSatisfied) hothers fun u hline hphases => ?_
  have hsum : (((s.withLines u).modLine p fun l => l.secondClosed (s.item .stallTime)).line p).stallHistory.sum * 960 <
      s.item .stallTime * s.item .flowMax := by rw [modLine_self, hline]; exact hstalls
  have hstay' : ¬((s.withLines u).modLine p fun l => l.secondClosed (s.item .stallTime)).resumable p :=
    fun h => hstay ((resumable_withLines hline).mp ((resumable_modLine rfl rfl).mp h))
  rw [tickLine_completes hlimit hfull hline, testStall_satisfied hsum hlow hstay' (stalledTo_still hphases hstill),
    lineShut_secondClosed]
  rfl

theorem groutTick_blocks (hhigh : (s.item .deficitLow : Int) < (s.deficit p).d) (hstill : (s.stallTicked p .blocked).unmarked = none) :
    s.groutTick = ((s.stallTicked p .blocked).setEvent .lineBlocked).raise (.groutBlocked p) := by
  have hraise (v : Vector Line 6) : ((s.withLines v).setEvent .lineBlocked).raise (.groutBlocked p) =
      ((s.setEvent .lineBlocked).raise (.groutBlocked p)).withLines v := withLines_raise (s.setEvent .lineBlocked) v _
  rw [State.stallTicked, hraise]
  refine groutTick_around (s' := (s.setEvent .lineBlocked).raise (.groutBlocked p)) hothers fun u hline hphases => ?_
  have hsum : (((s.withLines u).modLine p fun l => l.secondClosed (s.item .stallTime)).line p).stallHistory.sum * 960 <
      s.item .stallTime * s.item .flowMax := by rw [modLine_self, hline]; exact hstalls
  rw [tickLine_completes hlimit hfull hline, testStall_blocked hsum hhigh (stalledTo_still hphases hstill), lineShut_secondClosed]
  exact hraise _

end

/-! ## The statement -/

/-- Settles O38: a tick without a stall closes each line's second; the stall test by its branches; and where one line stalls the others
only zero their counts, before and after it. -/
theorem groutTicksJudgeTheStall : Obligations.GroutTicksJudgeTheStall := by
  refine ⟨⟨?closes, ?test⟩, ?stalls⟩
  case closes =>
    intro s hcalm moved h
    have hmoved (l : Line) : moved l = (l.secondClosed (s.item .stallTime)).stallHistory := by
      simp [moved, Line.secondClosed, lastOf]
    have htick := groutTick_closes (s := s) fun p hlimit hfull => by
      rw [← hmoved] at hfull ⊢
      exact h p hlimit hfull
    have hquiet : (s.withLines (mapIx s.gru.lines fun _ l => l.ticked (s.item .stallTime))).quiet = true :=
      (quiet_of_watched (watched_ticked s _) rfl).trans (calm_iff.mp hcalm).2
    rw [exec_groutSecondTick, run_calm hcalm htick hquiet]
    simp only [hmoved]
    rfl
  case test =>
    intro s p hlimit total stays shut
    refine ⟨testStall_flowing, fun hstalls => ⟨fun hlow hstays hstill => ?_, fun hhigh hstill => ?_⟩⟩
    · exact testStall_satisfied hstalls hlow ((not_resumable_iff s p).mpr hstays) hstill
    · exact testStall_blocked hstalls hhigh hstill
  case stalls =>
    intro s p hcalm hlimit hothers stays history t at_ hlength hsum
    have hhistory : history = ((s.line p).secondClosed (s.item .stallTime)).stallHistory := by
      simp [history, Line.secondClosed, lastOf]
    have hat (ph : Phase) : at_ ph = s.stallTicked p ph := stallTicked_eq hhistory
    rw [hhistory] at hlength hsum
    simp only [hat]
    refine ⟨fun hlow hstays hquiet => ?_, fun hhigh hquiet => ?_⟩
    · have htick := groutTick_satisfies hlimit hothers hlength hsum hlow ((not_resumable_iff s p).mpr hstays) (quiet_iff.mp hquiet).1
      rw [exec_groutSecondTick]
      exact run_calm hcalm htick ((quiet_setEvent _ _).trans hquiet)
    · rw [exec_groutSecondTick, run_awake (calm_iff.mp hcalm).1,
        groutTick_blocks hlimit hothers hlength hsum hhigh (quiet_iff.mp hquiet).1]

end Sys2Proof.Machine
end

section
/-! What the blocks other than the MKU and the RBU do: the relation `Outside`, one lemma per operation. -/

namespace Sys2Proof.Machine

/-- `t` is `s` after work of blocks other than the MKU and the RBU: the muck record, the ring record, the claim queue and the history
are as they were, and so is the level of RESET. -/
structure Outside (s t : State) : Prop where
  eq : t = { s with
    pending := t.pending, estop := t.estop, seconds := t.seconds, ms := t.ms, config := t.config, groups := t.groups, adu := t.adu
    act := t.act, gru := t.gru, mst := t.mst, fsv := t.fsv, ports := t.ports, notices := t.notices }

namespace Outside

theorem of_aside {s t : State} (h : Aside s t) : Outside s t := ⟨by rw [h.eq]⟩

theorem of_lineWork {s t : State} (h : LineWork s t) : Outside s t := ⟨by rw [h.eq]⟩

theorem refl (s : State) : Outside s s := ⟨rfl⟩

theorem trans {s t u : State} (h : Outside s t) (k : Outside t u) : Outside s u := ⟨by rw [k.eq, h.eq]⟩

theorem foldl {α : Type} {f : State → α → State} (h : ∀ t a, Outside t (f t a)) (l : List α) (s : State) :
    Outside s (l.foldl f s) := foldl_along refl trans h l s

section
variable (s : State)

theorem modGroup (g : GroupIx) (f : Group → Group) : Outside s (s.modGroup g f) := ⟨rfl⟩

theorem modAdu (f : Advance → Advance) : Outside s (s.modAdu f) := ⟨rfl⟩

theorem modAct (f : Accounts → Accounts) : Outside s (s.modAct f) := ⟨rfl⟩

theorem modLine (p : LineIx) (f : Line → Line) : Outside s (s.modLine p f) := ⟨rfl⟩

theorem modMeas (m : MeasIx) (f : MeasRecord → MeasRecord) : Outside s (s.modMeas m f) := ⟨rfl⟩

theorem setEvent (e : Event) : Outside s (s.setEvent e) := ⟨rfl⟩

theorem send (n : Notice) : Outside s (s.send n) := ⟨rfl⟩

theorem raise (key : FaultKey) : Outside s (s.raise key) := of_lineWork (LineWork.raise s key)

theorem judgeKeys (keys : List FaultKey) : Outside s (s.judgeKeys keys) := of_lineWork (LineWork.judgeKeys s keys)

theorem judgeRate : Outside s s.judgeRate := ⟨rfl⟩

theorem judgeGrout : Outside s s.judgeGrout := ⟨rfl⟩

/-! ## The JGU -/

theorem changeGroups (f : GroupIx → Group → Group) : Outside s (s.changeGroups f) := ⟨by rw [changeGroups_eq]⟩

theorem jguPush : Outside s s.jguPush := (changeGroups s _).trans (foldl (fun t _ => ite_along (send t _) (refl t)) _ _)

theorem holdIfBoring : Outside s s.holdIfBoring := ite_along (changeGroups s _) (refl s)

theorem stopDwells : Outside s s.stopDwells := ⟨rfl⟩

theorem restartDwells : Outside s s.restartDwells := ite_along (refl s) ⟨rfl⟩

theorem expireDwell (g : GroupIx) : Outside s (s.expireDwell g) := ite_along (changeGroups s _) (refl s)

theorem comparePulse (g : GroupIx) : Outside s (s.comparePulse g) := by
  unfold State.comparePulse
  dsimp only
  split
  case h_1 => exact ite_along (changeGroups s _) (refl s)
  case h_2 => exact ite_along (modGroup s g _) (refl s)
  case h_3 => exact ite_along ((modGroup s g _).trans (raise _ _)) (refl s)
  case h_4 => exact ite_along ((modGroup s g (fun r => { r with strokeEndReported := true })).trans (send _ _)) (refl s)
  all_goals exact refl s

theorem pulse (g : GroupIx) (extending : Bool) : Outside s (s.pulse g extending) :=
  ite_along (modGroup s g _) ((modGroup s g _).trans ((comparePulse _ g).trans (send _ _)))

theorem requestReference (v : GroupIx → Nat) : Outside s (s.requestReference v).1 := by
  unfold State.requestReference
  split
  · exact refl s
  · exact (changeGroups s _).trans (send _ _)

/-! ## The ACT -/

theorem judgeDeficits : Outside s s.judgeDeficits := ⟨by rw [judgeDeficits_eq]; rfl⟩

theorem accrue (new : Nat) : Outside s (s.accrue new) := by
  have hsteps : Outside s (s.accrueSteps new) := ⟨by rw [accrueSteps_state]⟩
  exact hsteps.trans (of_lineWork (LineWork.accrue_of_steps s new))

theorem takeChange : Outside s s.takeChange := ite_along (accrue s _) (refl s)

theorem flush : Outside s s.flush := ite_along (accrue s _) (refl s)

theorem startAccountRing : Outside s s.startAccountRing :=
  (modAct s _).trans ((judgeDeficits _).trans (of_lineWork (startAccountRing_work s)))

/-! ## Reports of the tail lines -/

theorem deliver (p : LineIx) (n : Nat) : Outside s (s.deliver p n) :=
  (modLine s p _).trans ((⟨rfl⟩ : Outside _ (State.judgeDeficit _ p)).trans
    (of_lineWork ((LineWork.noteDeficit _ p).trans ((LineWork.testPrimed _ p).trans
      ((LineWork.takeDeficit _ p).trans (LineWork.judgeGrout _))))))

theorem takeLineCounter (p : LineIx) (v : Nat) : Outside s (s.takeLineCounter p v) := by
  have hnoted := modLine s p fun l => { l with lastCounter := v, counterValid := true }
  exact ite_along hnoted (ite_along hnoted (ite_along (hnoted.trans (raise _ _)) (hnoted.trans (deliver _ _ _))))

theorem takePressure (p : LineIx) : Outside s (s.takePressure p) := by
  have hnoted : Outside s (s.notePressure p) := modLine s p _
  unfold State.takePressure
  dsimp only
  split
  · exact hnoted.trans (of_lineWork (LineWork.testLimit _ p))
  · exact ite_along (hnoted.trans (of_lineWork (LineWork.enterFlow _ p))) hnoted
  · exact hnoted.trans (of_lineWork (LineWork.testResume _ p))
  · exact hnoted

theorem requestSuspend (index : Nat) : Outside s (s.requestSuspend index).1 := by
  unfold State.requestSuspend
  split
  · exact refl s
  · split
    case h_3 => exact of_lineWork ((LineWork.enterPhase s _ .out).trans (LineWork.judgeGrout _))
    all_goals exact refl s

theorem requestResume (index : Nat) : Outside s (s.requestResume index).1 := by
  unfold State.requestResume
  split
  · exact refl s
  · split
    · exact (modLine s _ _).trans (of_lineWork ((LineWork.startLine _ _).trans (LineWork.judgeGrout _)))
    · exact refl s

/-! ## The ADU -/

theorem enterCycle (c : Cycle) : Outside s (s.enterCycle c) := (modAdu s _).trans ((judgeRate _).trans (judgeKeys _ _))

theorem enterStandstill : Outside s s.enterStandstill := (enterCycle s _).trans (flush _)

theorem enterRundown : Outside s s.enterRundown := by
  have hrun := (holdIfBoring s).trans ((modAdu _ fun a => { a with thrustPermit := false, cutterPermit := false, spinup := none }).trans
    ((enterCycle _ .rundown).trans (flush _)))
  exact ite_along (hrun.trans ((setEvent _ _).trans (enterStandstill _))) hrun

theorem enterPaused (kept : Bool) : Outside s (s.enterPaused kept) :=
  (holdIfBoring s).trans ((modAdu _ fun a =>
    { a with thrustPermit := false, cutterPermit := kept && a.cutterPermit, spinup := none }).trans
      ((enterCycle _ .paused).trans (modAdu _ fun a => { a with permitKept := kept })))

theorem enterSpinup : Outside s s.enterSpinup := (modAdu s _).trans ((enterCycle _ _).trans ((modAdu _ _).trans (judgeRate _)))

theorem testTarget : Outside s s.testTarget :=
  ite_along ((setEvent s _).trans ((modAdu _ _).trans (enterRundown _))) (refl s)

theorem takeStrokeChange : Outside s s.takeStrokeChange := by
  have hmeasured := modAdu s fun a => { a with a := meanAdvance s.groups }
  unfold State.takeStrokeChange
  dsimp only
  split
  · exact (ite_along (hmeasured.trans (takeChange _)) hmeasured : Outside s _).trans (testTarget _)
  · exact hmeasured.trans (testTarget _)
  · exact refl s

theorem takeStrokeEnd : Outside s s.takeStrokeEnd :=
  ite_along ((setEvent s _).trans ((modAdu _ _).trans (enterRundown _))) (refl s)

theorem takeHalt : Outside s s.takeHalt := by
  unfold State.takeHalt
  dsimp only
  split
  · exact enterPaused s _
  · exact ite_along (enterPaused s _) (refl s)
  · exact ite_along (modAdu s _) (refl s)
  · exact refl s

theorem expireStopTimer : Outside s s.expireStopTimer := by
  have hstopped := modAdu s fun a => { a with stopTimer := none, cutter := .stopped }
  exact ite_along (ite_along (hstopped.trans ((setEvent _ _).trans (enterStandstill _))) hstopped) (refl s)

theorem expireSpinup : Outside s s.expireSpinup :=
  ite_along ((modAdu s _).trans ((setEvent _ _).trans (enterStandstill _))) (refl s)

theorem dropCycle : Outside s s.dropCycle :=
  (setEvent s .estop).trans (ite_along ((changeGroups _ _).trans ((modAdu _ _).trans (enterStandstill _))) (refl _))

theorem takeCompletion : Outside s s.takeCompletion :=
  (modAdu s fun a => { a with ringStartPending := true }).trans (ite_along (enterStandstill _) (refl _))

theorem requestStart : Outside s s.requestStart.1 := by
  unfold State.requestStart
  split
  · exact refl s
  · exact enterSpinup s

theorem requestStop : Outside s s.requestStop.1 := by
  have hstop : Outside s (s.setCause .stopRequest).enterRundown := (modAdu s _).trans (enterRundown _)
  unfold State.requestStop
  split <;> dsimp only
  case h_4 | h_5 | h_6 => exact refl s
  all_goals exact hstop

theorem requestLevel (n : Nat) : Outside s (s.requestLevel n).1 := by
  unfold State.requestLevel
  split
  · exact refl s
  · exact (modAdu s _).trans (judgeRate _)

/-! ## CONFIGURE -/

theorem changePolicy (m : MeasIx) : Outside s (s.changePolicy m) := by
  unfold State.changePolicy
  dsimp only
  split
  · exact ite_along ((modMeas s m _).trans (modLine _ _ _)) (modMeas s m _)
  · exact modMeas s m _

theorem onChange (old : ConfigSet) (i : Item) {f : State → State} (h : ∀ t, Outside t (f t)) : Outside s (s.onChange old i f) :=
  onChange_along refl h s old i

theorem respondFirst (old : ConfigSet) (pairs : List (Payload × Payload)) : Outside s (s.respondFirst old pairs) := by
  have hcoefficients : Outside s (s.onCoefficients pairs) := ite_along ⟨rfl⟩ (refl s)
  refine trans ?_ (onChange _ old .flowSpan fun t => of_lineWork (LineWork.foldl LineWork.judgeSetpoint _ t))
  refine trans ?_ (onChange _ old .rounding fun t => (judgeDeficits t).trans (of_lineWork (LineWork.takeDeficits _)))
  exact hcoefficients.trans (foldl (fun t m => onChange t old _ fun u => changePolicy u m) _ _)

end

end Outside

end Sys2Proof.Machine
end

section
/-! The order of the cars and of the claims: what each operation of the MKU and of the RBU makes of it (R80, R119, R121 to R123). -/

namespace Sys2Proof.Machine

/-! ## The train -/

/-- What `State.trainSound` reads of the muck record, and L_muck. -/
structure TrainPart where
  cars : Nat
  ordered : Bool
  filling : Bool
  present : Bool
  permit : Bool
  lMuck : Nat

def Muck.train (k : Muck) : TrainPart :=
  { cars := k.cars.length, ordered := carsInOrder k.cars, filling := k.filling.isSome, present := k.capacity.isSome
    permit := k.beltPermit, lMuck := k.lMuck }

/-- At most twelve cars in their order, and a capacity exactly while a train is present. -/
def TrainPart.formed (c : TrainPart) : Prop := c.cars ≤ 12 ∧ c.ordered = true ∧ (c.present = true ↔ c.cars ≠ 0)

/-- `State.trainSound`, said of what it reads. -/
def TrainPart.sound (c : TrainPart) : Prop := c.formed ∧ (c.permit = true → c.filling = true)

/-- L_muck follows the belt permit (R124). -/
def TrainPart.leveled (c : TrainPart) : Prop := c.lMuck = if c.permit then 8 else 0

theorem trainSound_iff (s : State) : s.trainSound ↔ s.mku.train.sound := by
  simp only [State.trainSound, TrainPart.sound, TrainPart.formed, Muck.train, ne_eq, List.length_eq_zero_iff, and_assoc]

theorem filling_isSome (k : Muck) : k.filling.isSome = k.cars.any fun c => c.state == .filling := List.isSome_find?

theorem carsInOrder_map {f : Car → Car} (h : ∀ c, (f c).state = c.state) (l : List Car) : carsInOrder (l.map f) = carsInOrder l := by
  induction l with
  | nil => rfl
  | cons c rest ih => simp only [List.map_cons, carsInOrder, h, ih, List.all_map, Function.comp_def]

/-- Cars changed in anything but their states are in the order they were in. -/
theorem train_mapCars {f : Car → Car} (h : ∀ c, (f c).state = c.state) (k : Muck) :
    ({ k with cars := k.cars.map f } : Muck).train = k.train := by
  simp only [Muck.train, filling_isSome, carsInOrder_map h, List.length_map, List.any_map, Function.comp_def, h]

/-! ## The claims -/

/-- What `State.queueSound` reads of the RBU's records. -/
structure ClaimPart where
  queue : List Piece
  state : Piece → PieceState
  rings : Nat

def RingBuild.claims (b : RingBuild) : ClaimPart :=
  { queue := b.queue.map QueueEntry.piece, state := fun pc => b.record.pieces[pc.idx].state, rings := b.history.length }

namespace ClaimPart

/-- `State.queueSound`, said of what it reads. -/
def sound (c : ClaimPart) : Prop :=
  c.queue.length ≤ 3 ∧ c.queue.Nodup ∧ (∀ pc, c.state pc = .queued ↔ pc ∈ c.queue) ∧ c.rings ≤ 8

/-- A piece is in another state than QUEUED, and has no claim in the queue. -/
def withdrawn (c : ClaimPart) (pc : Piece) (st : PieceState) : ClaimPart :=
  { c with queue := c.queue.filter fun q => q != pc, state := Function.update c.state pc st }

/-- A piece is QUEUED, and its claim is at the tail of the queue. -/
def joined (c : ClaimPart) (pc : Piece) : ClaimPart :=
  { c with queue := c.queue ++ [pc], state := Function.update c.state pc .queued }

theorem sound.withdrawn {c : ClaimPart} (h : c.sound) (pc : Piece) {st : PieceState} (hst : st ≠ .queued) : (c.withdrawn pc st).sound := by
  obtain ⟨hroom, hnodup, hqueued, hrings⟩ := h
  refine ⟨(List.length_filter_le ..).trans hroom, hnodup.filter _, fun q => ?_, hrings⟩
  by_cases hq : q = pc
  · subst hq
    simp [ClaimPart.withdrawn, hst]
  · simp [ClaimPart.withdrawn, hq, hqueued q]

theorem sound.joined {c : ClaimPart} (h : c.sound) {pc : Piece} (hpc : c.state pc ≠ .queued) (hroom : c.queue.length < 3) :
    (c.joined pc).sound := by
  obtain ⟨-, hnodup, hqueued, hrings⟩ := h
  have hnew : pc ∉ c.queue := fun hmem => hpc ((hqueued pc).mpr hmem)
  refine ⟨by simpa [ClaimPart.joined] using hroom, hnodup.append (List.nodup_singleton pc) ?_, fun q => ?_, hrings⟩
  · simpa using hnew
  · by_cases hq : q = pc
    · subst hq
      simp [ClaimPart.joined]
    · simp [ClaimPart.joined, hq, hqueued q]

/-- A piece that is not QUEUED has no claim to take out of the queue. -/
theorem sound.filter_eq {c : ClaimPart} (h : c.sound) {pc : Piece} (hpc : c.state pc ≠ .queued) :
    (c.queue.filter fun q => q != pc) = c.queue := by
  obtain ⟨-, -, hqueued, -⟩ := h
  refine List.filter_eq_self.mpr fun q hq => ?_
  have hne : q ≠ pc := fun he => hpc ((hqueued pc).mpr (he ▸ hq))
  simpa using hne

/-- The head is the one claim of its piece. -/
theorem sound.filter_head {c : ClaimPart} (h : c.sound) {pc : Piece} {rest : List Piece} (hq : c.queue = pc :: rest) :
    (c.queue.filter fun q => q != pc) = rest := by
  obtain ⟨-, hnodup, -⟩ := h
  rw [hq] at hnodup ⊢
  have hnot : pc ∉ rest := (List.nodup_cons.mp hnodup).1
  rw [List.filter_cons_of_neg (by simp)]
  exact List.filter_eq_self.mpr fun q hmem => by simpa using fun he : q = pc => hnot (he ▸ hmem)

end ClaimPart

theorem queueSound_iff (s : State) : s.queueSound ↔ s.rbu.claims.sound := by
  simp only [State.queueSound, ClaimPart.sound, RingBuild.claims, List.length_map]
  rfl

/-! ## What leaves both alone -/

/-- The invariant of this statement: the cars and the claims are in order. -/
def State.inOrder (s : State) : Prop := s.trainSound ∧ s.queueSound

/-- `t` has the cars and the claims of `s`, as far as their order goes, and the level of RESET. -/
structure SameOrder (s t : State) : Prop where
  train : t.mku.train = s.mku.train
  claims : t.rbu.claims = s.rbu.claims
  resetActive : t.resetActive = s.resetActive

/-- Cars in order stay so, L_muck goes on following the belt permit, and claims in order stay so. -/
structure OrderKept (s t : State) : Prop where
  resetActive : t.resetActive = s.resetActive
  cars : s.mku.train.sound → t.mku.train.sound
  leveled : s.mku.train.leveled → t.mku.train.leveled
  claims : s.rbu.claims.sound → t.rbu.claims.sound

theorem OrderKept.keeps {s t : State} (h : OrderKept s t) : Keeps State.inOrder s t where
  kept hs := by
    obtain ⟨hreset, htrain, hqueue⟩ := hs
    exact ⟨h.resetActive.trans hreset, (trainSound_iff t).mpr (h.cars ((trainSound_iff s).mp htrain)),
      (queueSound_iff t).mpr (h.claims ((queueSound_iff s).mp hqueue))⟩

theorem SameOrder.kept {s t : State} (h : SameOrder s t) : OrderKept s t :=
  ⟨h.resetActive, fun hs => by rw [h.train]; exact hs, fun hs => by rw [h.train]; exact hs, fun hs => by rw [h.claims]; exact hs⟩

theorem Outside.sameOrder {s t : State} (h : Outside s t) : SameOrder s t :=
  ⟨by rw [h.eq], by rw [h.eq], by rw [h.eq]⟩

theorem Outside.kept {s t : State} (h : Outside s t) : OrderKept s t := h.sameOrder.kept

namespace OrderKept

theorem refl (s : State) : OrderKept s s := ⟨rfl, id, id, id⟩

theorem trans {s t u : State} (h : OrderKept s t) (k : OrderKept t u) : OrderKept s u :=
  ⟨k.resetActive.trans h.resetActive, fun hs => k.cars (h.cars hs), fun hs => k.leveled (h.leveled hs),
    fun hs => k.claims (h.claims hs)⟩

theorem foldl {α : Type} {f : State → α → State} (h : ∀ t a, OrderKept t (f t a)) (l : List α) (s : State) :
    OrderKept s (l.foldl f s) := foldl_along refl trans h l s

/-- Work that changes nothing of the train keeps the order where it keeps that of the claims. -/
theorem of_claims {s t : State} (hk : t.mku = s.mku) (hr : t.resetActive = s.resetActive)
    (h : s.rbu.claims.sound → t.rbu.claims.sound) : OrderKept s t :=
  ⟨hr, fun hs => by rw [hk]; exact hs, fun hs => by rw [hk]; exact hs, h⟩

end OrderKept

/-- Changes that make the same muck record of this one are the same change. -/
theorem modMku_congr {s : State} {f f' : Muck → Muck} (h : f s.mku = f' s.mku) : s.modMku f = s.modMku f' :=
  congrArg (fun k => ({ s with mku := k } : State)) h

namespace SameOrder

theorem modMku (s : State) (f : Muck → Muck) (h : (f s.mku).train = s.mku.train) : SameOrder s (s.modMku f) := ⟨h, rfl, rfl⟩

theorem modRecord (s : State) (f : RingRecord → RingRecord)
    (h : ∀ pc : Piece, (f s.rbu.record).pieces[pc.idx].state = s.rbu.record.pieces[pc.idx].state) : SameOrder s (s.modRecord f) where
  train := rfl
  claims := congrArg (fun st => ({ s.rbu.claims with state := st } : ClaimPart)) (funext h)
  resetActive := rfl

theorem of_eq {s t : State} (hk : t.mku = s.mku) (hb : t.rbu = s.rbu) (hr : t.resetActive = s.resetActive) : SameOrder s t :=
  ⟨by rw [hk], by rw [hb], hr⟩

theorem modPieces (s : State) (f : Fin 7 → PieceRecord → PieceRecord) (h : ∀ i r, (f i r).state = r.state) :
    SameOrder s (s.modRecord fun r => { r with pieces := mapIx r.pieces f }) :=
  modRecord s _ fun pc => by simp only [mapIx_getElem, h]

theorem modPiece (s : State) (pc : Piece) (f : PieceRecord → PieceRecord) (h : ∀ r, (f r).state = r.state) :
    SameOrder s (s.modPiece pc f) :=
  modRecord s _ fun q => by
    rw [modAt_getElem]
    split
    · exact h _
    · rfl

end SameOrder

end Sys2Proof.Machine
end

section
/-! Every step keeps the cars in their order and the claim queue to the QUEUED pieces. -/

namespace Sys2Proof.Machine

/-! ## The belt permit and the cars -/

theorem judgePermit_mku (s : State) :
    s.judgePermit.mku = { s.mku with beltPermit := s.permitFor, lMuck := if s.permitFor then 8 else 0 } :=
  (congrArg State.mku (judgePermit_work s).eq :)

theorem judgePermit_rbu (s : State) : s.judgePermit.rbu = s.rbu := (congrArg State.rbu (judgePermit_work s).eq :)

theorem judgePermit_resetActive (s : State) : s.judgePermit.resetActive = s.resetActive :=
  (congrArg State.resetActive (judgePermit_work s).eq :)

/-- R123 gives a permit only with a FILLING car. -/
theorem filling_of_permitFor {s : State} (h : s.permitFor = true) : s.mku.filling.isSome = true := by
  unfold State.permitFor at h
  split at h
  · next hfilling _ => rw [hfilling]; rfl
  · cases h

theorem judgePermit_sound {s : State} (h : s.mku.train.formed) : s.judgePermit.mku.train.sound := by
  rw [judgePermit_mku]
  exact ⟨h, filling_of_permitFor⟩

theorem carsOfTrain_length {n : Nat} (h : 1 ≤ n) : (carsOfTrain n).length = n := by
  simp [carsOfTrain]
  omega

theorem carsOfTrain_inOrder (n : Nat) : carsInOrder (carsOfTrain n) = true := by
  simp [carsOfTrain, carsInOrder]

theorem shiftCars_length (l : List Car) : (shiftCars l).length = l.length := by
  induction l with
  | nil => rfl
  | cons c rest ih =>
    unfold shiftCars
    split
    · cases rest <;> rfl
    · simp [ih]

/-- A shift makes the FILLING car FULL and the EMPTY one behind it FILLING, which leaves the order as it is (R121). -/
theorem shiftCars_inOrder {l : List Car} (h : carsInOrder l = true) : carsInOrder (shiftCars l) = true := by
  induction l with
  | nil => rfl
  | cons c rest ih =>
    unfold shiftCars
    cases hc : c.state with
    | full =>
      simp only [carsInOrder, hc] at h
      simpa [carsInOrder, hc] using ih h
    | empty => simp [carsInOrder, hc] at h
    | filling =>
      simp only [carsInOrder, hc] at h
      cases rest with
      | nil => rfl
      | cons d more =>
        obtain ⟨hd, hmore⟩ : d.state = .empty ∧ ∀ x ∈ more, x.state = .empty := by simpa using h
        simpa [carsInOrder, hd] using hmore

namespace SameOrder

theorem refl (s : State) : SameOrder s s := ⟨rfl, rfl, rfl⟩

theorem trans {s t u : State} (h : SameOrder s t) (k : SameOrder t u) : SameOrder s u :=
  ⟨k.train.trans h.train, k.claims.trans h.claims, k.resetActive.trans h.resetActive⟩

theorem setEvent (s : State) (e : Event) : SameOrder s (s.setEvent e) := (Outside.setEvent s e).sameOrder

theorem testCarDue (s : State) : SameOrder s s.testCarDue :=
  ite_along ((modMku s _ (train_mapCars (fun c => by split <;> rfl) _)).trans (setEvent _ _)) (refl s)

theorem suspendTimers (s : State) : SameOrder s s.suspendTimers := modPieces s _ fun _ r => by split <;> rfl

theorem resumeTimers (s : State) : SameOrder s s.resumeTimers :=
  ite_along (refl s) (modPieces s _ fun _ r => by split <;> rfl)

theorem passMs (s : State) : SameOrder s s.passMs where
  train := rfl
  claims := by
    have hqueue : (s.rbu.queue.map fun e => ({ e with wait := e.wait - 1 } : QueueEntry)).map QueueEntry.piece =
        s.rbu.queue.map QueueEntry.piece := by rw [List.map_map]; rfl
    have hstate (pc : Piece) : s.passMs.rbu.record.pieces[pc.idx].state = s.rbu.record.pieces[pc.idx].state := by
      simp only [State.passMs, mapIx_getElem]
      split <;> rfl
    exact congrArg₂ (fun q st => ({ queue := q, state := st, rings := s.rbu.history.length } : ClaimPart)) hqueue (funext hstate)
  resetActive := rfl

end SameOrder

/-- Where the cars are formed as a train, the judgment of the belt permit leaves them in order. -/
theorem OrderKept.of_judgePermit {s t : State} (hc : t.rbu.claims = s.rbu.claims) (hr : t.resetActive = s.resetActive)
    (h : s.mku.train.sound → t.mku.train.formed) : OrderKept s t.judgePermit where
  resetActive := (judgePermit_resetActive t).trans hr
  cars hs := judgePermit_sound (h hs)
  leveled _ := by rw [judgePermit_mku]; rfl
  claims hs := by rw [judgePermit_rbu, hc]; exact hs

/-- A piece that is not QUEUED may take any state but QUEUED. -/
theorem OrderKept.of_state {s t : State} {pc : Piece} {st : PieceState} (hst : st ≠ .queued) (hfree : (s.piece pc).state ≠ .queued)
    (hk : t.mku = s.mku) (hr : t.resetActive = s.resetActive)
    (ht : t.rbu.claims = { s.rbu.claims with state := Function.update s.rbu.claims.state pc st }) : OrderKept s t :=
  .of_claims hk hr fun hs => by
    have hwithdrawn := hs.withdrawn pc hst
    rw [ClaimPart.withdrawn, hs.filter_eq hfree] at hwithdrawn
    rw [ht]
    exact hwithdrawn

/-! ## The states of the pieces -/

theorem modPiece_claims (s : State) (pc : Piece) (f : PieceRecord → PieceRecord) :
    (s.modPiece pc f).rbu.claims =
      { s.rbu.claims with state := Function.update s.rbu.claims.state pc (f (s.piece pc)).state } := by
  refine congrArg (fun st => ({ s.rbu.claims with state := st } : ClaimPart)) (funext fun q => ?_)
  change ((s.modPiece pc f).piece q).state = _
  rw [modPiece_piece]
  by_cases hq : pc = q
  · subst hq
    simp
  · rw [if_neg hq, Function.update_of_ne (Ne.symm hq)]
    rfl

theorem grant_claims (s : State) (pc : Piece) :
    (s.grant pc).rbu.claims = { s.rbu.claims with state := Function.update s.rbu.claims.state pc .retracting } := by
  rw [State.grant, State.jguRetract, changeGroups_eq]
  exact modPiece_claims s pc _

theorem grant_mku (s : State) (pc : Piece) : (s.grant pc).mku = s.mku := by
  rw [State.grant, State.jguRetract, changeGroups_eq]; rfl

theorem grant_resetActive (s : State) (pc : Piece) : (s.grant pc).resetActive = s.resetActive := by
  rw [State.grant, State.jguRetract, changeGroups_eq]; rfl

theorem claimQueued_claims (s : State) (pc : Piece) : (s.claimQueued pc).rbu.claims = s.rbu.claims.joined pc :=
  congrArg₂ (fun q st => ({ queue := q, state := st, rings := s.rbu.history.length } : ClaimPart)) List.map_append
    (congrArg ClaimPart.state (modPiece_claims s pc fun r => { r with state := .queued, claimTime := some s.seconds }))

theorem sendBack_outside (s : State) (pc : Piece) (st : PieceState) :
    Outside (s.modPiece pc fun r =>
      { r with state := st, awaited := r.groups, timer := s.startedTimer .returning (1000 * s.item .returnTime) }) (s.sendBack pc st) :=
  .changeGroups _ _

theorem dequeue_claims (s : State) (pc : Piece) : (s.dequeue pc).rbu.claims = s.rbu.claims.withdrawn pc .pending := by
  rw [State.dequeue, modPiece_claims]
  have hqueue : (s.rbu.queue.filter fun e => e.piece != pc).map QueueEntry.piece =
      (s.rbu.queue.map QueueEntry.piece).filter fun q => q != pc := by rw [List.filter_map]; rfl
  exact congrArg (fun q => ({ s.rbu.claims with queue := q, state := Function.update s.rbu.claims.state pc .pending } : ClaimPart)) hqueue

namespace OrderKept

section
variable (s : State)

/-! ## The MKU -/

theorem judgePermit : OrderKept s s.judgePermit := .of_judgePermit rfl rfl And.left

theorem countMuck (n : Nat) : OrderKept s (s.countMuck n) := by
  have hcounted : SameOrder s (s.modMku fun k => { k with measured := addUpTo massTop k.measured n }) := .modMku s _ rfl
  have hfilled (t : State) : SameOrder t (t.modMku fun k =>
      { k with cars := k.cars.map fun c => if c.state == .filling then { c with fill := addUpTo fillTop c.fill n } else c }) :=
    .modMku t _ (train_mapCars (fun c => by split <;> rfl) _)
  exact ite_along ((hcounted.trans ((hfilled _).trans (.testCarDue _))).kept.trans (judgePermit _))
    (hcounted.trans (.modMku _ _ rfl)).kept

theorem takeBeltCounter (v : Nat) : OrderKept s (s.takeBeltCounter v) := by
  have hnoted : OrderKept s (s.modMku fun k => { k with lastCounter := v, counterValid := true }) := (SameOrder.modMku s _ rfl).kept
  exact ite_along hnoted (ite_along hnoted (ite_along (hnoted.trans (Outside.raise _ _).kept) (hnoted.trans (countMuck _ _))))

theorem takeReport (m : MeasIx) (reported : Nat) : OrderKept s (s.takeReport m reported) := by
  have hpassed (t : State) (v : Nat) : OrderKept t (t.passValue m v) := by
    unfold State.passValue
    split_ifs
    · exact refl t
    · exact (Outside.takePressure t _).kept
    · exact (Outside.takeLineCounter t _ v).kept
    · exact takeBeltCounter t v
  unfold State.takeReport
  dsimp only
  refine trans ?_ (hpassed _ _)
  split <;> exact Outside.kept ⟨rfl⟩

theorem enterStale (m : MeasIx) : OrderKept s (s.enterStale m) := by
  have hinvalid (t : State) : SameOrder t (t.invalidateCounter m) := by
    unfold State.invalidateCounter
    split_ifs
    · exact .refl t
    · exact (Outside.modLine t _ _).sameOrder
    · exact .modMku t _ rfl
  exact ite_along ((Outside.modMeas s m _).kept.trans ((Outside.modMeas _ m _).kept.trans (hinvalid _).kept)) (refl s)

theorem muckTick : OrderKept s s.muckTick := by
  have hjudged (t : State) : OrderKept t t.judgeExcavation := by
    have hmoved (f : Muck → Muck) (key : FaultKey) (hf : (f t.mku).train = t.mku.train) : OrderKept t ((t.modMku f).raise key) :=
      (SameOrder.modMku t f hf).kept.trans (Outside.raise _ key).kept
    unfold State.judgeExcavation
    split
    · exact ite_along (refl t) (ite_along (hmoved _ _ rfl) (ite_along (hmoved _ _ rfl) (refl t)))
    · exact refl t
  exact ite_along ((SameOrder.modMku s _ rfl).kept.trans (hjudged _)) (refl s)

/-- A train comes in under an empty belt with car 1 FILLING (R119). -/
theorem requestTrainIn (n capacity : Nat) : OrderKept s (s.requestTrainIn n capacity).1 := by
  unfold State.requestTrainIn
  split
  · exact refl s
  · next hpass =>
    obtain ⟨hn, hroom⟩ : 1 ≤ n ∧ n ≤ 12 := by
      simpa using firstFailing_none hpass (decide (1 ≤ n ∧ n ≤ 12), .refusedRange 10) (by simp)
    have hdue := SameOrder.testCarDue (s.modMku fun k => { k with cars := carsOfTrain n, capacity := some capacity })
    refine .of_judgePermit hdue.claims hdue.resetActive fun _ => ?_
    rw [hdue.train]
    have hlength := carsOfTrain_length hn
    refine ⟨hlength.trans_le hroom, carsOfTrain_inOrder n, fun _ => ?_, fun _ => rfl⟩
    exact hlength.trans_ne (by omega)

/-- A shift keeps the number of the cars and their order (R121). -/
theorem requestCarShift : OrderKept s s.requestCarShift.1 := by
  unfold State.requestCarShift
  split
  · exact refl s
  · have hshifted (t : State) : SameOrder t (if t.mku.filling.isSome then t.testCarDue else t.setEvent .trainFull) :=
      ite_along (.testCarDue t) (.setEvent t _)
    have hmoved := hshifted (s.modMku fun k => { k with cars := shiftCars k.cars })
    refine .of_judgePermit hmoved.claims hmoved.resetActive fun hs => ?_
    rw [hmoved.train]
    obtain ⟨⟨hroom, hordered, hpresent⟩, -⟩ := hs
    have hlength : (shiftCars s.mku.cars).length = s.mku.train.cars := shiftCars_length s.mku.cars
    exact ⟨hlength.trans_le hroom, shiftCars_inOrder hordered, hpresent.trans (by rw [← hlength]; rfl)⟩

theorem requestTrainOut : OrderKept s s.requestTrainOut.1 :=
  .of_judgePermit rfl rfl fun _ => ⟨Nat.zero_le 12, rfl, by simp [State.modMku, Muck.train]⟩

/-! ## The RBU -/

/-- The head of the queue leaves it as its piece leaves QUEUED (R81). -/
theorem examineHead : OrderKept s s.examineHead := by
  unfold State.examineHead
  split
  · exact refl s
  · next e rest hq =>
    split
    · exact refl s
    · refine .of_claims (grant_mku _ _) (grant_resetActive _ _) fun hs => ?_
      have hwithdrawn := hs.withdrawn e.piece (st := .retracting) (by decide)
      rw [ClaimPart.withdrawn, hs.filter_head (rest := rest.map QueueEntry.piece) (by simp [RingBuild.claims, hq])] at hwithdrawn
      rw [grant_claims]
      exact hwithdrawn

theorem grant {pc : Piece} (h : (s.piece pc).state ≠ .queued) : OrderKept s (s.grant pc) :=
  .of_state (st := .retracting) (by decide) h (grant_mku s pc) (grant_resetActive s pc) (grant_claims s pc)

theorem modPiece (pc : Piece) (f : PieceRecord → PieceRecord) (hst : (f (s.piece pc)).state ≠ .queued)
    (h : (s.piece pc).state ≠ .queued) : OrderKept s (s.modPiece pc f) :=
  .of_state hst h rfl rfl (modPiece_claims s pc f)

/-- A piece that stays in its state has the claim that it had. -/
theorem modPiece_sameState (pc : Piece) (f : PieceRecord → PieceRecord) (h : ∀ r, (f r).state = r.state) :
    OrderKept s (s.modPiece pc f) := (SameOrder.modPiece s pc f h).kept

theorem sendBack {pc : Piece} {st : PieceState} (hst : st ≠ .queued) (h : (s.piece pc).state ≠ .queued) :
    OrderKept s (s.sendBack pc st) :=
  (modPiece s pc _ hst h).trans (sendBack_outside s pc st).kept

theorem dequeue (pc : Piece) : OrderKept s (s.dequeue pc) :=
  .of_claims rfl rfl fun hs => by
    rw [dequeue_claims]
    exact hs.withdrawn pc (by decide)

theorem arriveClear (g : GroupIx) (pc : Piece) : OrderKept s (s.arriveClear g pc) := by
  unfold State.arriveClear
  dsimp only
  split
  · exact refl s
  · next h =>
    have hfree : (s.piece pc).state ≠ .queued := by
      have hs : (s.piece pc).state = .retracting := by simpa using h
      simp [hs]
    exact ite_along ((modPiece s pc _ (by simp [PieceRecord.arrived]) hfree).trans (Outside.setEvent _ _).kept)
      (modPiece_sameState s pc _ fun _ => rfl)

/-- The history holds eight rings at most (R92). -/
theorem completeRing : OrderKept s s.completeRing := by
  have hrecord : OrderKept s (s.modRecord fun r =>
      { r with
        state := .complete, buildDuration := r.buildStart.map fun t => secondsSince t s.seconds, faultCounts := s.fsv.counters }) :=
    (SameOrder.modRecord s _ fun _ => rfl).kept
  have hhistory (t : State) : OrderKept t (t.modRbu fun b =>
      { b with lastCompleted := b.record.number, history := (b.record.historyEntry :: b.history).take historyRoom }) :=
    .of_claims rfl rfl fun hs => by
      obtain ⟨hroom, hnodup, hqueued, -⟩ := hs
      exact ⟨hroom, hnodup, hqueued, List.length_take_le _ _⟩
  exact hrecord.trans ((hhistory _).trans
    ((Outside.judgeKeys _ _).trans ((Outside.setEvent _ _).trans (Outside.takeCompletion _))).kept)

theorem arriveHold (g : GroupIx) (pc : Piece) : OrderKept s (s.arriveHold g pc) := by
  unfold State.arriveHold
  dsimp only
  split
  · next h =>
    have hset := (modPiece s pc (fun r => r.arrived .set) (by simp [PieceRecord.arrived]) (by simp [h])).trans
      (Outside.setEvent _ .pieceSet).kept
    exact ite_along (ite_along (hset.trans (completeRing _)) hset) (modPiece_sameState s pc _ fun _ => rfl)
  · next h =>
    exact ite_along ((modPiece s pc _ (by simp [PieceRecord.toPending]) (by simp [h])).trans (Outside.setEvent _ _).kept)
      (modPiece_sameState s pc _ fun _ => rfl)
  · exact refl s

theorem takeGroupState (g : GroupIx) (st : GroupState) (arrived : Option Piece) : OrderKept s (s.takeGroupState g st arrived) := by
  refine trans ?_ (examineHead _)
  split
  · exact arriveClear s g _
  · exact arriveHold s g _
  · exact refl s

theorem expirePieceTimer (pc : Piece) : OrderKept s (s.expirePieceTimer pc) :=
  ite_along ((modPiece_sameState s pc (fun r => { r with timer := { r.timer with state := .expired, left := 0 } }) fun _ => rfl).trans
    (Outside.raise _ _).kept) (refl s)

theorem expireWait (pc : Piece) : OrderKept s (s.expireWait pc) := by
  have hgone := (dequeue s pc).trans ((Outside.setEvent _ .claimExpired).kept.trans
    (SameOrder.modRecord _ (fun r => { r with claimsExpired := addUpTo 32767 r.claimsExpired 1 }) fun _ => rfl).kept)
  exact ite_along (ite_along (hgone.trans (examineHead _)) hgone) (refl s)

theorem withPiece (code : Nat) (f : Piece → State × Reply) (h : ∀ pc, OrderKept s (f pc).1) :
    OrderKept s (s.withPiece code f).1 := by
  unfold State.withPiece
  split
  · exact refl s
  · split
    · exact refl s
    · exact h _

/-- A PENDING piece is granted, or QUEUED with its claim at the tail of a queue that has room (R78, R80). -/
theorem requestClaim (code : Nat) : OrderKept s (s.requestClaim code).1 := by
  refine withPiece s code _ fun pc => ?_
  split
  · exact refl s
  · next hpass =>
    have hpending : (s.piece pc).state = .pending := by simpa using firstFailing_none hpass _ (List.mem_cons_self ..)
    have hfree : (s.piece pc).state ≠ .queued := by simp [hpending]
    unfold State.takeClaim
    split
    · exact grant s hfree
    · split
      · next hroom =>
        refine .of_claims (t := s.claimQueued pc) rfl rfl fun hs => ?_
        rw [claimQueued_claims]
        exact hs.joined hfree (by simpa [RingBuild.claims, queueRoom] using hroom)
      · exact refl s

theorem requestPlaced (code : Nat) : OrderKept s (s.requestPlaced code).1 := by
  refine withPiece s code _ fun pc => ?_
  split
  · next h => exact sendBack s (by decide) (by simp [h])
  · exact refl s

theorem requestWithdraw (code : Nat) : OrderKept s (s.requestWithdraw code).1 := by
  refine withPiece s code _ fun pc => ?_
  split
  case h_2 => exact ite_along ((dequeue s pc).trans (examineHead _)) (dequeue s pc)
  case h_3 h => exact sendBack s (by decide) (by simp [h])
  case h_4 h => exact sendBack s (by decide) (by simp [h])
  all_goals exact refl s

/-- RING BEGIN opens a record of PENDING pieces with an empty queue (R71, R73). -/
theorem withRingOpen (number : Nat) (key : GroupIx) : OrderKept s (s.withRingOpen number key) :=
  .of_claims rfl rfl fun hs => by
    obtain ⟨-, -, -, hrings⟩ := hs
    exact ⟨Nat.zero_le 3, List.nodup_nil, fun pc => by simp [State.withRingOpen, State.modRbu, RingBuild.claims], hrings⟩

theorem requestRing (number key : Nat) : OrderKept s (s.requestRing number key).1 := by
  unfold State.requestRing
  split
  · exact refl s
  · have hopened (t : State) (k : GroupIx) : OrderKept t (t.openRecord number k) :=
      (withRingOpen t number k).trans ((Outside.judgeKeys _ _).trans (.setEvent _ _)).kept
    have hidled (t : State) : Outside t t.shutWindows.idleLines.judgeGrout :=
      (Outside.modAct t _).trans (.of_lineWork ((LineWork.idleLines _).trans (LineWork.judgeGrout _)))
    have hfrozen (t : State) : SameOrder t t.freezeAccounts := by
      rw [freezeAccounts_eq]
      exact .modRecord t _ fun _ => rfl
    dsimp only
    exact (Outside.enterCycle s _).kept.trans ((hopened _ _).trans ((hidled _).kept.trans (hfrozen _).kept))

/-! ## The boring start, and the halts that lift -/

theorem enterBoring : OrderKept s s.enterBoring := by
  have hstarted (t : State) : OrderKept t t.startRing := by
    have hrolled : Outside t t.rolled := ⟨rfl⟩
    have hreset (u : State) : SameOrder u u.ringReset := ⟨rfl, rfl, rfl⟩
    rw [startRing_eq]
    exact (hrolled.trans (.startAccountRing _)).kept.trans (hreset _).kept
  have hentered := ((Outside.modAdu s fun a => { a with spinup := none }).trans (.enterCycle _ .boring)).kept
  exact (ite_along (hentered.trans (hstarted _)) hentered).trans
    ((Outside.jguPush _).trans ((Outside.modAdu _ _).trans (.judgeRate _))).kept

theorem takeHaltLift : OrderKept s s.takeHaltLift :=
  ite_along (ite_along (enterBoring s) (Outside.enterSpinup s).kept) (refl s)

theorem takeRevolution : OrderKept s s.takeRevolution := by
  have hmeasured : Outside s s.measurePulse := ⟨rfl⟩
  have hconfirm (t : State) : OrderKept t t.confirmSpinup := ite_along (Outside.enterPaused t _).kept (enterBoring t)
  have hjudge (t : State) : OrderKept t t.judgeConfirmation :=
    ite_along (ite_along ((Outside.modAdu t _).kept.trans (hconfirm _)) (Outside.modAdu t _).kept) (refl t)
  exact hmeasured.kept.trans ((hjudge _).trans ((Outside.modAdu _ _).trans (.judgeRate _)).kept)

/-! ## Emergency stop -/

theorem assertStop : OrderKept s s.assertStop := by
  have hstopped : Outside s ({ s with estop := true } : State).idleLines := .trans ⟨rfl⟩ (.of_lineWork (LineWork.idleLines _))
  have hforced (t : State) : SameOrder t t.stopDwells.suspendTimers := (Outside.stopDwells t).sameOrder.trans (.suspendTimers _)
  exact hstopped.kept.trans ((judgePermit _).trans ((hforced _).kept.trans
    ((Outside.dropCycle _).trans ((Outside.judgeGrout _).trans (.judgeRate _))).kept))

theorem releaseStop : OrderKept s s.releaseStop := by
  have hreleased : Outside s ({ s with estop := false } : State).restartDwells := .trans ⟨rfl⟩ (.restartDwells _)
  exact hreleased.kept.trans ((SameOrder.resumeTimers _).kept.trans
    ((Outside.of_lineWork ((LineWork.startIdleLines _).trans (LineWork.judgeGrout _))).kept.trans
      ((judgePermit _).trans ((Outside.judgeRate _).kept.trans (examineHead _)))))

/-! ## CONFIGURE -/

theorem onChange (old : ConfigSet) (i : Item) {f : State → State} (h : ∀ t, OrderKept t (f t)) :
    OrderKept s (s.onChange old i f) := onChange_along refl h s old i

theorem respondLast (old : ConfigSet) : OrderKept s (s.respondLast old) := by
  unfold State.respondLast
  refine trans ?_ (Outside.foldl (fun t c => .onChange t old _ fun u => .foldl (fun v k => .of_aside (.reviseReported v k)) _ u) _ _).kept
  refine trans ?_ (foldl (fun t m => onChange t old _ fun u => ite_along (enterStale u m) (refl u)) _ _)
  refine trans ?_ (onChange _ old .muckLag fun t => (SameOrder.modMku t _ rfl).kept)
  refine trans ?_ (onChange _ old .carOverfill judgePermit)
  refine trans ?_ (onChange _ old .carReserve fun t => (SameOrder.testCarDue t).kept)
  refine trans ?_ (onChange _ old .stallTime fun t => Outside.kept ⟨rfl⟩)
  exact onChange _ old .primeVolume fun t => (Outside.of_lineWork (LineWork.foldl LineWork.testPrimed _ t)).kept

theorem requestConfigure (pairs : List (Payload × Payload)) : OrderKept s (s.requestConfigure pairs).1 := by
  have hset : Outside s { s with config := resultingSet s.config pairs } := ⟨rfl⟩
  have hrespond (t : State) (old : ConfigSet) : OrderKept t (t.respond old pairs) := by
    rw [respond_eq]
    refine trans ?_ (respondLast _ old)
    exact ((Outside.respondFirst t old pairs).trans ((Outside.onChange _ old .deficitLow .judgeGrout).trans
      (.onChange _ old .deficitHigh .judgeGrout))).kept
  unfold State.requestConfigure
  split
  · exact refl s
  · exact hset.kept.trans (hrespond _ _)

/-! ## What a command sets going -/

theorem takeEntering (a : Action) : OrderKept s (s.takeEntering a) := by
  have hforced : SameOrder s s.stopDwells.suspendTimers := (Outside.stopDwells s).sameOrder.trans (.suspendTimers _)
  unfold State.takeEntering
  split
  · exact (Outside.takeHalt s).kept
  · exact (Outside.takeHalt s).kept
  · exact judgePermit s
  · exact hforced.kept
  · exact (Outside.of_lineWork ((LineWork.holdLine s _).trans (LineWork.judgeGrout _))).kept

theorem takeLeaving (a : Action) : OrderKept s (s.takeLeaving a) := by
  refine trans ?_ (examineHead _)
  split
  · exact takeHaltLift s
  · exact takeHaltLift s
  · exact judgePermit s
  · exact (Outside.restartDwells s).kept.trans (SameOrder.resumeTimers _).kept
  · exact (Outside.of_lineWork ((LineWork.releaseLine s _).trans (LineWork.judgeGrout _))).kept

theorem take (n : Notice) : OrderKept s (s.take n) := by
  cases n with
  | strokeChange => exact (Outside.takeStrokeChange s).kept
  | strokeEnd g => exact (Outside.takeStrokeEnd s).kept
  | groupState g st owner arrived => exact takeGroupState s g st arrived
  | actionEnters a => exact takeEntering s a
  | actionLeaves a => exact takeLeaving s a
  | blockedRemoved p => exact (Outside.of_lineWork ((LineWork.unblockLine s p).trans (LineWork.judgeGrout _))).kept

theorem settled : OrderKept s s.settled :=
  settle_keeps (OrderKept s) (fun t key h => h.trans (Outside.of_aside (FaultWork.report t key).aside).kept)
    (fun t n rest _ h => h.trans ((Outside.of_aside (.notices t rest)).kept.trans (take _ n))) _ s (refl s)

end

end OrderKept

/-- With RESET released, every operation keeps the cars and the claims in order. -/
theorem inOrder_upheld : Upheld State.inOrder where
  aside h := (Outside.of_aside h).kept.keeps
  passMs s := (SameOrder.passMs s).kept.keeps
  take s n := (OrderKept.take s n).keeps
  pulse s g e := (Outside.pulse s g e).kept.keeps
  expireDwell s g := (Outside.expireDwell s g).kept.keeps
  takeRevolution s := (OrderKept.takeRevolution s).keeps
  expireStopTimer s := (Outside.expireStopTimer s).kept.keeps
  expireSpinup s := (Outside.expireSpinup s).kept.keeps
  expirePieceTimer s pc := (OrderKept.expirePieceTimer s pc).keeps
  expireWait s pc := (OrderKept.expireWait s pc).keeps
  enterStale s m := (OrderKept.enterStale s m).keeps
  groutTick s := (Outside.of_lineWork (LineWork.groutTick s)).kept.keeps
  muckTick s := (OrderKept.muckTick s).keeps
  assertStop s := (OrderKept.assertStop s).keeps
  releaseStop s := (OrderKept.releaseStop s).keeps
  takeReport s m v := (OrderKept.takeReport s m v).keeps
  requestConfigure s pairs := (OrderKept.requestConfigure s pairs).keeps
  requestReference s v := (Outside.requestReference s v).kept.keeps
  requestStart s := (Outside.requestStart s).kept.keeps
  requestStop s := (Outside.requestStop s).kept.keeps
  requestLevel s n := (Outside.requestLevel s n).kept.keeps
  requestRing s n k := (OrderKept.requestRing s n k).keeps
  requestClaim s c := (OrderKept.requestClaim s c).keeps
  requestWithdraw s c := (OrderKept.requestWithdraw s c).keeps
  requestPlaced s c := (OrderKept.requestPlaced s c).keeps
  requestSuspend s p := (Outside.requestSuspend s p).kept.keeps
  requestResume s p := (Outside.requestResume s p).kept.keeps
  requestTrainIn s n c := (OrderKept.requestTrainIn s n c).keeps
  requestCarShift s := (OrderKept.requestCarShift s).keeps
  requestTrainOut s := (OrderKept.requestTrainOut s).keeps

/-- Device reset leaves no train, no claim and no completed ring, and every piece PENDING (R69, R70, R115). -/
theorem deviceReset_inOrder (s : State) : s.deviceReset.inOrder := by
  have hpiece (pc : Piece) : (s.deviceReset.piece pc).state = .pending := reset_piece pc
  have htrain : s.deviceReset.trainSound := by simp [State.trainSound, State.deviceReset, State.reset, Muck.reset, carsInOrder]
  refine ⟨htrain, Nat.zero_le 3, List.nodup_nil, fun pc => ?_, Nat.zero_le 8⟩
  rw [hpiece]
  simp [State.deviceReset, State.reset, RingBuild.reset]

/-- Settles O58: only the MKU changes the cars and only the RBU the claims; each car shift keeps the order, each change of the cars
ends in the judgment of the belt permit, and a claim comes and goes with its piece's QUEUED state. -/
theorem trainsAndClaimsStayInOrder : Obligations.TrainsAndClaimsStayInOrder := fun _ _ hs h =>
  inOrder_upheld.step deviceReset_inOrder (fun _ _ _ _ _ hs => hs) hs h

end Sys2Proof.Machine
end

section
/-! The second timer of the MKU and the excavation judgment (R125, R126). -/

namespace Sys2Proof.Machine

section
variable {s : State}

/-! ## The delay line -/

/-- The delay line keeps its newest entries, an entry for the present and one for each of the MUCK_LAG seconds before (R125). -/
def State.laggedLine (s : State) : List Nat :=
  (s.mku.delayLine ++ [s.whole s.act.expected]).drop (s.mku.delayLine.length + 1 - (s.item .muckLag + 1))

/-- The part with int(E) pushed into the delay line (R125). -/
def State.expectedPushed (s : State) : State := s.modMku fun k => { k with delayLine := s.laggedLine }

/-- The cycle states in which the delay line runs, the boring start of the ring made (R125). -/
def State.delayRuns (s : State) : Prop :=
  (s.adu.cycle = .boring ∨ s.adu.cycle = .paused ∨ s.adu.cycle = .rundown) ∧ s.adu.ringStartPending = false

theorem muckTick_idle (h : ¬s.delayRuns) : s.muckTick = s := by
  refine if_neg fun hruns => h ?_
  simpa [State.delayRuns, or_assoc] using hruns

theorem muckTick_runs (h : s.delayRuns) : s.muckTick = s.expectedPushed.judgeExcavation := by
  have hline : lastOf (s.item .muckLag + 1) (s.mku.delayLine ++ [s.whole s.act.expected]) = s.laggedLine := by
    simp [lastOf, State.laggedLine]
  have hpushed : (s.modMku fun k =>
      { k with delayLine := lastOf (s.item .muckLag + 1) (k.delayLine ++ [s.whole s.act.expected]) }) = s.expectedPushed :=
    modMku_congr (congrArg (fun l => ({ s.mku with delayLine := l } : Muck)) hline)
  rw [State.muckTick, hpushed]
  exact if_pos (by simpa [State.delayRuns, or_assoc] using h)

theorem expectedPushed_quiet (s : State) : s.expectedPushed.quiet = s.quiet := quiet_of_watched rfl rfl

/-! ## The judgment -/

/-- M is not judged (R126): it has been found OVER or UNDER in this ring, the delay line is not full, or its oldest entry is too
small to judge by. -/
def State.unjudged (s : State) : Prop :=
  s.mku.judgment ≠ .normal ∨ s.mku.delayLine.length ≠ s.item .muckLag + 1 ∨ ∀ e ∈ s.mku.delayLine.head?, e < s.item .judgeMin

/-- M is judged against `e`, the oldest entry of a full delay line (R126). -/
def State.judgedBy (s : State) (e : Nat) : Prop :=
  s.mku.judgment = .normal ∧ s.mku.delayLine.length = s.item .muckLag + 1 ∧ s.mku.delayLine.head? = some e ∧ s.item .judgeMin ≤ e

theorem eLag_eq_some {e : Nat} :
    s.eLag = some e ↔ s.mku.delayLine.length = s.item .muckLag + 1 ∧ s.mku.delayLine.head? = some e := by
  unfold State.eLag
  split
  · next h => simp [h]
  · next h => simp [h]

theorem judgeExcavation_unjudged (h : s.unjudged) : s.judgeExcavation = s := by
  unfold State.judgeExcavation
  split
  · next e hnormal hlag =>
    obtain ⟨hfull, hhead⟩ := eLag_eq_some.mp hlag
    have hsmall : e < s.item .judgeMin := by
      rcases h with h | h | h
      · exact absurd hnormal h
      · exact absurd hfull h
      · exact h e hhead
    exact if_pos hsmall
  · rfl

theorem judgeExcavation_judged {e : Nat} (h : s.judgedBy e) :
    s.judgeExcavation =
      if e * (100 + s.item .overMargin) < s.mku.measured * 100 then
        (s.modMku fun k => { k with judgment := .over }).raise .overexc
      else if s.mku.measured * 100 < e * (100 - s.item .underMargin) then
        (s.modMku fun k => { k with judgment := .under }).raise .underexc
      else s := by
  obtain ⟨hnormal, hfull, hhead, hmin⟩ := h
  have hlag : s.eLag = some e := eLag_eq_some.mpr ⟨hfull, hhead⟩
  unfold State.judgeExcavation
  rw [hnormal, hlag]
  exact if_neg (Nat.not_lt.mpr hmin)

/-! ## In a part at rest -/

theorem exec_muckSecondTick_awake {t : State} (hcalm : s.calm = true) (ht : s.muckTick = t) :
    exec .muckSecondTick s = .next t.settled := by
  rw [exec_muckSecondTick, run_awake (calm_iff.mp hcalm).1, ht]

end

/-- Settles O39: a tick pushes int(E) where the delay line runs, and the judgment of the pushed line has its three outcomes. -/
theorem muckTicksJudgeTheExcavation : Obligations.MuckTicksJudgeTheExcavation := by
  intro s hcalm keep line t runs judged
  have hquiet : s.quiet = true := (calm_iff.mp hcalm).2
  have htquiet : t.quiet = true := (expectedPushed_quiet s).trans hquiet
  have hjudged (hruns : runs) : s.muckTick = t.judgeExcavation := muckTick_runs hruns
  refine ⟨fun hidle => ?_, fun hruns hnot => ?_, fun e hruns he => ?_⟩
  · rw [exec_muckSecondTick]
    exact run_calm hcalm (muckTick_idle hidle) hquiet
  · rw [exec_muckSecondTick]
    exact run_calm hcalm ((hjudged hruns).trans (judgeExcavation_unjudged hnot)) htquiet
  · have houtcome := (hjudged hruns).trans (judgeExcavation_judged (s := t) he)
    refine ⟨fun hover => ?_, fun hnotover hunder => ?_, fun hnotover hnotunder => ?_⟩
    · exact exec_muckSecondTick_awake hcalm (houtcome.trans (if_pos hover))
    · exact exec_muckSecondTick_awake hcalm (houtcome.trans ((if_neg (Nat.not_lt.mpr hnotover)).trans (if_pos hunder)))
    · rw [exec_muckSecondTick]
      exact run_calm hcalm (houtcome.trans ((if_neg (Nat.not_lt.mpr hnotover)).trans (if_neg (Nat.not_lt.mpr hnotunder)))) htquiet

end Sys2Proof.Machine
end

section
/-! The judgment of the belt permit where no measured condition comes or goes with it, and TRAIN OUT (R122 to R124). -/

namespace Sys2Proof.Machine

section
variable {s : State}

/-! ## The belt permit -/

/-- The part with the belt permit as R123 gives it, L_muck following it, and the rate level judged (R124, R47). -/
def State.permitJudged (s : State) : State :=
  (s.modMku fun k => { k with beltPermit := s.permitFor, lMuck := if s.permitFor then 8 else 0 }).judgeRate

/-- The removal of the belt permit sets BELT_STOP (R123). -/
def State.permitTold (s : State) : State :=
  if s.mku.beltPermit && !s.permitFor then s.permitJudged.setEvent .beltStop else s.permitJudged

theorem judgePermit_eq (s : State) : s.judgePermit = s.permitTold.judgeKeys beltKeys := rfl

/-- Where no condition comes or goes with it, the judgment of the permit is the permit, the levels and the event. -/
theorem judgePermit_of_quiet (h : s.permitTold.quiet = true) : s.judgePermit = s.permitTold :=
  (judgePermit_eq s).trans (judgeKeys_of_agrees fun _ hkey => agrees_of_quiet h (measured_of_mem_beltKeys hkey))

theorem permitTold_of_removed (h : s.mku.beltPermit = false) : s.permitTold = s.permitJudged := if_neg (by simp [h])

theorem permitFor_of_no_filling (h : s.mku.filling = none) : s.permitFor = false := by
  unfold State.permitFor
  rw [h]

/-- The permit stands for a FILLING car below the capacity with CAR_OVERFILL, without BELT_HALT and emergency stop (R123). -/
theorem permitFor_filling {c : Car} {cap : Nat} (hc : s.mku.filling = some c) (hcap : s.mku.capacity = some cap) :
    s.permitFor = (decide (c.fill < cap + s.item .carOverfill) && !s.inForce .beltHalt && !s.estop) := by
  unfold State.permitFor
  rw [hc, hcap]

/-- CAR_DUE is due once for a FILLING car, within CAR_RESERVE of the capacity (R120). -/
theorem carIsDue_filling {c : Car} {cap : Nat} (hc : s.mku.filling = some c) (hcap : s.mku.capacity = some cap) :
    s.carIsDue = (!c.dueReported && decide (cap ≤ c.fill + s.item .carReserve)) := by
  unfold State.carIsDue
  rw [hc, hcap]

theorem testCarDue_early (h : s.carIsDue = false) : s.testCarDue = s := if_neg (by simp [h])

theorem filling_of_empty (h : s.mku.cars = []) : s.mku.filling = none := by
  unfold Muck.filling
  rw [h]
  rfl

/-! ## TRAIN OUT -/

theorem exec_trainOut (s : State) : exec .trainOut s = s.run fun t => t.request .muck 34 State.requestTrainOut := rfl

/-- The part with an empty car list and no capacity (R122). -/
def State.trainGone (s : State) : State := s.modMku fun k => { k with cars := [], capacity := none }

theorem trainGone_permitFor (s : State) : s.trainGone.permitFor = false := permitFor_of_no_filling (filling_of_empty rfl)

theorem requestTrainOut_eq (s : State) : s.requestTrainOut = (s.trainGone.judgePermit, .accepted) := rfl

/-- No train is present, the belt permit is removed, and L_muck is 0. -/
def Muck.trainless (k : Muck) : Prop := k.cars = [] ∧ k.capacity = none ∧ k.beltPermit = false ∧ k.lMuck = 0

theorem trainGone_trainless (s : State) : s.trainGone.judgePermit.mku.trainless := by
  rw [judgePermit_mku, trainGone_permitFor]
  exact ⟨rfl, rfl, rfl, rfl⟩

/-- What a command sets going brings no train in, and without one asserts no belt permit (R123, R124). -/
theorem settled_trainless (h : s.mku.trainless) : s.settled.mku.trainless := by
  obtain ⟨hcars, hcapacity, hpermit, hlevel⟩ := h
  have hcars' : s.settled.mku.cars = [] := (congrArg Direct.cars (direct_settled s)).trans hcars
  have hcapacity' : s.settled.mku.capacity = none := (congrArg Direct.capacity (direct_settled s)).trans hcapacity
  have hsound : s.mku.train.sound := by
    simp [TrainPart.sound, TrainPart.formed, Muck.train, hcars, hcapacity, hpermit, carsInOrder]
  have hleveled : s.mku.train.leveled := by simp [TrainPart.leveled, Muck.train, hpermit, hlevel]
  have hkept := OrderKept.settled s
  obtain ⟨-, hfilling⟩ := hkept.cars hsound
  have hpermit' : s.settled.mku.beltPermit = false := by
    have hnone := filling_of_empty hcars'
    simpa [Muck.train, hnone] using hfilling
  have hlevel' : s.settled.mku.lMuck = 0 := by
    have := hkept.leveled hleveled
    simpa [TrainPart.leveled, Muck.train, hpermit'] using this
  exact ⟨hcars', hcapacity', hpermit', hlevel'⟩

theorem request_trainOut_trainless (s : State) : (s.request .muck 34 State.requestTrainOut).mku.trainless :=
  settled_trainless (trainGone_trainless _)

/-- In a part at rest TRAIN OUT is its effect where no condition comes or goes with it. -/
theorem exec_trainOut_ready {t : State} (h : s.ready .muck = true) (ht : (s.attended .muck).trainGone.permitTold = t)
    (hq : t.quiet = true) : exec .trainOut s = .next (t.answer .muck 34 .accepted) := by
  subst ht
  rw [exec_trainOut]
  exact run_request h (by rw [requestTrainOut_eq, judgePermit_of_quiet hq]) hq

theorem trainGone_permitTold (s : State) :
    s.trainGone.permitTold =
      (let t := (s.modMku fun k => { k with cars := [], capacity := none, beltPermit := false, lMuck := 0 }).judgeRate
       if s.mku.beltPermit = true then t.setEvent .beltStop else t) := by
  unfold State.permitTold State.permitJudged
  rw [trainGone_permitFor, Bool.not_false, Bool.and_true]
  rfl

/-- Without a train a counted increment goes to M and to spill (R117, R122). -/
theorem countMuck_spills (h : s.mku.cars = []) (n : Nat) :
    s.countMuck n = s.modMku fun k =>
      { k with measured := min (2 ^ 30 - 1) (k.measured + n), spill := min 32767 (k.spill + n) } := by
  have hnone : (s.modMku fun k => { k with measured := addUpTo massTop k.measured n }).mku.filling = none := filling_of_empty h
  unfold State.countMuck
  dsimp only
  rw [hnone]
  rfl

end

/-- Settles O31: TRAIN OUT is accepted whatever the state, and no work that it sets going brings a train in or asserts the permit
without one; at rest the judgment of the permit is its effect; and the increment is counted by the branch without a FILLING car. -/
theorem trainOutEmptiesTheCarList : Obligations.TrainOutEmptiesTheCarList := by
  intro s
  refine ⟨fun hr => ⟨_, (exec_trainOut s).trans (run_awake hr _), ?_⟩, fun hready hquiet => ?_,
    fun n hcars => countMuck_spills hcars n⟩
  · obtain ⟨hcars, hcapacity, hpermit, hlevel⟩ := request_trainOut_trainless s
    refine ⟨hcars, hcapacity, hpermit, hlevel, ?_⟩
    rw [request_slot]
    exact ⟨rfl, rfl⟩
  · exact exec_trainOut_ready hready (trainGone_permitTold _) hquiet

end Sys2Proof.Machine
end

section
/-! TRAIN IN, CAR SHIFT, and the belt counter with a train (R116, R117, R119 to R121, R123). -/

namespace Sys2Proof.Machine

section
variable {s : State}

/-! ## The FILLING car in a train -/

/-- The FILLING car behind FULL ones. -/
theorem filling_behind {k : Muck} {full rest : List Car} {c : Car} (hk : k.cars = full ++ c :: rest)
    (hfull : ∀ x ∈ full, x.state ≠ .filling) (hc : c.state = .filling) : k.filling = some c := by
  unfold Muck.filling
  rw [hk, List.find?_append, List.find?_eq_none.mpr (by simpa using hfull)]
  simp [hc]

/-- A change of the FILLING car changes no other. -/
theorem map_filling {full more : List Car} {c : Car} (f : Car → Car) (hfull : ∀ x ∈ full, x.state ≠ .filling)
    (hc : c.state = .filling) (hmore : ∀ x ∈ more, x.state ≠ .filling) :
    (full ++ c :: more).map (fun x => if x.state == .filling then f x else x) = full ++ f c :: more := by
  have hkeep (l : List Car) (hl : ∀ x ∈ l, x.state ≠ .filling) : l.map (fun x => if x.state == .filling then f x else x) = l :=
    (List.map_congr_left fun x hx => if_neg (by simpa using hl x hx)).trans (List.map_id' l)
  rw [List.map_append, List.map_cons, hkeep full hfull, hkeep more hmore, if_pos (by simp [hc])]

/-! ## TRAIN IN -/

theorem exec_trainIn (cars capacity : Payload) (s : State) :
    exec (.trainIn cars capacity) s = s.run fun t => t.request .muck 32 fun u => u.requestTrainIn cars.toNat capacity.toNat := rfl

theorem requestTrainIn_present {n capacity : Nat} (h : s.mku.cars ≠ []) : s.requestTrainIn n capacity = (s, .refusedState 1) := by
  simp [State.requestTrainIn, firstFailing, h]

theorem requestTrainIn_miscounted {n capacity : Nat} (h : s.mku.cars = []) (hn : ¬(1 ≤ n ∧ n ≤ 12)) :
    s.requestTrainIn n capacity = (s, .refusedRange 10) := by
  simp [State.requestTrainIn, firstFailing, h, hn]

theorem requestTrainIn_unfit {n capacity : Nat} (h : s.mku.cars = []) (hn : 1 ≤ n ∧ n ≤ 12)
    (hfit : ¬(500 ≤ capacity ∧ capacity ≤ 4000)) : s.requestTrainIn n capacity = (s, .refusedRange 11) := by
  simp [State.requestTrainIn, firstFailing, h, hn, hfit]

/-- The part with a train of `n` cars come in, car 1 FILLING (R119). -/
def State.trainCome (s : State) (n capacity : Nat) : State := s.modMku fun k => { k with cars := carsOfTrain n, capacity := some capacity }

theorem requestTrainIn_accepted {n capacity : Nat} (h : s.mku.cars = []) (hn : 1 ≤ n ∧ n ≤ 12)
    (hfit : 500 ≤ capacity ∧ capacity ≤ 4000) :
    s.requestTrainIn n capacity = ((s.trainCome n capacity).testCarDue.judgePermit, .accepted) := by
  simp [State.requestTrainIn, firstFailing, h, hn, hfit, State.trainCome]

theorem trainCome_filling (s : State) (n capacity : Nat) :
    (s.trainCome n capacity).mku.filling = some { state := .filling, fill := 0, dueReported := false } := rfl

/-- An empty car of more than CAR_RESERVE is not due (R120). -/
theorem trainCome_judged {n capacity : Nat} (hreserve : s.item .carReserve < capacity) (hpermit : s.mku.beltPermit = false)
    (hq : (s.trainCome n capacity).permitJudged.quiet = true) :
    (s.trainCome n capacity).testCarDue.judgePermit = (s.trainCome n capacity).permitJudged := by
  have hearly : (s.trainCome n capacity).carIsDue = false := by
    have hbelow : (s.trainCome n capacity).item .carReserve < capacity := hreserve
    rw [carIsDue_filling (trainCome_filling s n capacity) rfl]
    simp [hbelow]
  have htold := permitTold_of_removed (s := s.trainCome n capacity) hpermit
  rw [testCarDue_early hearly, judgePermit_of_quiet (by rw [htold]; exact hq), htold]

/-- An empty car lies below its capacity (R123). -/
theorem trainCome_permitFor {n capacity : Nat} (h : 0 < capacity) :
    (s.trainCome n capacity).permitFor = (!s.inForce .beltHalt && !s.estop) := by
  rw [permitFor_filling (trainCome_filling s n capacity) rfl, decide_eq_true (Nat.add_pos_left h _), Bool.true_and]
  rfl

/-! ## CAR SHIFT -/

theorem exec_carShift (s : State) : exec .carShift s = s.run fun t => t.request .muck 33 State.requestCarShift := rfl

theorem requestCarShift_absent (h : s.mku.cars = []) : s.requestCarShift = (s, .refusedState 1) := by
  simp [State.requestCarShift, firstFailing, h]

theorem requestCarShift_full (h : s.mku.cars ≠ []) (hfull : ∀ x ∈ s.mku.cars, x.state = .full) :
    s.requestCarShift = (s, .refusedState 2) := by
  have hall : (s.mku.cars.all fun c => c.state == .full) = true := by simpa using hfull
  simp [State.requestCarShift, firstFailing, h, hall]

/-- The part with its cars moved on by one (R121). -/
def State.shifted (s : State) : State := s.modMku fun k => { k with cars := shiftCars k.cars }

theorem requestCarShift_filling {c : Car} (hc : c ∈ s.mku.cars) (hfilling : c.state = .filling) :
    s.requestCarShift =
      ((if s.shifted.mku.filling.isSome then s.shifted.testCarDue else s.shifted.setEvent .trainFull).judgePermit, .accepted) := by
  have hne : s.mku.cars.isEmpty = false := by simpa using List.ne_nil_of_mem hc
  have hnot : (s.mku.cars.all fun c => c.state == .full) = false := List.all_eq_false.mpr ⟨c, hc, by simp [hfilling]⟩
  unfold State.requestCarShift
  rw [hne, hnot]
  rfl

/-- The FULL cars before the FILLING one stay as they are. -/
theorem shiftCars_behind {full : List Car} (hfull : ∀ x ∈ full, x.state = .full) (rest : List Car) :
    shiftCars (full ++ rest) = full ++ shiftCars rest := by
  induction full with
  | nil => rfl
  | cons x full ih =>
    have hx : x.state = .full := hfull x List.mem_cons_self
    have hpassed (l : List Car) : shiftCars (x :: l) = x :: shiftCars l := by simp [shiftCars, hx]
    rw [List.cons_append, hpassed, ih fun y hy => hfull y (List.mem_cons_of_mem _ hy), List.cons_append]

theorem shifted_eq {l : List Car} (h : shiftCars s.mku.cars = l) : s.shifted = s.modMku fun k => { k with cars := l } :=
  modMku_congr (congrArg (fun l => ({ s.mku with cars := l } : Muck)) h)

/-- The last car filled: TRAIN_FULL is set (R121). -/
theorem requestCarShift_last {full : List Car} {c : Car} (hfull : ∀ x ∈ full, x.state = .full) (hc : c.state = .filling)
    (hcars : s.mku.cars = full ++ [c]) :
    s.requestCarShift =
      (((s.modMku fun k => { k with cars := full ++ [{ c with state := .full }] }).setEvent .trainFull).judgePermit, .accepted) := by
  have hshifted : s.shifted = s.modMku fun k => { k with cars := full ++ [{ c with state := .full }] } :=
    shifted_eq (by rw [hcars, shiftCars_behind hfull]; simp [shiftCars, hc])
  have hnone : s.shifted.mku.filling = none := by
    rw [hshifted]
    refine List.find?_eq_none.mpr fun x hx => ?_
    rcases List.mem_append.mp hx with hx | hx
    · simp [hfull x hx]
    · simp [List.mem_singleton.mp hx]
  rw [requestCarShift_filling (c := c) (by simp [hcars]) hc, hnone, hshifted]
  rfl

/-- An EMPTY car comes under the belt (R121); with its fill 0 and a capacity above CAR_RESERVE it is not due. -/
theorem requestCarShift_next {full more : List Car} {c d : Car} (hfull : ∀ x ∈ full, x.state = .full) (hc : c.state = .filling)
    (hcars : s.mku.cars = full ++ c :: d :: more) (hd : d.state = .empty) (hfill : d.fill = 0)
    (hreserve : ∀ cap, s.mku.capacity = some cap → s.item .carReserve < cap) :
    s.requestCarShift =
      ((s.modMku fun k =>
        { k with cars := full ++ { c with state := .full } :: { d with state := .filling } :: more }).judgePermit, .accepted) := by
  have hshifted : s.shifted = s.modMku fun k =>
      { k with cars := full ++ { c with state := .full } :: { d with state := .filling } :: more } :=
    shifted_eq (by rw [hcars, shiftCars_behind hfull]; simp [shiftCars, hc, hd])
  have hfilling : s.shifted.mku.filling = some { d with state := .filling } := by
    refine filling_behind (full := full ++ [{ c with state := .full }]) (rest := more) (by rw [hshifted]; simp [State.modMku]) ?_ rfl
    intro x hx
    rcases List.mem_append.mp hx with hx | hx
    · simp [hfull x hx]
    · simp [List.mem_singleton.mp hx]
  have hearly : s.shifted.carIsDue = false := by
    cases hcap : s.mku.capacity with
    | none =>
      have hcap' : s.shifted.mku.capacity = none := hcap
      unfold State.carIsDue
      rw [hfilling, hcap']
    | some cap =>
      rw [carIsDue_filling hfilling hcap]
      have hnot : ¬cap ≤ d.fill + s.shifted.item .carReserve := by
        have : s.shifted.item .carReserve < cap := hreserve cap hcap
        omega
      simp [hnot]
  rw [requestCarShift_filling (c := c) (by simp [hcars]) hc, hfilling, testCarDue_early hearly, hshifted]
  rfl

/-! ## The belt counter -/

theorem pairTarget_belt : pairTarget .muck 14 = .ok 14 := rfl

theorem requestMeasure_belt (s : State) (value : Payload) :
    s.requestMeasure .muck [(14, value)] = ((s.takeReport 14 value.toNat).settled, .accepted) := rfl

theorem passValue_belt (s : State) (v : Nat) : s.passValue 14 v = s.takeBeltCounter v := rfl

/-- The belt counter's report is FRESH with the value reported, which is passed to the MKU (R131). -/
theorem takeReport_belt (s : State) {v : Nat} (hv : v ≤ 32767) :
    s.takeReport 14 v =
      (s.modMeas 14 fun _ =>
        { state := .fresh, value := some v, age := some 0, clamped := false, lastValid := some v, hasBeenValid := true
          degraded := false }).takeBeltCounter v := by
  have htop : rangeTop 14 = 32767 := rfl
  unfold State.takeReport
  dsimp only
  rw [if_neg (by decide), htop, Nat.min_eq_left hv, passValue_belt, show isCounter 14 = true from rfl, Bool.not_true, Bool.and_false]

/-- The belt counter's value is noted (R116). -/
def State.noteBelt (s : State) (v : Nat) : State := s.modMku fun k => { k with lastCounter := v }

/-- A valid belt counter's increment: none, a jump, or a counted one (R116). -/
theorem takeBeltCounter_valid (h : s.mku.counterValid = true) (v : Nat) :
    s.takeBeltCounter v =
      if counterIncrement s.mku.lastCounter v = 0 then s.noteBelt v
      else if s.item .jumpBelt < counterIncrement s.mku.lastCounter v then (s.noteBelt v).raise (.measJump 6)
      else (s.noteBelt v).countMuck (counterIncrement s.mku.lastCounter v) := by
  have hnoted : (s.modMku fun k => { k with lastCounter := v, counterValid := true }) = s.noteBelt v := by
    unfold State.noteBelt State.modMku
    rw [← h]
  unfold State.takeBeltCounter
  rw [hnoted]
  exact if_neg (by simp [h])

/-! ## A counted increment with a train -/

section
variable {full more : List Car} {c : Car} {cap : Nat} (hcars : s.mku.cars = full ++ c :: more)
  (hfull : ∀ x ∈ full, x.state ≠ .filling) (hc : c.state = .filling) (hmore : ∀ x ∈ more, x.state ≠ .filling)

/-- The part with `n` units counted into the FILLING car `c`, which lies between `full` and `more`; `due` is whether it is found due. -/
def State.carFilled (s : State) (full more : List Car) (c : Car) (n : Nat) (due : Bool) : State :=
  s.modMku fun k =>
    { k with
      measured := min (2 ^ 30 - 1) (k.measured + n)
      cars := full ++ { c with fill := min 32767 (c.fill + n), dueReported := c.dueReported || due } :: more }

include hcars hfull hc hmore

/-- With a FILLING car a counted increment goes to M and to the car's fill (R117). -/
theorem countMuck_fills (n : Nat) : s.countMuck n = ((s.carFilled full more c n false).testCarDue).judgePermit := by
  have hfilling : (s.modMku fun k => { k with measured := addUpTo massTop k.measured n }).mku.filling = some c :=
    filling_behind hcars hfull hc
  have hfilled : ((s.modMku fun k => { k with measured := addUpTo massTop k.measured n }).modMku fun k =>
      { k with cars := k.cars.map fun c => if c.state == .filling then { c with fill := addUpTo fillTop c.fill n } else c }) =
      s.carFilled full more c n false := by
    unfold State.carFilled State.modMku
    dsimp only
    rw [hcars, map_filling _ hfull hc hmore, Bool.or_false]
    rfl
  unfold State.countMuck
  dsimp only
  rw [hfilling, hfilled]
  rfl

omit hcars in
/-- CAR_DUE is set, and is marked in the car as reported (R120). -/
theorem testCarDue_filled (hcap : s.mku.capacity = some cap) (n : Nat) {due : Bool}
    (hdue : due = (!c.dueReported && decide (cap ≤ min 32767 (c.fill + n) + s.item .carReserve))) :
    (s.carFilled full more c n false).testCarDue =
      if due then (s.carFilled full more c n due).setEvent .carDue else s.carFilled full more c n due := by
  have hfilling : (s.carFilled full more c n false).mku.filling =
      some { c with fill := min 32767 (c.fill + n), dueReported := c.dueReported || false } :=
    filling_behind rfl hfull hc
  have hfound : (s.carFilled full more c n false).carIsDue = due := by
    rw [carIsDue_filling hfilling hcap, hdue, Bool.or_false]
    rfl
  unfold State.testCarDue
  rw [hfound]
  cases due with
  | false => rfl
  | true =>
    refine congrArg (State.setEvent · .carDue) ?_
    unfold State.carFilled State.modMku
    dsimp only
    rw [map_filling _ hfull (by exact hc) hmore]
    simp

end

/-- The judgment of the belt permit takes no event flag down, and BELT_STOP stands where it removes the permit (R123). -/
theorem judgePermit_events (s : State) :
    (∀ e, s.eventSet e = true → s.judgePermit.eventSet e = true) ∧
      (s.mku.beltPermit = true → s.permitFor = false → s.judgePermit.eventSet .beltStop = true) := by
  refine ⟨(Downstream.judgePermit s).events, fun hstood hnot => ?_⟩
  have htold : s.permitTold = s.permitJudged.setEvent .beltStop := if_pos (by simp [hstood, hnot])
  rw [judgePermit_eq, htold]
  exact (FaultWork.judgeKeys _ _).events _ (setEvent_eventSet _ _ _ (.inl rfl))

end

/-- Settles O30: the requests' checks answer in their order, an accepted one is its change of the cars and the judgment of the permit;
the counter's increment has its three ranges; and a counted one fills the FILLING car alone. -/
theorem trainsComeInAndMoveOn : Obligations.TrainsComeInAndMoveOn := by
  refine ⟨⟨?trainIn, ?carShift⟩, ?measured, ?counted⟩
  case trainIn =>
    intro s cars capacity hready u permit t fits counted
    simp only [exec_trainIn]
    refine ⟨fun hpresent => ?_, fun hempty hn => ?_, fun hempty hn hfit => ?_, fun hempty hn hfit hreserve hremoved hquiet => ?_⟩
    · exact run_refused hready (requestTrainIn_present hpresent)
    · exact run_refused hready (requestTrainIn_miscounted hempty hn)
    · exact run_refused hready (requestTrainIn_unfit hempty hn hfit)
    · have hpermit : (u.trainCome cars.toNat capacity.toNat).permitFor = permit := trainCome_permitFor (by omega)
      have ht : (u.trainCome cars.toNat capacity.toNat).permitJudged = t := by
        unfold State.permitJudged
        rw [hpermit]
        rfl
      refine run_request hready ?_ hquiet
      rw [requestTrainIn_accepted hempty hn hfit, trainCome_judged hreserve hremoved (by rw [ht]; exact hquiet), ht]
  case carShift =>
    intro s full more c d hready u
    simp only [exec_carShift]
    refine ⟨fun habsent => run_refused hready (requestCarShift_absent habsent),
      fun hpresent hall => run_refused hready (requestCarShift_full hpresent hall), fun hfull hc => ⟨fun hcars hquiet => ?_, ?_⟩⟩
    · exact run_request hready (requestCarShift_last hfull hc hcars) hquiet
    · intro hcars hd hfill hreserve hquiet
      exact run_request hready (requestCarShift_next hfull hc hcars hd hfill hreserve) hquiet
  case measured =>
    intro s value hready hvalid hlast last v inc u answers
    have hv : v ≤ 32767 := Nat.le_of_lt_succ value.isLt
    have hinc : counterIncrement last v = inc := counterIncrement_eq hv hlast
    have hanswers {t : State} (ht : (s.attended .muck).takeReport 14 v = t) : answers t := by
      change exec _ _ = _
      rw [exec_measure]
      refine run_request_settled hready ?_
      rw [requestMeasure_belt, ht]
    have htaken : (s.attended .muck).takeReport 14 v =
        if inc = 0 then u else if s.item .jumpBelt < inc then u.raise (.measJump 6) else u.countMuck inc := by
      rw [takeReport_belt _ hv, takeBeltCounter_valid (by exact hvalid), ← hinc]
      rfl
    exact ⟨fun hzero => hanswers (htaken.trans (if_pos hzero)),
      fun hjump => hanswers (htaken.trans ((if_neg (by omega)).trans (if_pos hjump))),
      fun hpos hcounts => hanswers (htaken.trans ((if_neg (by omega)).trans (if_neg (Nat.not_lt.mpr hcounts))))⟩
  case counted =>
    intro s full more c cap n hcars hfull hc hmore hcap fill due counted t permit
    set told := if due then counted.setEvent .carDue else counted with htold
    have ht : t = told.judgePermit :=
      (countMuck_fills hcars hfull hc hmore n).trans
        (congrArg State.judgePermit (testCarDue_filled hfull hc hmore hcap n rfl))
    have hmku : told.mku = counted.mku := by
      rw [htold]
      split <;> rfl
    have hpermit : told.permitFor = permit := by
      have hfilling : told.mku.filling = some { c with fill := fill, dueReported := c.dueReported || due } := by
        rw [hmku]
        exact filling_behind rfl hfull hc
      rw [permitFor_filling hfilling (by rw [hmku]; exact hcap), htold]
      cases due <;> rfl
    obtain ⟨hstay, hstop⟩ := judgePermit_events told
    rw [ht]
    refine ⟨rfl, ?_, fun hdue => hstay _ ?_, fun hstood hnot => hstop (by rw [hmku]; exact hstood) (hpermit.trans hnot)⟩
    · rw [judgePermit_mku, hpermit, hmku]
    · rw [htold, if_pos hdue]
      exact setEvent_eventSet _ _ _ (.inl rfl)

end Sys2Proof.Machine
end

section
/-! What a report and its consumer change of what only commands change: one record, its meter, and the cars (R95, R116, R117, R131). -/

namespace Sys2Proof.Machine

/-! ## Changes of one record, as changes of what only commands change -/

theorem map_modAt_through {α β : Type} {n : Nat} (t : Vector α n) (i : Fin n) {f : α → α} {g : β → β} {v : α → β}
    (h : ∀ a, v (f a) = g (v a)) : (modAt t i f).map v = modAt (t.map v) i g := by
  simp only [modAt, Vector.map_set, h]
  simp

theorem direct_modMeas (s : State) (m : MeasIx) (f : MeasRecord → MeasRecord) :
    (s.modMeas m f).direct = { s.direct with records := modAt s.direct.records m f } := rfl

theorem direct_modMeter (s : State) (p : LineIx) {f : Line → Line} {g : Meter → Meter} (h : ∀ l, (f l).meter = g l.meter) :
    (s.modLine p f).direct = { s.direct with lines := modAt s.direct.lines p g } :=
  congrArg (fun v => ({ s.direct with lines := v } : Direct)) (map_modAt_through s.gru.lines p h)

theorem direct_modLink (s : State) (st : Station) {f g : Port → Port} (h : ∀ p, (f p).link = g p.link) :
    (s.modPort st f).direct = { s.direct with ports := modAt s.direct.ports st.idx g } :=
  congrArg (fun v => ({ s.direct with ports := v } : Direct)) (map_modAt_through s.ports st.idx h)

theorem direct_answer (s : State) (st : Station) (code : Nat) (r : Reply) :
    (s.answer st code r).direct = { s.direct with ports := modAt s.direct.ports st.idx fun p => p.writeSlot code r } :=
  direct_modLink s st fun _ => rfl

/-! ## The MKU -/

section
variable (s : State)

theorem direct_testCarDue : s.testCarDue.direct = { s.direct with cars := s.testCarDue.mku.cars } := by
  unfold State.testCarDue
  split
  · exact direct_setEvent _ _
  · rfl

theorem judgePermit_cars : s.judgePermit.mku.cars = s.mku.cars := congrArg Direct.cars (direct_judgePermit s)

theorem raise_cars (key : FaultKey) : (s.raise key).mku.cars = s.mku.cars := congrArg Direct.cars (direct_raise s key)

theorem direct_countMuck (n : Nat) : (s.countMuck n).direct = { s.direct with cars := (s.countMuck n).mku.cars } := by
  unfold State.countMuck
  dsimp only
  split
  · rw [judgePermit_cars, direct_judgePermit, direct_testCarDue]
    rfl
  · rfl

/-- A belt counter's value becomes the last counter, now valid, and of what else only commands change it moves the cars alone (R116,
R117). -/
theorem direct_takeBeltCounter (v : Nat) :
    (s.takeBeltCounter v).direct =
      { (s.modMku fun k => { k with lastCounter := v, counterValid := true }).direct with
        cars := (s.takeBeltCounter v).mku.cars } := by
  unfold State.takeBeltCounter
  dsimp only
  split_ifs
  · rfl
  · rfl
  · rw [raise_cars, direct_raise]; rfl
  · exact direct_countMuck _ _

/-! ## The GRU -/

theorem direct_takePressure (p : LineIx) : (s.takePressure p).direct = s.direct := by
  unfold State.takePressure
  dsimp only
  split
  · simp
  · split <;> simp
  · simp
  · simp

theorem direct_deliver (p : LineIx) (n : Nat) : (s.deliver p n).direct = s.direct := by
  unfold State.deliver
  simp only [direct_judgeGrout, direct_takeDeficit, direct_testPrimed, direct_noteDeficit, direct_judgeDeficit]
  exact direct_modLine s p _ fun _ => rfl

/-- A line counter's value becomes the last counter, now valid; what it sets going leaves that alone (R95). -/
theorem direct_takeLineCounter (p : LineIx) (v : Nat) : (s.takeLineCounter p v).direct = (s.noteCounter p v).direct := by
  unfold State.takeLineCounter
  dsimp only
  split_ifs
  · rfl
  · rfl
  · exact direct_raise _ _
  · exact direct_deliver _ _ _

end

/-! ## A report -/

/-- The record that a report of `x` makes: FRESH, with the value clamped to its range (R131). -/
def reportRecord (m : MeasIx) (x : Nat) : MeasRecord :=
  { state := .fresh, value := some (min x (rangeTop m)), age := some 0, clamped := decide (m.val < 8 ∧ rangeTop m < x)
    lastValid := some (min x (rangeTop m)), hasBeenValid := true, degraded := false }

/-- The part with a report's record in place, its value not yet passed on (R131). -/
def State.reported (s : State) (m : MeasIx) (x : Nat) : State := s.modMeas m fun _ => reportRecord m x

/-- A counter's value becomes its meter's last counter, now valid (R95, R116). -/
def State.metered (s : State) (m : MeasIx) (v : Nat) : State :=
  if m = 14 then s.modMku fun k => { k with lastCounter := v, counterValid := true }
  else if h : 8 ≤ m.val ∧ m.val < 14 then
    s.modLine ⟨m.val - 8, by omega⟩ fun l => { l with lastCounter := v, counterValid := true }
  else s

/-- The report of the face pressure raises its maximum (R131). -/
def State.faceRaised (s : State) (m : MeasIx) (v : Nat) : State :=
  if m.val = 0 then { s with mst := { s.mst with maxFace := some (max v (s.mst.maxFace.getD 0)) } } else s

theorem takeReport_eq (s : State) (m : MeasIx) (x : Nat) :
    s.takeReport m x = ((s.reported m x).faceRaised m (min x (rangeTop m))).passValue m (min x (rangeTop m)) := by
  have hclamped : (decide (rangeTop m < x) && !isCounter m) = decide (m.val < 8 ∧ rangeTop m < x) := by
    rw [Bool.eq_iff_iff]
    simp [isCounter, and_comm]
  unfold State.takeReport State.reported reportRecord
  rw [← hclamped]
  rfl

theorem direct_faceRaised (s : State) (m : MeasIx) (v : Nat) : (s.faceRaised m v).direct = s.direct := by
  unfold State.faceRaised
  split <;> rfl

/-! ## The kinds of a measurement -/

/-- A measurement is one of CABIN's, a line's pressure, a line's counter, or the belt counter (Table 7-1). -/
theorem meas_cases (m : MeasIx) :
    m.val < 2 ∨ (∃ p : LineIx, m.val = 2 + p.val) ∨ (∃ p : LineIx, m.val = 8 + p.val) ∨ m = 14 := by
  have hm := m.isLt
  by_cases hcabin : m.val < 2
  · exact .inl hcabin
  by_cases hpressure : m.val < 8
  · exact .inr (.inl ⟨⟨m.val - 2, by omega⟩, by simp only; omega⟩)
  by_cases hcounter : m.val < 14
  · exact .inr (.inr (.inl ⟨⟨m.val - 8, by omega⟩, by simp only; omega⟩))
  · exact .inr (.inr (.inr (Fin.ext (Nat.le_antisymm (by omega) (by omega)))))

theorem ne_belt {m : MeasIx} (h : m.val < 14) : m ≠ 14 := by
  rintro rfl
  exact absurd h (by decide)

section
variable (s : State) {m : MeasIx} {p : LineIx} (v : Nat)

theorem passValue_cabin (h : m.val < 2) : s.passValue m v = s := if_pos h

theorem passValue_pressure (h : m.val = 2 + p.val) : s.passValue m v = s.takePressure p := by
  have hline : (⟨m.val - 2, by omega⟩ : LineIx) = p := Fin.ext (by simp only; omega)
  unfold State.passValue
  rw [if_neg (by omega), dif_pos (by omega : m.val < 8), hline]

theorem passValue_lineCounter (h : m.val = 8 + p.val) : s.passValue m v = s.takeLineCounter p v := by
  have hline : (⟨m.val - 8, by omega⟩ : LineIx) = p := Fin.ext (by simp only; omega)
  unfold State.passValue
  rw [if_neg (by omega), dif_neg (by omega), dif_pos (by omega : m.val < 14), hline]

theorem metered_level (h : m.val < 8) : s.metered m v = s := by
  unfold State.metered
  rw [if_neg (ne_belt (by omega)), dif_neg (by omega)]

theorem metered_lineCounter (h : m.val = 8 + p.val) : s.metered m v = s.noteCounter p v := by
  have hline : (⟨m.val - 8, by omega⟩ : LineIx) = p := Fin.ext (by simp only; omega)
  unfold State.metered
  rw [if_neg (ne_belt (by omega)), dif_pos (by omega : 8 ≤ m.val ∧ m.val < 14), hline]
  rfl

theorem metered_belt : s.metered 14 v = s.modMku fun k => { k with lastCounter := v, counterValid := true } := if_pos rfl

end

/-! ## What a report changes of what only commands change -/

/-- Only the belt counter's value moves the cars (R116, R117). -/
theorem direct_passValue_of_ne {m : MeasIx} (h : m ≠ 14) (s : State) (v : Nat) : (s.passValue m v).direct = (s.metered m v).direct := by
  rcases meas_cases m with hm | ⟨p, hm⟩ | ⟨p, hm⟩ | hm
  · rw [passValue_cabin s v hm, metered_level s v (by omega)]
  · rw [passValue_pressure s v hm, metered_level s v (by omega), direct_takePressure]
  · rw [passValue_lineCounter s v hm, metered_lineCounter s v hm, direct_takeLineCounter]
  · exact absurd hm h

theorem direct_passValue (s : State) (m : MeasIx) (v : Nat) :
    (s.passValue m v).direct = { (s.metered m v).direct with cars := (s.passValue m v).mku.cars } := by
  by_cases h : m = 14
  · subst h
    rw [metered_belt]
    exact direct_takeBeltCounter s v
  · rw [← direct_passValue_of_ne h]
    rfl

theorem metered_direct_congr {s t : State} (h : s.direct = t.direct) (m : MeasIx) (v : Nat) :
    (s.metered m v).direct = (t.metered m v).direct := by
  have hbelt (u : State) : (u.modMku fun k => { k with lastCounter := v, counterValid := true }).direct =
      { u.direct with belt := { last := v, valid := true } } := rfl
  unfold State.metered
  split_ifs
  · rw [hbelt, hbelt, h]
  · rw [direct_modMeter s _ (g := fun _ => { last := v, valid := true }) fun _ => rfl,
      direct_modMeter t _ (g := fun _ => { last := v, valid := true }) fun _ => rfl, h]
  · exact h

/-- Of what only commands change, a report changes its record and its meter, and the belt counter's report the cars (R131). -/
theorem direct_takeReport (s : State) (m : MeasIx) (x : Nat) :
    (s.takeReport m x).direct =
      { ((s.reported m x).metered m (min x (rangeTop m))).direct with cars := (s.takeReport m x).mku.cars } := by
  rw [takeReport_eq, direct_passValue, metered_direct_congr (direct_faceRaised (s.reported m x) m _)]

theorem takeReport_records (s : State) (m : MeasIx) (x : Nat) :
    (s.takeReport m x).direct.records = (s.reported m x).direct.records := by
  have hmeter (u : State) (v : Nat) : (u.metered m v).direct.records = u.direct.records := by
    unfold State.metered
    split_ifs <;> rfl
  exact (congrArg Direct.records (direct_takeReport s m x)).trans (hmeter _ _)

theorem takeReport_links (s : State) (m : MeasIx) (x : Nat) : (s.takeReport m x).direct.ports = s.direct.ports := by
  have hmeter (u : State) (v : Nat) : (u.metered m v).direct.ports = u.direct.ports := by
    unfold State.metered
    split_ifs <;> rfl
  exact (congrArg Direct.ports (direct_takeReport s m x)).trans (hmeter _ _)

end Sys2Proof.Machine
end

section
/-! Every step keeps the measurement records and the port contexts sound: reports, ageing and policies move the records, the frames and
the silence times the ports, and no other work touches either (R131 to R133, R155, R158, R164). -/

namespace Sys2Proof.Machine

/-! ## One record and one port -/

/-- What `State.recordsSound` says of one record whose range ends at `top`. -/
def MeasRecord.sound (top : Nat) (r : MeasRecord) : Prop :=
  (r.value = if r.state = .fresh then r.lastValid else none) ∧
    (r.lastValid.isSome = true ↔ r.state ≠ .noval) ∧ (r.age.isSome = true ↔ r.state ≠ .noval) ∧
    (r.hasBeenValid = true ↔ r.state ≠ .noval) ∧ (∀ v, r.lastValid = some v → v ≤ top) ∧
    (r.degraded = true → r.state = .stale)

/-- What `State.portsSound` says of one port. -/
def Port.sound (p : Port) : Prop :=
  p.framesTaken ≤ 32767 ∧ p.parityErrors ≤ 32767 ∧ p.idErrors ≤ 32767 ∧ p.frameErrors ≤ 32767 ∧
    (p.silence.isSome = true ↔ p.present = true) ∧ (p.present = true → p.heard = true)

theorem recordsSound_iff (s : State) : s.recordsSound ↔ ∀ m, (s.meas m).sound (rangeTop m) := Iff.rfl

theorem portsSound_iff (s : State) : s.portsSound ↔ ∀ st, (s.port st).sound := Iff.rfl

namespace MeasRecord.sound
variable {top : Nat} {r : MeasRecord}

theorem reported (m : MeasIx) (x : Nat) : (reportRecord m x).sound (rangeTop m) := by
  simp [MeasRecord.sound, reportRecord]

/-- A FRESH record that goes STALE loses its value alone (R132). -/
theorem stale (h : r.sound top) (hr : r.state = .fresh) (age : Nat) :
    ({ r with state := .stale, value := none, age := some age } : MeasRecord).sound top := by
  obtain ⟨-, hlast, -, hvalid, htop, -⟩ := h
  simp_all [MeasRecord.sound]

/-- Only a STALE record is judged to supply a held value (R133). -/
theorem judged (h : r.sound top) {held : Bool} (hheld : held = true → r.state = .stale) :
    ({ r with degraded := held } : MeasRecord).sound top := by
  obtain ⟨hvalue, hlast, hage, hvalid, htop, -⟩ := h
  exact ⟨hvalue, hlast, hage, hvalid, htop, hheld⟩

theorem aged (h : r.sound top) (f : Nat → Nat) : ({ r with age := r.age.map f } : MeasRecord).sound top := by
  obtain ⟨hvalue, hlast, hage, hvalid, htop, hheld⟩ := h
  exact ⟨hvalue, hlast, by simpa using hage, hvalid, htop, hheld⟩

end MeasRecord.sound

namespace Port.sound
variable {p : Port}

theorem countError (h : p.sound) (c : ErrorCounter) : (p.countError c).sound := by
  obtain ⟨hframes, hparity, hid, hframe, hpresence⟩ := h
  cases c with
  | parity => exact ⟨hframes, Nat.min_le_left .., hid, hframe, hpresence⟩
  | id => exact ⟨hframes, hparity, Nat.min_le_left .., hframe, hpresence⟩
  | frame => exact ⟨hframes, hparity, hid, Nat.min_le_left .., hpresence⟩
  | none => exact ⟨hframes, hparity, hid, hframe, hpresence⟩

/-- A valid frame makes its station heard, present and its silence time run (R158, R164). -/
theorem renewed (h : p.sound) (time : Nat) :
    ({ p with framesTaken := addUpTo portCounterTop p.framesTaken 1, present := true, heard := true
              silence := some time } : Port).sound := by
  obtain ⟨-, hparity, hid, hframe, -⟩ := h
  exact ⟨Nat.min_le_left .., hparity, hid, hframe, by simp, by simp⟩

theorem absent (h : p.sound) : ({ p with present := false, silence := none } : Port).sound := by
  obtain ⟨hframes, hparity, hid, hframe, -⟩ := h
  exact ⟨hframes, hparity, hid, hframe, by simp, by simp⟩

theorem uncounted (h : p.sound) (cursor : Option Cursor) (snapshot : Option Snapshot) (flags repeats : Vector Bool 8) :
    ({ p with
      cursor := cursor, snapshot := snapshot, framesTaken := 0, parityErrors := 0, idErrors := 0, frameErrors := 0
      flags := flags, repeats := repeats } : Port).sound := by
  obtain ⟨-, -, -, -, hpresence⟩ := h
  exact ⟨Nat.zero_le _, Nat.zero_le _, Nat.zero_le _, Nat.zero_le _, hpresence⟩

theorem counted (h : p.sound) : ({ p with silence := countDown p.silence } : Port).sound := by
  obtain ⟨hframes, hparity, hid, hframe, hsilence, hheard⟩ := h
  exact ⟨hframes, hparity, hid, hframe, by simpa [countDown] using hsilence, hheard⟩

end Port.sound

/-! ## The records and the ports of the part -/

/-- Every record and every port that was sound in `s` is sound in `t`. -/
structure GaugesKept (s t : State) : Prop where
  records : ∀ m, (s.meas m).sound (rangeTop m) → (t.meas m).sound (rangeTop m)
  ports : ∀ st, (s.port st).sound → (t.port st).sound

namespace GaugesKept

/-- Whether a port is sound is read from its link. -/
theorem of_links {s t : State} (hr : t.direct.records = s.direct.records) (hp : t.direct.ports = s.direct.ports) : GaugesKept s t where
  records m h := by
    have hm : t.meas m = s.meas m := congrArg (fun v : Vector MeasRecord 15 => v[m]) hr
    rwa [hm]
  ports st h := by
    have hlink : (t.port st).link = (s.port st).link := by rw [port_link, port_link, hp]
    have hsound : (t.port st).link.sound := by rw [hlink]; exact h
    exact hsound

/-- What only commands change includes the records and the ports' links. -/
theorem of_direct {s t : State} (h : t.direct = s.direct) : GaugesKept s t :=
  of_links (congrArg Direct.records h) (congrArg Direct.ports h)

theorem refl (s : State) : GaugesKept s s := of_direct rfl

theorem trans {s t u : State} (h : GaugesKept s t) (k : GaugesKept t u) : GaugesKept s u :=
  ⟨fun m hm => k.records m (h.records m hm), fun st hst => k.ports st (h.ports st hst)⟩

theorem foldl {α : Type} {f : State → α → State} (h : ∀ t a, GaugesKept t (f t a)) (l : List α) (s : State) :
    GaugesKept s (l.foldl f s) := foldl_along refl trans h l s

theorem modPort (s : State) (st : Station) (f : Port → Port) (h : ∀ p : Port, p.sound → (f p).sound) :
    GaugesKept s (s.modPort st f) where
  records _ h := h
  ports st' hst := by
    rw [modPort_port]
    split
    · exact h _ hst
    · exact hst

theorem modMeas (s : State) (m : MeasIx) (f : MeasRecord → MeasRecord)
    (h : (s.meas m).sound (rangeTop m) → (f (s.meas m)).sound (rangeTop m)) : GaugesKept s (s.modMeas m f) where
  records k hk := by
    rw [modMeas_meas]
    split
    · next e => subst e; exact h hk
    · exact hk
  ports _ h := h

/-! ## The MST -/

section
variable (s : State) (m : MeasIx)

theorem judgeDegraded : GaugesKept s (s.judgeDegraded m) := by
  rw [judgeDegraded_eq]
  exact modMeas s m _ fun h => h.judged fun hheld => (of_decide_eq_true hheld).1

theorem invalidateCounter : GaugesKept s (s.invalidateCounter m) := by
  unfold State.invalidateCounter
  split_ifs <;> exact of_links rfl rfl

theorem enterStale : GaugesKept s (s.enterStale m) := by
  unfold State.enterStale
  split
  · next hfresh =>
    exact (modMeas s m _ fun h => h.stale (by simpa using hfresh) _).trans
      ((judgeDegraded _ m).trans (invalidateCounter _ m))
  · exact refl s

theorem changePolicy : GaugesKept s (s.changePolicy m) := by
  unfold State.changePolicy
  dsimp only
  split
  · exact ite_along ((judgeDegraded s m).trans (of_links rfl rfl)) (judgeDegraded s m)
  · exact judgeDegraded s m

theorem takeReport (x : Nat) : GaugesKept s (s.takeReport m x) :=
  (modMeas s m _ fun _ => MeasRecord.sound.reported m x).trans
    (of_links (takeReport_records s m x) (takeReport_links s m x))

end

/-! ## CONFIGURE -/

theorem testCarDue (s : State) : GaugesKept s s.testCarDue := by
  have hdirect := direct_testCarDue s
  exact of_links (congrArg Direct.records hdirect :) (congrArg Direct.ports hdirect :)

theorem onChange (s : State) (old : ConfigSet) (i : Item) {f : State → State} (h : ∀ t, GaugesKept t (f t)) :
    GaugesKept s (s.onChange old i f) := onChange_along refl h s old i

theorem respondFirst (s : State) (old : ConfigSet) (pairs : List (Payload × Payload)) : GaugesKept s (s.respondFirst old pairs) := by
  have hcoefficients : GaugesKept s (s.onCoefficients pairs) := ite_along (of_direct (by simp)) (refl s)
  unfold State.respondFirst
  refine trans ?_ (onChange _ old .flowSpan fun t => of_direct (direct_foldl t _ (fun u p => direct_judgeSetpoint u p) _))
  refine trans ?_ (onChange _ old .rounding fun t => of_direct (by simp))
  exact hcoefficients.trans (foldl (fun t m => onChange t old _ fun u => changePolicy u m) _ _)

theorem respondLast (s : State) (old : ConfigSet) : GaugesKept s (s.respondLast old) := by
  unfold State.respondLast
  refine trans ?_ (foldl (fun t c => onChange t old _ fun u => of_direct (direct_foldl u _ direct_reviseReported _)) _ _)
  refine trans ?_ (foldl (fun t m => onChange t old _ fun u => ite_along (enterStale u m) (refl u)) _ _)
  refine trans ?_ (onChange _ old .muckLag fun t => of_links rfl rfl)
  refine trans ?_ (onChange _ old .carOverfill fun t => of_direct (direct_judgePermit t))
  refine trans ?_ (onChange _ old .carReserve testCarDue)
  refine trans ?_ (onChange _ old .stallTime fun t => of_links rfl rfl)
  exact onChange _ old .primeVolume fun t => of_direct (direct_foldl t _ direct_testPrimed _)

theorem requestConfigure (s : State) (pairs : List (Payload × Payload)) : GaugesKept s (s.requestConfigure pairs).1 := by
  have hset : GaugesKept s { s with config := resultingSet s.config pairs } := of_links rfl rfl
  have hrespond (t : State) (old : ConfigSet) : GaugesKept t (t.respond old pairs) := by
    rw [respond_eq]
    refine trans ?_ (respondLast _ old)
    exact (respondFirst t old pairs).trans ((onChange _ old .deficitLow fun u => of_direct (direct_judgeGrout u)).trans
      (onChange _ old .deficitHigh fun u => of_direct (direct_judgeGrout u)))
  unfold State.requestConfigure
  split
  · exact refl s
  · exact hset.trans (hrespond _ _)

/-! ## The SLI -/

theorem openFrame (s : State) (st : Station) : GaugesKept s (s.openFrame st) := by
  unfold State.openFrame
  split
  · exact refl s
  · exact modPort s st _ fun _ h => h

theorem loadCursor (s : State) (st : Station) (view record word : Nat) : GaugesKept s (s.loadCursor st view record word) := by
  refine trans (modPort s st _ ?_) (modPort _ st _ ?_)
  · exact fun _ h => h
  · exact fun _ h => h

theorem loadView (s : State) (st : Station) (view record : Nat) : GaugesKept s (s.loadView st view record) := by
  unfold State.loadView
  split
  · exact loadCursor ..
  · split
    · split
      · exact refl s
      · exact loadCursor ..
    · exact refl s

theorem takeHeader (s : State) (st : Station) (h : LinkWord) : GaugesKept s (s.takeHeader st h) := by
  unfold State.takeHeader
  split
  · next f _ =>
    have hnoted : GaugesKept s (s.modPort st fun p => { p with frame := some { f with header := some h } }) :=
      modPort s st _ fun _ hp => hp
    exact ite_along (refl s) (ite_along (hnoted.trans (loadView ..)) hnoted)
  · exact refl s

/-- A word of a view that has been sent moves the cursor and the event flags alone (R163, R175). -/
theorem sentWord_sound {p : Port} (h : p.sound) : p.clearShownFlags.advance.sound := by
  have hcleared : p.clearShownFlags.sound := by
    unfold Port.clearShownFlags
    split
    · split <;> exact h
    · exact h
  unfold Port.advance
  split <;> exact hcleared

theorem wordSent (s : State) (st : Station) : GaugesKept s (s.wordSent st) := by
  unfold State.wordSent
  split
  · exact refl s
  · refine ite_along (modPort s st _ fun _ h => h) ?_
    split
    · exact refl s
    · exact ite_along (refl s) (modPort s st _ fun _ h => sentWord_sound h)

theorem endFrame (s : State) (st : Station) : GaugesKept s (s.endFrame st) := modPort s st _ fun _ h => h

theorem renewPresence (s : State) (st : Station) : GaugesKept s (s.renewPresence st) := modPort s st _ fun _ h => h.renewed _

theorem attended (s : State) (st : Station) : GaugesKept s (s.attended st) := (endFrame s st).trans (renewPresence _ st)

theorem answer (s : State) (st : Station) (code : Nat) (r : Reply) : GaugesKept s (s.answer st code r) :=
  modPort s st _ fun _ h => h

theorem settled (s : State) : GaugesKept s s.settled := of_direct (direct_settled s)

theorem failFrame (s : State) (st : Station) (code : Nat) (r : Reply) (counter : ErrorCounter) (valid : Bool) :
    GaugesKept s (s.failFrame st code r counter valid) := by
  have hcounted (t : State) : GaugesKept t (t.modPort st fun p => (p.countError counter).writeSlot code r) := by
    refine modPort t st _ fun p h => ?_
    have hsound : (p.countError counter).sound := h.countError counter
    exact hsound
  exact (endFrame s st).trans ((ite_along (renewPresence _ st) (refl _)).trans ((hcounted _).trans (settled _)))

theorem request {s : State} {st : Station} {code : Nat} {owner : State → State × Reply}
    (h : ∀ u, GaugesKept u (owner u).1) : GaugesKept s (s.request st code owner) :=
  (attended s st).trans ((settled _).trans ((h _).trans ((answer _ st code _).trans (settled _))))

theorem expireSilence (s : State) (st : Station) : GaugesKept s (s.expireSilence st) :=
  ite_along (modPort s st _ fun _ h => h.absent) (refl s)

theorem requestPortReset (s : State) (st : Station) : GaugesKept s (s.requestPortReset st).1 :=
  modPort s st _ fun _ h => h.uncounted ..

/-! ## The requests -/

section
variable (s : State)

theorem requestMeasure (st : Station) (pairs : List (Payload × Payload)) : GaugesKept s (s.requestMeasure st pairs).1 := by
  have hpairs : GaugesKept s (s.takePairs st pairs) := foldl (fun t pr => by
    split
    · exact (takeReport t _ _).trans (settled _)
    · exact refl t) _ s
  unfold State.requestMeasure
  split
  · exact refl s
  · exact hpairs

theorem changeGroups (f : GroupIx → Group → Group) : GaugesKept s (s.changeGroups f) := by
  rw [changeGroups_eq]
  exact of_links rfl rfl

theorem requestReference (v : GroupIx → Nat) : GaugesKept s (s.requestReference v).1 := by
  unfold State.requestReference
  split
  · exact refl s
  · exact (changeGroups s _).trans (of_links rfl rfl)

theorem requestStart : GaugesKept s s.requestStart.1 := by
  unfold State.requestStart
  split
  · exact refl s
  · exact of_direct (direct_enterSpinup s)

theorem requestStop : GaugesKept s s.requestStop.1 := by
  have hstop : GaugesKept s (s.setCause .stopRequest).enterRundown := of_direct (by simp)
  unfold State.requestStop
  split
  case h_4 | h_5 | h_6 => exact refl s
  all_goals
    dsimp only
    exact hstop

theorem requestLevel (level : Nat) : GaugesKept s (s.requestLevel level).1 := by
  unfold State.requestLevel
  split
  · exact refl s
  · exact of_links rfl rfl

theorem requestRing (number key : Nat) : GaugesKept s (s.requestRing number key).1 := by
  have hopened (t : State) (k : GroupIx) : GaugesKept t (t.openRecord number k) := by
    have hring : GaugesKept t (t.withRingOpen number k) := of_links rfl rfl
    exact hring.trans ((of_direct (direct_judgeKeys _ _)).trans (of_direct (direct_setEvent _ _)))
  have hfrozen (t : State) : GaugesKept t t.freezeAccounts := of_links rfl rfl
  have hidled (t : State) : GaugesKept t t.shutWindows.idleLines.judgeGrout := of_direct (by simp)
  unfold State.requestRing
  split
  · exact refl s
  · dsimp only
    exact (of_direct (direct_enterCycle s _)).trans ((hopened _ _).trans ((hidled _).trans (hfrozen _)))

theorem releaseFirst : GaugesKept s s.releaseFirst.1 := by
  unfold State.releaseFirst
  split
  · exact refl s
  · exact of_links rfl rfl

theorem withPiece (code : Nat) (f : Piece → State × Reply) (h : ∀ pc, GaugesKept s (f pc).1) :
    GaugesKept s (s.withPiece code f).1 := by
  unfold State.withPiece
  split
  · exact refl s
  · split
    · exact refl s
    · exact h _

theorem requestClaim (code : Nat) : GaugesKept s (s.requestClaim code).1 := by
  refine withPiece s code _ fun pc => ?_
  split
  · exact refl s
  · unfold State.takeClaim
    split
    · exact of_direct (direct_grant s pc)
    · split
      · exact of_links rfl rfl
      · exact refl s

theorem sendBack (pc : Piece) (st : PieceState) : GaugesKept s (s.sendBack pc st) := of_direct (by simp [State.sendBack])

theorem requestPlaced (code : Nat) : GaugesKept s (s.requestPlaced code).1 := by
  refine withPiece s code _ fun pc => ?_
  split
  · exact sendBack s pc _
  · exact refl s

theorem requestWithdraw (code : Nat) : GaugesKept s (s.requestWithdraw code).1 := by
  refine withPiece s code _ fun pc => ?_
  split
  case h_2 => exact ite_along (of_direct (by simp)) (of_direct (by simp))
  case h_3 | h_4 => exact sendBack s pc _
  all_goals exact refl s

theorem requestSuspend (index : Nat) : GaugesKept s (s.requestSuspend index).1 := by
  unfold State.requestSuspend
  split
  · exact refl s
  · split
    case h_3 => exact of_direct (by simp)
    all_goals exact refl s

theorem requestResume (index : Nat) : GaugesKept s (s.requestResume index).1 := by
  unfold State.requestResume
  split
  · exact refl s
  · split
    · exact of_direct ((direct_judgeGrout _).trans ((direct_startLine _ _).trans (direct_modLine s _ _ fun _ => rfl)))
    · exact refl s

theorem modMku (f : Muck → Muck) : GaugesKept s (s.modMku f) := of_links rfl rfl

theorem judgePermit : GaugesKept s s.judgePermit := of_direct (direct_judgePermit s)

theorem requestTrainIn (n capacity : Nat) : GaugesKept s (s.requestTrainIn n capacity).1 := by
  unfold State.requestTrainIn
  split
  · exact refl s
  · exact (modMku s _).trans ((testCarDue _).trans (judgePermit _))

theorem requestCarShift : GaugesKept s s.requestCarShift.1 := by
  unfold State.requestCarShift
  split
  · exact refl s
  · exact (modMku s _).trans ((ite_along (testCarDue _) (of_direct (direct_setEvent _ _))).trans (judgePermit _))

theorem requestTrainOut : GaugesKept s s.requestTrainOut.1 := (modMku s _).trans (judgePermit _)

theorem requestOverflowClear (st : Station) (src : Nat) : GaugesKept s (s.requestOverflowClear st src).1 := by
  unfold State.requestOverflowClear
  split
  · exact refl s
  · exact of_direct (direct_clearOverflow s)

theorem requestFaultClear (st : Station) (cls src : Nat) : GaugesKept s (s.requestFaultClear st cls src).1 := by
  unfold State.requestFaultClear
  split_ifs
  · exact requestOverflowClear s st src
  · exact refl s
  · repeat' split
    case h_2.isFalse => exact of_direct (direct_removeEntry s _)
    all_goals exact refl s

theorem ownerOf (st : Station) (code : Nat) (data : List Payload) : GaugesKept s (ownerOf st code data s).1 := by
  unfold Machine.ownerOf
  split
  · exact requestConfigure s _
  · exact requestReference s _
  · exact requestStart s
  · exact requestStop s
  · exact requestLevel s _
  · exact requestRing s _ _
  · exact releaseFirst s
  · exact requestClaim s _
  · exact requestWithdraw s _
  · exact requestPlaced s _
  · exact requestSuspend s _
  · exact requestResume s _
  · exact requestTrainIn s _ _
  · exact requestCarShift s
  · exact requestTrainOut s
  · exact requestMeasure s st _
  · exact requestFaultClear s st _ _
  · exact requestPortReset s st

/-! ## The other commands -/

theorem closeFrame (st : Station) (data : List LinkWord) (extraBits : Nat) : GaugesKept s (s.closeFrame st data extraBits) := by
  unfold State.closeFrame
  split
  · exact refl s
  · unfold State.finishFrame
    split
    · exact failFrame ..
    · exact (attended s st).trans (settled _)
    · exact request fun u => ownerOf u st _ _

theorem pulse (g : GroupIx) (extending : Bool) : GaugesKept s (s.pulse g extending) := by
  have hdirect := direct_pulse s g extending
  exact of_links (congrArg Direct.records hdirect :) (congrArg Direct.ports hdirect :)

theorem takeRevolution : GaugesKept s s.takeRevolution := by
  have hmeasured : GaugesKept s s.measurePulse := of_links rfl rfl
  exact hmeasured.trans (of_direct (by simp [State.takeRevolution]))

theorem expireStopTimer : GaugesKept s s.expireStopTimer := by
  have hstopped : GaugesKept s (s.modAdu fun a => { a with stopTimer := none, cutter := .stopped }) := of_links rfl rfl
  have hlost (t : State) : GaugesKept t (t.setEvent .standstillReached).enterStandstill := of_direct (by simp)
  exact ite_along (ite_along (hstopped.trans (hlost _)) hstopped) (refl s)

theorem expireWait (pc : Piece) : GaugesKept s (s.expireWait pc) := by
  have hgone : GaugesKept s (((s.dequeue pc).setEvent .claimExpired).modRecord fun r =>
      { r with claimsExpired := addUpTo 32767 r.claimsExpired 1 }) := by
    have hdequeued : GaugesKept s ((s.dequeue pc).setEvent .claimExpired) := of_direct (by simp)
    exact hdequeued.trans (of_links rfl rfl)
  exact ite_along (ite_along (hgone.trans (of_direct (direct_examineHead _))) hgone) (refl s)

theorem assertStop : GaugesKept s s.assertStop := by
  have hdirect := direct_assertStop s
  exact of_links (congrArg Direct.records hdirect :) (congrArg Direct.ports hdirect :)

theorem releaseStop : GaugesKept s s.releaseStop := by
  have hdirect := direct_releaseStop s
  exact of_links (congrArg Direct.records hdirect :) (congrArg Direct.ports hdirect :)

theorem deviceReset : GaugesKept s s.deviceReset where
  records m _ := reset_recordsSound m
  ports st _ := reset_portsSound st

theorem run {s t : State} {f : State → State} (h : s.run f = .next t) (hf : GaugesKept s (f s)) : GaugesKept s t := by
  cases h
  exact ite_along (refl s) hf

/-- Every command keeps the records and the ports sound. -/
theorem exec {i : Instr} {s t : State} (h : exec i s = .next t) : GaugesKept s t := by
  cases i with dsimp only [Machine.exec] at h
  | deviceReset => cases h; exact deviceReset s
  | resetRelease => cases h; exact of_links rfl rfl
  | secondsTick => exact run h (of_links rfl rfl)
  | strokePulse g e => exact run h ((pulse s g e).trans (settled _))
  | dwellTimeExpiry g => exact run h ((of_direct (direct_expireDwell s g)).trans (settled _))
  | revolutionPulse => exact run h ((takeRevolution s).trans (settled _))
  | stopTimerExpiry => exact run h ((expireStopTimer s).trans (settled _))
  | spinupTimeExpiry => exact run h ((of_direct (direct_expireSpinup s)).trans (settled _))
  | estopAssert => cases h; exact ite_along (of_links rfl rfl) (ite_along (refl s) ((assertStop s).trans (settled _)))
  | estopRelease => cases h; exact ite_along (of_links rfl rfl) (ite_along ((releaseStop s).trans (settled _)) (refl s))
  | selectActive st => exact run h (openFrame s st)
  | headerCheck st w => exact run h (takeHeader s st w)
  | linkWordSent st => exact run h (wordSent s st)
  | frameEnd st data extra => exact run h (closeFrame s st data extra)
  | configure pairs => exact run h (request fun u => requestConfigure u pairs)
  | referenceStrokes values => exact run h (ite_along (request fun u => requestReference u _) (failFrame ..))
  | advanceStart => exact run h (request requestStart)
  | advanceStop => exact run h (request requestStop)
  | setLevel v => exact run h (request fun u => requestLevel u _)
  | ringBegin n k => exact run h (request fun u => requestRing u _ _)
  | firstFaultRelease => exact run h (request releaseFirst)
  | claimPiece c => exact run h (request fun u => requestClaim u _)
  | withdrawPiece c => exact run h (request fun u => requestWithdraw u _)
  | piecePlaced c => exact run h (request fun u => requestPlaced u _)
  | lineSuspend l => exact run h (request fun u => requestSuspend u _)
  | lineResume l => exact run h (request fun u => requestResume u _)
  | trainIn n c => exact run h (request fun u => requestTrainIn u _ _)
  | carShift => exact run h (request requestCarShift)
  | trainOut => exact run h (request requestTrainOut)
  | measure st pairs => exact run h (request fun u => requestMeasure u st pairs)
  | faultClear st c n => exact run h (request fun u => requestFaultClear u st _ _)
  | overflowClear st n => exact run h (request fun u => requestOverflowClear u st _)
  | portReset st => exact run h (request fun u => requestPortReset u st)
  | silenceTimeExpiry st => exact run h ((expireSilence s st).trans (settled _))
  | freshLimitPassed m => exact run h ((enterStale s m).trans (settled _))
  | groutSecondTick => exact run h ((of_direct (direct_groutTick s)).trans (settled _))
  | muckSecondTick => exact run h ((of_direct (direct_muckTick s)).trans (settled _))
  | retryTimeExpiry key => exact run h ((of_direct (direct_expireRetry s key)).trans (settled _))
  | pieceTimerExpiry pc => exact run h ((of_direct (direct_expirePieceTimer s pc)).trans (settled _))
  | queueWaitExpiry pc => exact run h ((expireWait s pc).trans (settled _))

/-! ## The passing of time -/

theorem passMs : GaugesKept s s.passMs where
  records m hm := by
    have haged : s.passMs.meas m = { s.meas m with age := (s.meas m).age.map fun a => addUpTo ageTop a 1 } := by
      simp [State.meas, State.passMs]
    rw [haged]
    exact hm.aged _
  ports st hst := by
    have hcounted : s.passMs.port st = { s.port st with silence := countDown (s.port st).silence } := by
      simp [State.port, State.passMs]
    rw [hcounted]
    exact hst.counted

/-- What falls due in one ms is run as commands are, so it keeps the records and the ports as they do. -/
theorem runIfDue (i : Instr) : GaugesKept s (s.runIfDue i) := by
  unfold State.runIfDue
  refine ite_along ?_ (refl s)
  split
  · next h => exact exec h
  · exact refl s

theorem tick : GaugesKept s s.tick := by
  cases hr : s.resetActive with
  | true => rw [tick_held hr]; exact refl s
  | false =>
    rw [tick_awake hr, runDue_eq (s := s.passMs) hr]
    exact (passMs s).trans ((foldl runIfDue _ _).trans (foldl runIfDue _ _))

theorem step {t : State} (h : step s = .next t) : GaugesKept s t := by
  cases hp : s.pending with
  | nil => rw [step_of_empty hp] at h; cases h; exact tick s
  | cons i rest =>
    rw [step_of_cons hp] at h
    have hrest : GaugesKept s { s with pending := rest } := of_links rfl rfl
    exact hrest.trans (exec h)

end

end GaugesKept

/-- Settles O59: a report, the passing of a limit and a judged policy each leave a sound record, a frame and a silence time each a
sound port, and whatever a command sets going touches neither. -/
theorem recordsAndPortsStaySound : Obligations.RecordsAndPortsStaySound := fun s t hs h => by
  obtain ⟨hrecords, hports⟩ := hs
  have hkept := GaugesKept.step s h
  exact ⟨(recordsSound_iff t).mpr fun m => hkept.records m ((recordsSound_iff s).mp hrecords m),
    (portsSound_iff t).mpr fun st => hkept.ports st ((portsSound_iff s).mp hports st)⟩

end Sys2Proof.Machine
end

section
/-! A record that passes its freshness limit, and a station whose silence time runs out (R95, R116, R132, R133, R164, R165). -/

namespace Sys2Proof.Machine

/-! ## The freshness limit -/

theorem modMeas_modMeas (s : State) (m : MeasIx) (f g : MeasRecord → MeasRecord) :
    (s.modMeas m f).modMeas m g = s.modMeas m fun r => g (f r) := by
  simp only [State.modMeas, modAt_modAt]

/-- The part with a record gone STALE: no value, and degraded where its level is then held (R132, R133; log entry 19). -/
def State.staled (s : State) (m : MeasIx) : State :=
  s.modMeas m fun r =>
    { r with
      state := .stale, value := none, age := some (max (s.item (.freshLimit m) + 1) (r.age.getD 0))
      degraded := decide (m.val < 8 ∧ s.item (.novalPolicy m) = 1) }

/-- A counter's meter has no valid last counter from now on (R95, R116). -/
def State.unmetered (s : State) (m : MeasIx) : State :=
  if m = 14 then s.modMku fun k => { k with counterValid := false }
  else if h : 8 ≤ m.val ∧ m.val < 14 then s.modLine ⟨m.val - 8, by omega⟩ fun l => { l with counterValid := false }
  else s

theorem invalidateCounter_eq (s : State) (m : MeasIx) : s.invalidateCounter m = s.unmetered m := by
  unfold State.invalidateCounter State.unmetered
  rcases meas_cases m with hm | ⟨p, hm⟩ | ⟨p, hm⟩ | hm
  case inr.inr.inl =>
    rw [if_neg (by omega), dif_pos (by omega : m.val < 14), if_neg (ne_belt (by omega)), dif_pos (by omega : 8 ≤ m.val ∧ m.val < 14)]
  case inr.inr.inr =>
    subst hm
    rfl
  all_goals rw [if_pos (by omega : m.val < 8), if_neg (ne_belt (by omega)), dif_neg (by omega)]

theorem enterStale_fresh {s : State} {m : MeasIx} (h : (s.meas m).state = .fresh) : s.enterStale m = (s.staled m).unmetered m := by
  have hheld (f : MeasRecord → MeasRecord) (hf : (f (s.meas m)).state = .stale) :
      (s.modMeas m f).holds m = decide (m.val < 8 ∧ s.item (.novalPolicy m) = 1) := by
    unfold State.holds
    rw [modMeas_meas, if_pos rfl, hf]
    simp only [true_and]
    rfl
  unfold State.enterStale
  rw [if_pos (by simp [h]), invalidateCounter_eq, judgeDegraded_eq, hheld _ rfl, modMeas_modMeas]
  rfl

theorem enterStale_other {s : State} {m : MeasIx} (h : (s.meas m).state ≠ .fresh) : s.enterStale m = s := if_neg (by simpa using h)

theorem exec_freshLimitPassed (m : MeasIx) (s : State) :
    exec (.freshLimitPassed m) s = s.run fun t => (t.enterStale m).settled := rfl

/-! ## The silence time -/

theorem exec_silenceTimeExpiry (st : Station) (s : State) :
    exec (.silenceTimeExpiry st) s = s.run fun t => (t.expireSilence st).settled := rfl

/-- The part with a station absent and its silence time stopped (R164). -/
def State.silenced (s : State) (st : Station) : State := s.modPort st fun p => { p with present := false, silence := none }

theorem expireSilence_running {s : State} {st : Station} (h : (s.port st).silence.isSome = true) :
    s.expireSilence st = s.silenced st := if_pos h

theorem expireSilence_stopped {s : State} {st : Station} (h : (s.port st).silence.isSome = false) : s.expireSilence st = s :=
  if_neg (by simp [h])

theorem obliged_silenced (s : State) (st st' : Station) : (s.silenced st).obliged st' = s.obliged st' := by
  have hheard : ((s.silenced st).port .cabin).heard = (s.port .cabin).heard := by
    rw [State.silenced, modPort_port]
    split <;> rfl
  cases st' with
  | cabin => exact hheard
  | erector | grout | muck => rfl

/-- Where the station is not obliged to be present, its absence is no condition (R165). -/
theorem condition_silenced {s : State} {st : Station} (h : s.obliged st = false) (key : FaultKey) :
    (s.silenced st).condition key = s.condition key := by
  cases key with
  | stationSilent st' =>
    change (!((s.silenced st).port st').present && (s.silenced st).obliged st') = (!(s.port st').present && s.obliged st')
    rw [obliged_silenced, State.silenced, modPort_port]
    split
    · next e => subst e; simp [h]
    · rfl
  | _ => rfl

theorem quiet_silenced {s : State} {st : Station} (h : s.obliged st = false) : (s.silenced st).quiet = s.quiet := by
  have hunmarked : (s.silenced st).unmarked = s.unmarked := by
    unfold State.unmarked
    simp only [condition_silenced h]
    rfl
  unfold State.quiet
  rw [hunmarked]
  rfl

/-! ## The statement -/

/-- Settles O40: each expiry changes its record and meter or its port, and what that sets going leaves `State.direct`. -/
theorem recordsGoStaleAndStationsAbsent : Obligations.RecordsGoStaleAndStationsAbsent := by
  refine ⟨?_, fun s st hr => ⟨⟨_, by rw [exec_silenceTimeExpiry, run_awake hr], ?_⟩, ?_⟩⟩
  · intro s m hr u w
    refine ⟨_, by rw [exec_freshLimitPassed, run_awake hr], ?_⟩
    rw [direct_settled]
    split
    · next hfresh => exact congrArg State.direct (enterStale_fresh hfresh)
    · next hother => exact congrArg State.direct (enterStale_other hother)
  · rw [direct_settled]
    split
    · next hruns => exact congrArg State.direct (expireSilence_running hruns)
    · next hstopped => exact congrArg State.direct (expireSilence_stopped (Bool.eq_false_iff.mpr hstopped))
  · intro hcalm hruns _ hfree
    rw [exec_silenceTimeExpiry]
    exact run_calm hcalm (expireSilence_running hruns) ((quiet_silenced hfree).trans (calm_iff.mp hcalm).2)

end Sys2Proof.Machine
end

section
/-! MEASURE: one pair taken or skipped, several in their order, and the consumer of each measurement (R130, R131). -/

namespace Sys2Proof.Machine

/-! ## The pairs -/

theorem measOf_eq_some {n : Nat} {m : MeasIx} : measOf n = some m ↔ n = m.val := by
  unfold measOf
  split
  · next h => exact ⟨fun e => by cases e; rfl, fun e => congrArg some (Fin.ext e)⟩
  · next h => exact ⟨nofun, fun e => absurd (e ▸ m.isLt) h⟩

/-- The pair of `number` from `st` is one of the station's own and names M*m* (R130). -/
def ownPair (st : Station) (m : MeasIx) (number : Nat) : Prop := number = m.val ∧ stationOfMeas m = st

theorem pairTarget_eq_ok {st : Station} {number : Nat} {m : MeasIx} : pairTarget st number = .ok m ↔ ownPair st m number := by
  unfold pairTarget ownPair
  cases h : measOf number with
  | none =>
    refine ⟨nofun, fun hown => ?_⟩
    rw [measOf_eq_some.mpr hown.1] at h
    cases h
  | some k =>
    have hk := measOf_eq_some.mp h
    dsimp only
    constructor
    · intro e
      split at e
      · next hst => cases e; exact ⟨hk, by simpa using hst⟩
      · cases e
    · rintro ⟨hm, hst⟩
      obtain rfl : k = m := Fin.ext (hk.symm.trans hm)
      rw [if_pos (by simpa using hst)]

theorem pairTarget_unnumbered (st : Station) {number : Nat} (h : 14 < number) : pairTarget st number = .error 21 := by
  have hnone : measOf number = none := dif_neg (by omega)
  unfold pairTarget
  rw [hnone]

theorem pairTarget_foreign {st : Station} {number : Nat} {m : MeasIx} (hm : number = m.val) (h : stationOfMeas m ≠ st) :
    pairTarget st number = .error 20 := by
  unfold pairTarget
  rw [measOf_eq_some.mpr hm]
  exact if_neg (by simpa using h)

/-- One pair of MEASURE: the station's own is taken and followed to its end, another is passed over (R130). -/
def State.takePair (s : State) (st : Station) (pr : Payload × Payload) : State :=
  match pairTarget st pr.1.toNat with
  | .ok m => (s.takeReport m pr.2.toNat).settled
  | .error _ => s

theorem takePairs_eq (s : State) (st : Station) (pairs : List (Payload × Payload)) :
    s.takePairs st pairs = pairs.foldl (fun t pr => t.takePair st pr) s := rfl

theorem takePair_own {st : Station} {m : MeasIx} {pr : Payload × Payload} (h : ownPair st m pr.1.toNat) (s : State) :
    s.takePair st pr = (s.takeReport m pr.2.toNat).settled := by
  unfold State.takePair
  rw [pairTarget_eq_ok.mpr h]

theorem takePair_skipped {st : Station} {r : Nat} {pr : Payload × Payload} (h : pairTarget st pr.1.toNat = .error r) (s : State) :
    s.takePair st pr = s := by
  unfold State.takePair
  rw [h]

theorem takePair_eq (s : State) (st : Station) (pr : Payload × Payload) :
    s.takePair st pr =
      match measOf pr.1.toNat with
      | none => s
      | some m => if stationOfMeas m = st then (s.takeReport m pr.2.toNat).settled else s := by
  unfold State.takePair pairTarget
  cases measOf pr.1.toNat with
  | none => rfl
  | some m =>
    dsimp only
    by_cases hm : stationOfMeas m = st <;> simp [hm]

/-- The reason of a pair that is passed over (R130). -/
def skipReason (st : Station) (pr : Payload × Payload) : Option Nat :=
  match measOf pr.1.toNat with
  | none => some 21
  | some m => if stationOfMeas m = st then none else some 20

/-- The answer of MEASURE for the reasons of its skips: that of the first stands (R130). -/
def skipsReply : List Nat → Reply
  | [] => .accepted
  | r :: rest => { outcome := .partialTaken, reason := r, skip := rest.length + 1 }

theorem measureReply_eq (st : Station) (pairs : List (Payload × Payload)) :
    measureReply st pairs = skipsReply (pairs.filterMap (skipReason st)) := by
  have hskips : pairs.filterMap (skipReason st) = pairs.filterMap fun pr =>
      match pairTarget st pr.1.toNat with | .error r => some r | .ok _ => none := by
    congr 1
    funext pr
    unfold skipReason pairTarget
    cases measOf pr.1.toNat with
    | none => rfl
    | some m =>
      dsimp only
      by_cases hm : stationOfMeas m = st <;> simp [hm]
  rw [hskips]
  unfold measureReply
  generalize pairs.filterMap _ = skips
  cases skips <;> rfl

/-! ## The request -/

theorem requestMeasure_miscounted {s : State} {st : Station} {pairs : List (Payload × Payload)}
    (h : pairs.length = 0 ∨ 8 < pairs.length) : s.requestMeasure st pairs = (s, .refusedRange 10) := if_pos (by omega)

theorem requestMeasure_counted {pairs : List (Payload × Payload)} (h1 : 1 ≤ pairs.length) (h8 : pairs.length ≤ 8) (s : State)
    (st : Station) : s.requestMeasure st pairs = (s.takePairs st pairs, skipsReply (pairs.filterMap (skipReason st))) :=
  (if_neg (by omega)).trans (by rw [measureReply_eq])

theorem requestMeasure_skipped {st : Station} {r : Nat} {pr : Payload × Payload} (h : pairTarget st pr.1.toNat = .error r) (s : State) :
    s.requestMeasure st [pr] = (s, { outcome := .partialTaken, reason := r, skip := 1 }) := by
  have hpairs : s.takePairs st [pr] = s := takePair_skipped h s
  simp [State.requestMeasure, hpairs, measureReply, h]

theorem requestMeasure_own {st : Station} {m : MeasIx} {pr : Payload × Payload} (h : ownPair st m pr.1.toNat) (s : State) :
    s.requestMeasure st [pr] = ((s.takeReport m pr.2.toNat).settled, .accepted) := by
  have hpairs : s.takePairs st [pr] = (s.takeReport m pr.2.toNat).settled := takePair_own h s
  simp [State.requestMeasure, hpairs, measureReply, pairTarget_eq_ok.mpr h]

/-! ## What MEASURE leaves -/

/-- Of what only commands change, a request leaves what its owner and the answer leave. -/
theorem direct_request {s u : State} {st : Station} {code : Nat} {owner : State → State × Reply} {r : Reply}
    (h : owner (s.attended st).settled = (u, r)) : (s.request st code owner).direct = (u.answer st code r).direct := by
  have hanswer (a : State × Reply) : (a.1.modPort st fun p => p.writeSlot code a.2) = a.1.answer st code a.2 := rfl
  have ha : ((s.endFrame st).renewPresence st).settled = (s.attended st).settled := rfl
  unfold State.request
  rw [direct_settled, hanswer, ha, h]

theorem takeReport_direct_congr {s t : State} (h : s.direct = t.direct) (m : MeasIx) (x : Nat) :
    (s.takeReport m x).direct =
      { ((t.reported m x).metered m (min x (rangeTop m))).direct with cars := (s.takeReport m x).mku.cars } := by
  have hreported : (s.reported m x).direct = (t.reported m x).direct := by
    unfold State.reported
    rw [direct_modMeas, direct_modMeas, h]
  rw [direct_takeReport, metered_direct_congr hreported]

/-- Only the belt counter's report moves the cars (R117). -/
theorem takeReport_cars {m : MeasIx} (h : m ≠ 14) (s : State) (x : Nat) : (s.takeReport m x).mku.cars = s.mku.cars := by
  have hmeter (u : State) (v : Nat) : (u.metered m v).mku.cars = u.mku.cars := by
    unfold State.metered
    rw [if_neg h]
    split <;> rfl
  have hface (u : State) (v : Nat) : (u.faceRaised m v).mku.cars = u.mku.cars := by
    unfold State.faceRaised
    split <;> rfl
  have hpassed (u : State) (v : Nat) : (u.passValue m v).mku.cars = (u.metered m v).mku.cars :=
    congrArg Direct.cars (direct_passValue_of_ne h u v)
  rw [takeReport_eq, hpassed, hmeter, hface]
  rfl

theorem meas_of_direct {s t : State} (h : t.direct = s.direct) (m : MeasIx) : t.meas m = s.meas m :=
  congrArg (fun d : Direct => d.records[m]) h

theorem takeReport_meas (s : State) (k m : MeasIx) (x : Nat) :
    (s.takeReport k x).meas m = if k = m then reportRecord m x else s.meas m := by
  have hrecords : (s.takeReport k x).meas m = (s.reported k x).meas m :=
    congrArg (fun v : Vector MeasRecord 15 => v[m]) (takeReport_records s k x)
  rw [hrecords, State.reported, modMeas_meas]
  split
  · next e => rw [e]
  · rfl

/-- The last of the station's own pairs for a measurement, if there is one. -/
def lastOwn (st : Station) (m : MeasIx) (pairs : List (Payload × Payload)) : Option (Payload × Payload) :=
  pairs.reverse.find? fun pr => decide (pr.1.toNat = m.val) && decide (stationOfMeas m = st)

theorem takePair_meas (s : State) (st : Station) (pr : Payload × Payload) (m : MeasIx) :
    (s.takePair st pr).meas m =
      if pr.1.toNat = m.val ∧ stationOfMeas m = st then reportRecord m pr.2.toNat else s.meas m := by
  cases h : pairTarget st pr.1.toNat with
  | error r =>
    have hnot : ¬ownPair st m pr.1.toNat := fun hown => by
      rw [pairTarget_eq_ok.mpr hown] at h
      cases h
    rw [takePair_skipped h]
    exact (if_neg hnot).symm
  | ok k =>
    have hown := pairTarget_eq_ok.mp h
    have hsame : k = m ↔ pr.1.toNat = m.val ∧ stationOfMeas m = st :=
      ⟨fun e => e ▸ hown, fun hm => Fin.ext (hown.1.symm.trans hm.1)⟩
    rw [takePair_own hown, meas_of_direct (direct_settled _), takeReport_meas]
    simp only [hsame]

/-- Each record holds the last pair that was taken for it (R131). -/
theorem takePairs_meas (s : State) (st : Station) (pairs : List (Payload × Payload)) (m : MeasIx) :
    (s.takePairs st pairs).meas m = (lastOwn st m pairs).elim (s.meas m) fun pr => reportRecord m pr.2.toNat := by
  rw [takePairs_eq]
  induction pairs using List.reverseRecOn with
  | nil => rfl
  | append_singleton pairs pr ih =>
    rw [List.foldl_append, List.foldl_cons, List.foldl_nil, takePair_meas]
    unfold lastOwn at ih ⊢
    rw [List.reverse_append, List.reverse_singleton, List.singleton_append, List.find?_cons]
    by_cases hown : pr.1.toNat = m.val ∧ stationOfMeas m = st
    · simp [hown]
    · rw [if_neg hown, ih]
      have hpassed : (decide (pr.1.toNat = m.val) && decide (stationOfMeas m = st)) = false := by simpa using hown
      rw [hpassed]

/-! ## The command -/

theorem exec_measure_awake {s : State} (h : s.resetActive = false) (st : Station) (pairs : List (Payload × Payload)) :
    exec (.measure st pairs) s = .next (s.request st 40 fun u => u.requestMeasure st pairs) := by
  rw [exec_measure, run_awake h]

/-- One pair of the station's own is taken (R130, R131). -/
theorem exec_measure_own {s : State} {st : Station} {m : MeasIx} {pr : Payload × Payload} (hr : s.resetActive = false)
    (hown : ownPair st m pr.1.toNat) :
    ∃ t, exec (.measure st [pr]) s = .next t ∧
      t.direct = { ((((s.attended st).reported m pr.2.toNat).metered m (min pr.2.toNat (rangeTop m))).answer st 40 .accepted).direct with
        cars := t.mku.cars } ∧ (m ≠ 14 → t.mku.cars = s.mku.cars) := by
  have htaken := takeReport_direct_congr (direct_settled (s.attended st)) m pr.2.toNat
  have hanswered := direct_request (code := 40) (owner := fun u => u.requestMeasure st [pr])
    (requestMeasure_own hown (s.attended st).settled)
  rw [direct_answer, direct_settled] at hanswered
  refine ⟨_, exec_measure_awake hr st [pr], ?_⟩
  generalize (s.request st 40 fun u => u.requestMeasure st [pr]) = t at hanswered ⊢
  have hcars : t.mku.cars = ((s.attended st).settled.takeReport m pr.2.toNat).mku.cars := congrArg Direct.cars hanswered
  refine ⟨?_, fun hm => ?_⟩
  · rw [hanswered, hcars, direct_answer, htaken]
  · have hkept := takeReport_cars hm (s.attended st).settled pr.2.toNat
    exact hcars.trans (hkept.trans (congrArg Direct.cars (direct_settled (s.attended st))))

/-- Several pairs are taken in their order, and each record then holds the last of its own (R130, R131). -/
theorem exec_measure_several {s : State} (hr : s.resetActive = false) (st : Station) {pairs : List (Payload × Payload)}
    (h1 : 1 ≤ pairs.length) (h8 : pairs.length ≤ 8) :
    let reply := skipsReply (pairs.filterMap (skipReason st))
    exec (.measure st pairs) s = .next (((s.attended st).settled.takePairs st pairs).answer st 40 reply).settled ∧
    ((((s.attended st).settled.takePairs st pairs).answer st 40 reply).settled.port st).slot =
      { request := 40, outcome := reply.outcome, reason := reply.reason, skip := reply.skip, shown := false } ∧
    ∀ m, (((s.attended st).settled.takePairs st pairs).answer st 40 reply).settled.meas m =
      (lastOwn st m pairs).elim (s.meas m) fun pr => reportRecord m pr.2.toNat := by
  have howner := requestMeasure_counted h1 h8 (s.attended st).settled st
  refine ⟨?_, ?_, fun m => ?_⟩
  · rw [exec_measure_awake hr]
    exact congrArg (fun a : State × Reply => Host.Outcome.next (a.1.answer st 40 a.2).settled) howner
  · rw [settled_slot, State.answer, modPort_port, if_pos rfl]
    rfl
  · have hfound : (s.attended st).settled.meas m = s.meas m := meas_of_direct (direct_settled _) m
    rw [meas_of_direct (direct_settled _), ← hfound, ← takePairs_meas]
    rfl

/-! ## The consumers -/

theorem ne_face {m : MeasIx} (h : 0 < m.val) : m ≠ 0 := by
  rintro rfl
  exact absurd h (by decide)

section
variable (s : State) {m : MeasIx} (x : Nat)

theorem faceRaised_other (h : m ≠ 0) (v : Nat) : s.faceRaised m v = s := if_neg fun h0 => h (Fin.ext h0)

theorem takeReport_face :
    s.takeReport 0 x =
      { s.reported 0 x with
        mst := { (s.reported 0 x).mst with maxFace := some (max (min x (rangeTop 0)) (s.mst.maxFace.getD 0)) } } := by
  rw [takeReport_eq, passValue_cabin _ _ (by decide)]
  rfl

theorem takeReport_torque : s.takeReport 1 x = s.reported 1 x := by
  rw [takeReport_eq, passValue_cabin _ _ (by decide), faceRaised_other _ (by decide)]

theorem takeReport_pressure {p : LineIx} (h : m.val = 2 + p.val) : s.takeReport m x = (s.reported m x).takePressure p := by
  rw [takeReport_eq, passValue_pressure _ _ h, faceRaised_other _ (ne_face (by omega))]

theorem takeReport_lineCounter {p : LineIx} (h : m.val = 8 + p.val) :
    s.takeReport m x = (s.reported m x).takeLineCounter p (min x (rangeTop m)) := by
  rw [takeReport_eq, passValue_lineCounter _ _ h, faceRaised_other _ (ne_face (by omega))]

theorem takeReport_beltCounter : s.takeReport 14 x = (s.reported 14 x).takeBeltCounter (min x (rangeTop 14)) := by
  rw [takeReport_eq, faceRaised_other _ (by decide), passValue_belt]

end

/-! ## The statement -/

/-- Settles O32: one pair is a report and its answer; several are reports one after another; and a report is its record and its
consumer. -/
theorem measureTakesItsOwnPairs : Obligations.MeasureTakesItsOwnPairs := by
  refine ⟨⟨?_, ?_⟩, ?_, ?_⟩
  · intro s st m number value hr hm hst v u w
    exact exec_measure_own (pr := (number, value)) hr ⟨hm, hst⟩
  · intro s st number value pairs hready u
    simp only [exec_measure]
    exact ⟨fun h => run_refused hready (requestMeasure_skipped (pairTarget_unnumbered st h) _),
      fun m hm hst => run_refused hready (requestMeasure_skipped (pairTarget_foreign hm hst) _),
      fun h => run_refused hready (requestMeasure_miscounted h)⟩
  · intro s st pairs hr h1 h8 skip skips reply take
    have hskips : skips = pairs.filterMap (skipReason st) := rfl
    have hreply : reply = skipsReply (pairs.filterMap (skipReason st)) := by
      rw [← hskips]
      change (match skips with | [] => Reply.accepted | r :: _ => { outcome := .partialTaken, reason := r, skip := skips.length }) = _
      cases skips <;> rfl
    have htake : pairs.foldl take (s.attended st).settled = (s.attended st).settled.takePairs st pairs := by
      rw [takePairs_eq]
      congr 1
      funext u pr
      exact (takePair_eq u st pr).symm
    obtain ⟨hexec, hslot, hmeas⟩ := exec_measure_several hr st h1 h8
    rw [htake, hreply]
    refine ⟨hexec, _, hexec, hslot, fun m => (hmeas m).trans ?_⟩
    change (pairs.reverse.find? _).elim _ _ = _
    split <;> next hlast => rw [hlast]; rfl
  · intro s m x v r
    refine ⟨?_, ?_, fun p hm => takeReport_pressure s x hm, fun p hm => takeReport_lineCounter s x hm, ?_⟩
    · rintro rfl; exact takeReport_face s x
    · rintro rfl; exact takeReport_torque s x
    · rintro rfl; exact takeReport_beltCounter s x

end Sys2Proof.Machine
end
